-- ==== Sys2Proof/Word.lean ====
section
/-!
DEFINITION. The word types of the module and their plainest arithmetic.
Host objects are 32-bit words (R6); Module Time and the counters of records are 64 bits wide (R1).
-/

namespace Sys2Proof

/-- One byte of an image, a record or a frame. -/
abbrev Byte := BitVec 8

/-- One 32-bit item of a host object (R6). -/
abbrev Word := BitVec 32

/-- A 64-bit quantity: Module Time in ns, or a record number (R1, R560). -/
abbrev Word64 := BitVec 64

/-- A SHA-384 digest, 48 bytes (R37, R584). -/
abbrev Digest := BitVec 384

/-- The 32-bit word holding a natural number, modulo 2^32. -/
abbrev w32 (n : Nat) : Word := BitVec.ofNat 32 n

end Sys2Proof
end

