-- ==== Sys2Proof/Machine/PartsEst.lean ====
section
/-!
DEFINITION. State of the estimation array (R230 to R265): one record per configured cell, per-string integration, the
checkpoint copies in MRAM and the lanes.
-/

namespace Sys2Proof.Machine

/-- A cell's state record (R237) and what the array keeps beside it. -/
structure CellRec where
  /-- z in 2^-30 (R234). -/
  z : Int
  /-- v_a and v_b in nV. -/
  va : Int
  vb : Int
  /-- P_zz, P_za, P_zb, P_aa, P_ab, P_bb in binary32. -/
  p : List Word
  zr : Int
  estSample : Nat
  /-- Capacity in use, mAh, and the scale factors in 2^-12. -/
  cap : Nat
  sRs : Nat
  sCt : Nat
  innov : Int
  /-- 0 UNINIT, 1 TRACKING, 2 COASTING, 3 STALE, 4 HELD (R245). -/
  state : Nat
  tempSub : Bool
  saturated : Bool
  outlierRun : Nat
  lastCorr : Nat
  /-- Instant of the last correction, Module Time. -/
  lastCorrAt : Nat
  /-- Assigned temperature as last confirmed (R233). -/
  temp : Int
  /-- RESET_COV and SET_SOC waiting for the next commit (R252, R260). -/
  covDue : Bool
  setDue : Option Nat
  deriving DecidableEq, Repr

/-- A confirmed current of a snapshot: its instant, channels in mA (R243). -/
structure CurSample where
  instant : Nat
  iA : Int
  iB : Int
  deriving DecidableEq, Repr

/-- The estimation of one string. Instants are Module Time. -/
structure StrEst where
  /-- The target of the next update, once set (R242). -/
  target : Option Nat
  lastUpdate : Option Nat
  /-- Confirmed currents from the last update on, oldest first. -/
  currents : List CurSample
  /-- The first update after a current gap is due (R244). -/
  afterGap : Bool
  /-- Instant at which rest began (R250). -/
  restSince : Option Nat
  /-- Cause of SOP zero as reported, 0 none. -/
  sopZero : Nat
  deriving DecidableEq, Repr

/-- One copy of the checkpoint: sequence count, whether complete, (cell, (z, z_r)) (R256). -/
structure Checkpoint where
  seq : Nat
  ok : Bool
  cells : List (Nat × (Int × Int))
  deriving DecidableEq, Repr

/-- The estimation array. -/
structure EstUnit where
  cells : List (Nat × CellRec)
  strs : List (Nat × StrEst)
  ckpt0 : Checkpoint
  ckpt1 : Checkpoint
  /-- Broken sensors as reported: (node instance, input) (R233). -/
  broken : List (Nat × Nat)
  /-- Run times of each lane's faults within 60 s (R249). -/
  lanes : List (Nat × List Nat)
  deriving DecidableEq, Repr

def CellRec.initial : CellRec :=
  { z := 0, va := 0, vb := 0, p := [0, 0, 0, 0, 0, 0], zr := 0, estSample := 0, cap := 0, sRs := 4096, sCt := 4096
    innov := 0, state := 0, tempSub := false, saturated := false, outlierRun := 0, lastCorr := 0, lastCorrAt := 0
    temp := 0x7FFF, covDue := false, setDue := none }

def StrEst.initial : StrEst :=
  { target := none, lastUpdate := none, currents := [], afterGap := false, restSince := none, sopZero := 0 }

def EstUnit.initial : EstUnit :=
  { cells := [], strs := [], ckpt0 := ⟨0, false, []⟩, ckpt1 := ⟨0, false, []⟩, broken := [], lanes := [] }

end Sys2Proof.Machine
end

