-- ==== Sys2Proof/Machine/PartsLearn.lean ====
section
/-!
DEFINITION. State of the impedance unit and of capacity learning (R266 to R288).
-/

namespace Sys2Proof.Machine

/-- A batch of captures for one scale factor (R271): the sums in binary32, the count, and the first capture's run time. -/
structure Batch where
  sxx : Word
  sxy : Word
  syy : Word
  count : Nat
  firstAt : Nat
  deriving DecidableEq, Repr

/-- A rested OCV point held as an anchor (R275): z₁ in binary32, the string's charge sum then, its instant. -/
structure Anchor where
  z : Word
  sum : Int
  at_ : Nat
  deriving DecidableEq, Repr

/-- What a cell has learned so far beside its record. -/
structure CellLearn where
  rs : Batch
  ct : Batch
  anchor : Option Anchor
  /-- The present rest has already yielded a point (R274). -/
  rested : Bool
  /-- Side of the rejection run (true high) and its length (R278). -/
  side : Bool
  run : Nat
  deriving DecidableEq, Repr

/-- A string's learning. -/
structure StrLearn where
  /-- Next capture sample to examine (R266, R267). -/
  next : Option Nat
  /-- Charge of every confirmed current, in mA·ns × 4, and the newest of them: instant, I_A + I_B (R275). -/
  sum : Int
  last : Option (Nat × Int)
  contactor : Nat
  deriving DecidableEq, Repr

/-- One cell's contributions of a record (R271), with Rs_meas in µΩ and Rct_meas in 0.01 µΩ. -/
structure Contrib where
  cell : Nat
  xRs : Word
  yRs : Word
  xCt : Word
  yCt : Word
  rs : Nat
  rct : Int
  deriving DecidableEq, Repr

/-- A closed record whose results are not yet used: a standby compares CRC and outcome first (R280). -/
structure CapOutcome where
  string : Nat
  s0 : Nat
  crc : Nat
  code : Nat
  di100 : Int
  cells : List Contrib
  leftOut : List (Nat × Nat)
  deriving DecidableEq, Repr

/-- The unit. -/
structure LearnUnit where
  cells : List (Nat × CellLearn)
  strs : List (Nat × StrLearn)
  waiting : List CapOutcome
  deriving DecidableEq, Repr

def Batch.empty : Batch := { sxx := 0, sxy := 0, syy := 0, count := 0, firstAt := 0 }
def CellLearn.initial : CellLearn :=
  { rs := .empty, ct := .empty, anchor := none, rested := false, side := false, run := 0 }
def StrLearn.initial : StrLearn := { next := none, sum := 0, last := none, contactor := 0 }
def LearnUnit.initial : LearnUnit := { cells := [], strs := [], waiting := [] }

end Sys2Proof.Machine
end

