-- ==== Sys2Proof/Machine/PartsLoop.lean ====
section
/-!
DEFINITION. State of the loop engine beside its objects (R396 to R420).
-/

namespace Sys2Proof.Machine

/-- A value in block floating point: m × 2^e (R405). -/
structure Bf where
  m : Int
  e : Int
  deriving DecidableEq, Repr

/-- A running auto-tune (R410 to R412). Times are task time, µs. -/
structure TuneX where
  bias : Word
  out : Word
  /-- 1 after a switch to bias + TUNE_D, 2 after one to bias − TUNE_D, 0 before the first. -/
  relay : Nat
  /-- Task time of the last switch to bias + TUNE_D. -/
  cycleAt : Option Nat
  /-- Task time of the last switch of the relay, or of the start. -/
  switchAt : Nat
  pvMax : Word
  pvMin : Word
  /-- Counted cycles, newest first: period µs and half peak-to-peak amplitude. -/
  cycles : List (Nat × Word)
  /-- The first cycle has been discarded. -/
  first : Bool
  /-- MODE from which TUNE was entered. -/
  former : Nat
  deriving DecidableEq, Repr

/-- What an evaluation leaves beside OUT (R402 to R409): stage values, ramp and tune. -/
structure LoopCore where
  i : Bf
  d : Bf
  xPrev : Bf
  spEff : Word
  ramping : Bool
  rampAt : Nat
  /-- The target of the last evaluation, against which a change of SP is seen (R407). -/
  lastSp : Word
  pvBad : Bool
  badAt : Nat
  satLow : Bool
  satHigh : Bool
  stageSat : Bool
  cascade : Bool
  /-- The slot starts at its next evaluation (R402). -/
  start : Bool
  /-- Task time of the last committed evaluation, if any. -/
  lastEval : Option Nat
  tune : Option TuneX
  deriving DecidableEq, Repr

/-- A staged evaluation: the values it commits, its events, and the release it belongs to. -/
structure LoopStaged where
  core : LoopCore
  /-- The slot's generation, and the changes of gains that the evaluation has taken up. -/
  gen : Nat
  usedGains : Nat
  out : Option Word
  pv : Word
  spSet : Option Word
  dt : Nat
  events : List (Nat × Nat × Nat × Nat)
  release : Nat
  /-- A tune that ended: the abort cause, 0 for a proposal, and for that PROP_KP, PROP_TI, PROP_TD, Ku and Tu. -/
  tuneEnd : Option (Nat × List Word)
  /-- Limit cycles counted. -/
  cycles : Nat
  deriving DecidableEq, Repr

/-- One slot beside its objects. -/
structure LoopX where
  core : LoopCore
  staged : Option LoopStaged
  /-- Advanced by every change of mode or tuning from outside an evaluation. -/
  gen : Nat
  /-- Changes of gains since they last took effect (R403). -/
  gainsDue : Nat
  /-- The multiple for which the slot is due in the present job, and PV_SRC as committed at its release (R369). -/
  due : Option Nat
  relPv : Option Word
  /-- LOOP_PV of the present job. -/
  jobPv : Option Word
  /-- The last LOOP_RESULT returned to the task. -/
  result : Word
  /-- The next task time at which the slot is due (R397), once released. -/
  nextDue : Option Nat
  /-- The slot's mode while HELD hides it: 1 OFF, 2 MANUAL, 3 AUTO. -/
  base : Nat
  /-- An output was ever committed. -/
  everOut : Bool
  deriving DecidableEq, Repr

structure LoopUnit where
  slots : List (Nat × LoopX)
  deriving DecidableEq, Repr

def Bf.zero : Bf := ⟨0, 0⟩
def LoopCore.initial : LoopCore :=
  { i := .zero, d := .zero, xPrev := .zero, spEff := 0, ramping := false, rampAt := 0, lastSp := 0x7FC00000, pvBad := false, badAt := 0
    satLow := false, satHigh := false, stageSat := false, cascade := false, start := true, lastEval := none, tune := none }
def LoopX.initial : LoopX :=
  { core := .initial, staged := none, gen := 0, gainsDue := 0, due := none, relPv := none, jobPv := none
    result := 0, nextDue := none, base := 3, everOut := false }
def LoopUnit.initial : LoopUnit := { slots := [] }

end Sys2Proof.Machine
end

