-- ==== Sys2Proof/Machine/PartsProt.lean ====
section
/-!
DEFINITION. State of protection and of the safety island (R315 to R358) beside their objects.
-/

namespace Sys2Proof.Machine

/-- A fired check waiting for its commit point (R318, R320). -/
structure Trip where
  cause : Nat
  place : Nat
  value : Nat
  sample : Nat
  deriving DecidableEq, Repr

/-- Protection of one string. -/
structure StrProt where
  due : List Trip
  /-- Runs towards COUNT: ((cause, cell or 0), samples) (R319). -/
  runs : List ((Nat × Nat) × Nat)
  /-- Single-sample causes that stand, by (cause, position), so that each fires once while it lasts. -/
  standing : List (Nat × Nat)
  /-- Cells at a warning limit: (side, position) (R318). -/
  warned : List (Nat × Nat)
  /-- Module Time of the trip, kept in MRAM. -/
  trippedAt : Nat
  /-- Run time of the first open committed since the TH1 last reported open (R322). -/
  openAt : Option Nat
  /-- The CONTACTOR is due again at the next commit point (R322). -/
  resend : Bool
  /-- The present inhibition has been reported (R321). -/
  heldSaid : Bool
  deriving DecidableEq, Repr

structure ProtUnit where
  strs : List (Nat × StrProt)
  deriving DecidableEq, Repr

/-- What a partner island reports of a string function (R332): STATE, recorded cause, and whether a cause other than
0x0A is present. -/
structure FuncReport where
  state : Nat
  cause : Nat
  present : Bool
  deriving DecidableEq, Repr

/-- What the island keeps of one node (R327, R329, R340): last accepted sample number, causes present on its latest
accepted data, and consecutive accepted samples without one. -/
structure IslandNode where
  p : Nat
  no : Nat
  conds : List Nat
  good : Nat
  aged : Bool
  deriving DecidableEq, Repr

/-- One string function beside its objects. -/
structure FuncX where
  nodes : List IslandNode
  /-- Runs of values outside a limit: ((cause, cell, sensor or 0xFFFF), samples) (R329). -/
  runs : List ((Nat × Nat) × Nat)
  /-- The island's own stuck-sensor test (R327); its readings are held by run time. -/
  sensors : List (Nat × Nat × List (Nat × Int))
  /-- Samples dropped (R327). -/
  rejected : Nat
  partner : Option FuncReport
  deriving DecidableEq, Repr

/-- One SI channel beside its objects: run times of the fault and of its input changes. -/
structure SiX where
  faultAt : Nat
  deriving DecidableEq, Repr

/-- One SQ channel beside its objects. -/
structure SqX where
  /-- A REARM self-test is running. -/
  rearming : Bool
  /-- The next off-pulse goes to the second switch (R451). -/
  second : Bool
  deriving DecidableEq, Repr

/-- An authorised safety session (R346): the exchange session, its user, the run time of its last write, and whether
it accepts only SET_PASSWORD (R347). -/
structure SafetySession where
  session : Nat
  user : Nat
  lastWrite : Nat
  passwordOnly : Bool
  deriving DecidableEq, Repr

/-- A change-log entry (R348). -/
structure LogEntry where
  seq : Nat
  time : Nat
  user : Nat
  kind : Nat
  state : Nat
  old : Nat
  new : Nat
  chain : Nat
  deriving DecidableEq, Repr

/-- The safety island. -/
structure Island where
  /-- The island runs on verified parameters (R328, R339). -/
  running : Bool
  funcs : List (Nat × FuncX)
  sis : List (Nat × SiX)
  sqs : List (Nat × SqX)
  /-- Causes of R337 now present, by bit. -/
  causes : List Nat
  /-- The partner's lockout notice: recorded causes and causes present. -/
  notice : Option (Nat × Nat)
  /-- Module Time of the lockout, in MRAM. -/
  lockedAt : Nat
  /-- The password key K (R344). -/
  key : Option (List Byte)
  /-- The island's own copy of the safety key of slot 5, X then Y (R345). -/
  safetyKey : Option (List Byte)
  /-- The nonce drawn: bytes, run time and session. -/
  nonce : Option (List Byte × Nat × Nat)
  session : Option SafetySession
  /-- Run times of failed OPENs, newest first, and a block in force (R345). -/
  fails : List Nat
  blocked : Bool
  /-- The change log, newest first (R349). -/
  log : List LogEntry
  deriving DecidableEq, Repr

def StrProt.initial : StrProt :=
  { due := [], runs := [], standing := [], warned := [], trippedAt := 0, openAt := none, resend := false, heldSaid := false }
def ProtUnit.initial : ProtUnit := { strs := [] }
def FuncX.initial : FuncX := { nodes := [], runs := [], sensors := [], rejected := 0, partner := none }
def SiX.initial : SiX := { faultAt := 0 }
def SqX.initial : SqX := { rearming := false, second := false }
def Island.initial : Island :=
  { running := false, funcs := [], sis := [], sqs := [], causes := [], notice := none, lockedAt := 0, key := none
    safetyKey := none, nonce := none, session := none, fails := [], blocked := false, log := [] }

end Sys2Proof.Machine
end

