-- ==== Sys2Proof/Machine/PartsScan.lean ====
section
/-!
DEFINITION. State of the scan scheduler and the Weir (R198 to R229).
-/

namespace Sys2Proof.Machine

/-- The state of an input (R212, R215). -/
inductive Conf where
  | provisional | confirmed | withdrawn
  deriving DecidableEq, Repr

/-- One node's sample in a snapshot (R213). -/
structure NodeSample where
  p : Nat
  status : Nat
  payload : List Byte
  /-- Port of the first good copy. -/
  port : Nat
  two : Bool
  conf : Conf
  patched : Bool
  deriving DecidableEq, Repr

/-- An open snapshot (R204, R205); instants are Module Time. -/
structure Snap where
  no : Nat
  instant : Nat
  /-- CAL_STALE at the instant. -/
  calStale : Bool
  samples : List NodeSample
  deriving DecidableEq, Repr

/-- A closed snapshot waiting on a lockstep standby for the active module's list (R217). -/
structure HeldSnap where
  string : Nat
  snap : Snap
  deriving DecidableEq, Repr

/-- A CAPDATA frame that passes the Weir (R211). -/
structure CapFrame where
  p : Nat
  first : Nat
  status : Nat
  payload : List Byte
  port : Nat
  conf : Conf
  deriving DecidableEq, Repr

/-- An open capture record (R209). -/
structure CapRecord where
  first : Nat
  stepMa : Int
  stepNo : Nat
  deriving DecidableEq, Repr

/-- The newest confirmed sample of a node (R206). -/
structure ConfSample where
  no : Nat
  instant : Nat
  payload : List Byte
  deriving DecidableEq, Repr

/-- One string of the scheduler. -/
structure StrX where
  /-- Rate in force, Hz, and conditions of acceleration as last confirmed (R201): voltage, current. -/
  rate : Nat
  vNear : Bool
  iNear : Bool
  snaps : List Snap
  /-- Number and closing run time of the newest closed snapshot. -/
  lastClosed : Option (Nat × Nat)
  /-- Snapshots degraded in a row. -/
  degraded : Nat
  /-- Slot of the first instant of the next watch window, while in watch (R208). -/
  nextWindow : Option Nat
  /-- First slots of the committed windows, newest first. -/
  windows : List Nat
  frames : List CapFrame
  record : Option CapRecord
  deriving DecidableEq, Repr

/-- A sample withdrawn or replaced, whose readers are to be squashed (R221). -/
structure Withdrawn where
  string : Nat
  no : Nat
  p : Nat
  deriving DecidableEq, Repr

/-- The scan scheduler and the Weir. -/
structure ScanUnit where
  strs : List (Nat × StrX)
  /-- Newest confirmed samples, by node instance. -/
  newest : List (Nat × ConfSample)
  held : List HeldSnap
  /-- Withdrawals whose readers have not been squashed yet. -/
  notices : List Withdrawn
  deriving DecidableEq, Repr

def StrX.initial : StrX :=
  { rate := 0, vNear := false, iNear := false, snaps := [], lastClosed := none, degraded := 0, nextWindow := none
    windows := [], frames := [], record := none }

def ScanUnit.initial : ScanUnit := { strs := [], newest := [], held := [], notices := [] }

end Sys2Proof.Machine
end

