-- ==== Sys2Proof/Machine/PartsTherm.lean ====
section
/-!
DEFINITION. State of balancing and of the thermal supervisor (R289 to R314).
-/

namespace Sys2Proof.Machine

/-- A cell's balancing state (R291). Owed charge is in nAh. -/
structure CellBal where
  episode : Bool
  owed : Nat
  /-- Run time at which the hold-off ends. -/
  holdoff : Option Nat
  ineligible : Bool
  deriving DecidableEq, Repr

/-- A TN16 as the planner sees it. -/
structure NodeBal where
  planned : Nat
  reported : Nat
  /-- Instant of the previous confirmed MEAS. -/
  lastMeas : Option Nat
  excluded : Bool
  /-- Removed from selection until the next round (R294). -/
  removed : Bool
  deriving DecidableEq, Repr

/-- A string's planner. -/
structure StrBal where
  /-- DURATION in force, ms, and the run time of the commit. -/
  duration : Nat
  commitAt : Nat
  /-- The last round planned bleeding. -/
  active : Bool
  bledNah : Nat
  deriving DecidableEq, Repr

/-- One temperature input as the supervisor sees it (R297 to R299). Temperatures are in 0.01 °C. -/
structure Sensor where
  p : Nat
  input : Nat
  /-- (instant, reading) newest first, back to the first one older than 60 s. -/
  hist : List (Nat × Int)
  /-- 0 sound, 1 reading 0x7FFF, 2 stuck. -/
  broken : Nat
  validSince : Option Nat
  lastValid : Int
  warnHi : Bool
  alarmHi : Bool
  rate10 : Bool
  rate60 : Bool
  warnLo : Bool
  alarmLo : Bool
  r10 : Option Int
  r60 : Option Int
  deriving DecidableEq, Repr

/-- A string's thermal supervision. -/
structure StrTherm where
  sensors : List Sensor
  high : Nat
  low : Nat
  highSince : Nat
  lowSince : Nat
  /-- Run time at which the grace began, while it runs (R302). -/
  grace : Option Nat
  enforcedAt : Option Nat
  /-- A snapshot exceeded the enforced bounds: protection opens the string in this cycle (R303). -/
  openDue : Bool
  deriving DecidableEq, Repr

/-- Balancing and thermal supervision. -/
structure ThermUnit where
  cells : List (Nat × CellBal)
  nodes : List (Nat × NodeBal)
  bals : List (Nat × StrBal)
  strs : List (Nat × StrTherm)
  /-- The module's own sensors (R306), and the run time at which its grace began. -/
  modSensors : List Sensor
  modLevelSince : Nat
  modGrace : Option Nat
  modEnforced : Bool
  /-- The partner's level and stretch as the agreement carries them (R307). -/
  partnerLevel : Nat
  partnerStretch : Nat
  deriving DecidableEq, Repr

def CellBal.initial : CellBal := { episode := false, owed := 0, holdoff := none, ineligible := false }
def NodeBal.initial : NodeBal := { planned := 0, reported := 0, lastMeas := none, excluded := false, removed := false }
def StrBal.initial : StrBal := { duration := 0, commitAt := 0, active := false, bledNah := 0 }
def Sensor.initial (p input : Nat) : Sensor :=
  { p := p, input := input, hist := [], broken := 0, validSince := none, lastValid := 0, warnHi := false, alarmHi := false
    rate10 := false, rate60 := false, warnLo := false, alarmLo := false, r10 := none, r60 := none }
def StrTherm.initial : StrTherm :=
  { sensors := [], high := 0, low := 0, highSince := 0, lowSince := 0, grace := none, enforcedAt := none, openDue := false }
def ThermUnit.initial : ThermUnit :=
  { cells := [], nodes := [], bals := [], strs := [], modSensors := [], modLevelSince := 0, modGrace := none
    modEnforced := false, partnerLevel := 0, partnerStretch := 0 }

end Sys2Proof.Machine
end

