-- ==== Sys2Proof/Machine/PartsXRing.lean ====
section
/-!
DEFINITION. The duplicate-result cache (R530) and the exchange rings (R533 to R535) as they stand in a module, and as a
state transfer carries them (R505).
-/

namespace Sys2Proof.Machine

/-- A stored reply (R530). -/
structure CacheRec where
  no : Nat
  type : Nat
  status : Nat
  /-- FLAGS [2] of the reply: the final one of a scoped write. -/
  multi : Bool
  payload : List Byte
  at_ : Nat
  deriving DecidableEq, Repr

/-- A client's stored replies, newest first. -/
structure CacheClient where
  client : Nat
  recs : List CacheRec
  deriving DecidableEq, Repr

/-- A binding (R535). -/
structure RingBind where
  source : Nat
  items : Nat
  mode : Nat
  period : Nat
  deriving DecidableEq, Repr

/-- An exchange ring (R533): its entries oldest first, the sequence of the oldest. -/
structure XRing where
  head : Nat
  entries : List (List Byte)
  overflows : Nat
  /-- Entries dropped in the present run (event 0x1CB). -/
  ovRun : Nat
  bind : Option RingBind
  /-- Run time at which the oldest undrained entry arrived (R571). -/
  since : Option Nat
  deriving DecidableEq, Repr

def XRing.initial : XRing := { head := 0, entries := [], overflows := 0, ovRun := 0, bind := none, since := none }

end Sys2Proof.Machine
end

