-- ==== Sys2Proof/Syntax.lean ====
section
/-!
DEFINITION. The commands and events the block takes: one constructor of `Instr` per row of the table of operations
and events, with the row's operands. A command that a host writes to a command item is the write reaching that item,
rights and port already judged (R522, R661); an event is the occurrence itself, with what it carries.
-/

namespace Sys2Proof

open Sys2Proof.Machine

/-- How the supply stands at POWER_UP, and the static wiring the module reads at BOOT (R15, R640, R656). -/
structure PowerUp where
  /-- True for a hardware reset, false where supply is applied (R22). -/
  hardwareReset : Bool
  inputA : Bool
  inputB : Bool
  /-- An interlock cable is detected (SENSE). -/
  cable : Bool
  /-- UNIT_SEL is grounded by the cable's end marked A. -/
  unitSel : Bool
  deriving DecidableEq, Repr

/-- The causes of FATAL with their LAST_RESTART.CAUSE codes (R22, R33). -/
inductive FatalCause where
  | lockstep | watchdog | memory | clock
  deriving DecidableEq, Repr

/-- Where a symbol error falls (R84, R91). -/
inductive SymbolPlace where
  /-- In either symbol of an ordered set. -/
  | orderedSet
  /-- In a symbol of a frame. -/
  | frame
  /-- In IDLE or another symbol outside frames. -/
  | idle
  /-- A comma found off the established alignment. -/
  | misaligned
  deriving DecidableEq, Repr

/-- Why a receiver finds a frame bad (R116, R121). -/
inductive BadFrame where
  | crc
  | aborted
  | symbolError
  | layout
  /-- A pre-emption rule broken, with the kind that event 0x06B reports (1 to 5). -/
  | preemption (kind : Fin 6)
  deriving DecidableEq, Repr

/-- A configured node by string and position (R5, R7). -/
structure NodeId where
  string : Fin 256
  p : Fin 64
  deriving DecidableEq, Repr

/-- A good frame from a node as it arrives at a ring port (R113). -/
structure NodeFrame where
  port : Fin 512
  opcode : Byte
  srcW : Byte
  srcE : Byte
  status : Byte
  seq : BitVec 32
  payload : List Byte
  deriving DecidableEq, Repr

/-- A PTP Sync or Follow_Up: origin timestamp in ns and correction in ns (R167). -/
structure PtpSync where
  domain : Byte
  seq : BitVec 16
  twoStep : Bool
  origin : Nat
  correction : Int
  deriving DecidableEq, Repr

/-- A PTP Announce (R167). -/
structure PtpAnnounce where
  domain : Byte
  prio1 : Byte
  clockClass : Byte
  accuracy : Byte
  variance : BitVec 16
  prio2 : Byte
  grandmaster : BitVec 64
  stepsRemoved : BitVec 16
  sender : BitVec 80
  utcOffset : BitVec 16
  deriving DecidableEq, Repr

/-- A confirmed sample as it is delivered to the safety island (R325, R327). -/
structure IslandSample where
  string : Fin 256
  p : Byte
  no : BitVec 32
  /-- The CRC-32C the island computes itself equals the frame's. -/
  crcOk : Bool
  payload : List Byte
  /-- The two island cores reach the same decision (R338). -/
  coresAgree : Bool
  deriving DecidableEq, Repr

/-- What the partner island sends over X0 and X1 (R332, R337): its string functions, and its lockout notice with the
causes recorded and the causes present, while it is in lockout. -/
structure IslandMessage where
  funcs : List (Fin 256 × Fin 4 × Fin 11 × Bool)
  lockout : Option (BitVec 5 × BitVec 5)
  deriving DecidableEq, Repr

/-- A CAN frame (R469): the ID word, its length, remote and ESI bits, its data. -/
structure CanFrame where
  id : BitVec 32
  length : Fin 65
  remote : Bool
  esi : Bool
  data : List Byte
  deriving DecidableEq, Repr

/-- An operation on an exchange ring (R533), with its fields. -/
inductive RingOp where
  | put (entries : List (List Byte))
  | peek (fromSeq : BitVec 32) (count : BitVec 16)
  | release (untilSeq : BitVec 32)
  | info
  | bind (source : BitVec 32) (items mode : Byte) (period : BitVec 32)
  | unbind
  | clear
  deriving DecidableEq, Repr

/-- What a job does at its commit point (R369, R370, R426, R465, R467, R469, R536): writes to program variables and
objects, frames placed and cancelled, entries it has read out of an edge FIFO or a receive queue, ring operations. -/
inductive JobWrite where
  | var (var : BitVec 32) (offset : Nat) (data : List Byte)
  | object (addr value : BitVec 32)
  | frame (bus : Fin 16) (f : CanFrame)
  | cancel (bus : Fin 16) (buffer : Fin 32)
  | readEdges (channel : Fin 256) (count : Nat)
  | readFrames (bus : Fin 16) (second : Bool) (count : Nat)
  | readFsk (channel : Fin 64) (count : Nat)
  | ring (ring : BitVec 20) (op : RingOp)
  deriving DecidableEq, Repr

/-- What a finished job leaves: execution time, its staged writes in the order made, and the provisional node samples
in its read set (R220, R363). -/
structure JobResult where
  exec : Nat
  writes : List JobWrite
  reads : List (Fin 256 × BitVec 32 × Fin 64)
  deriving DecidableEq, Repr

/-- A field channel that scores and retires (R454). -/
inductive IoChannel where
  | di (c : Fin 256)
  | dout (c : Fin 128)
  | ao (c : Fin 64)
  deriving DecidableEq, Repr

/-- An error at a transmit buffer (R466, R471): arbitration lost, which is no error, or a transmit error, `exempt` where
ISO 11898-1 excepts it from the count. -/
structure CanTxError where
  buffer : Fin 32
  lostArbitration : Bool
  exempt : Bool
  deriving DecidableEq, Repr

/-- The outcome of a job at its commit point, as the agreement message carries it (R383). -/
inductive JobOutcome where
  | committed | overrun | skipped | aborted
  deriving DecidableEq, Repr

/-- How an exchange request is identified (R523, R529): its client and its request number. -/
structure ReqHead where
  client : BitVec 64
  no : BitVec 32
  deriving DecidableEq, Repr

/-- A connection under a session, or a Modbus connection. -/
inductive Connection where
  | session (s : Fin 68)
  | modbus (c : Fin 8)
  deriving DecidableEq, Repr

/-- The certificate chain a client presents (R598): certificates in it, whether it is one self-signed certificate, the
public key that signed its top certificate, whether every signature and key is of the required kind and verifies,
the validity of the leaf, and whether its usages are those required. -/
structure ClientChain where
  length : Fin 8
  selfSigned : Bool
  topKey : List Byte
  signatures : Bool
  notBefore : BitVec 64
  notAfter : BitVec 64
  usage : Bool
  deriving DecidableEq, Repr

/-- The fields of a new subscription (R537). -/
structure SubFields where
  ring : BitVec 20
  fromSeq : BitVec 32
  provisional : Bool
  ipv6 : Bool
  lease : Byte
  port : BitVec 16
  dest : BitVec 128
  deriving DecidableEq, Repr

/-- The inner request of a FORWARD (R524): READ, WRITE or RING, its own header and payload. -/
structure InnerReq where
  type : Byte
  head : ReqHead
  payload : List Byte
  deriving DecidableEq, Repr

/-- An address that ARP, neighbour discovery or ICMP echo asks for (R518): the identity's, this module's unit address, or
another. -/
inductive NetAddr where
  | identity | unit | other
  deriving DecidableEq, Repr

/-- A write staged for a commit point (R370, R490): what a job writes, items of an object, a ring operation, a
subscription with the SUB_ID and KEY drawn for it, its renewal and its end, a KEY_CMD for slots 16 to 31 with its material
(R588, R597: encrypted under the pair key wherever it crosses the link). -/
inductive HostWrite where
  | job (w : JobWrite)
  | target (addr : Nat) (values : List Word)
  | ring (ring : Nat) (op : RingOp)
  | subscribe (client : Nat) (f : SubFields) (attachment id : Nat) (key : List Byte)
  | renew (client sub lease : Nat)
  | unsubscribe (client sub : Nat)
  | key (slot : Nat) (cmd : Word) (material : List Byte)
  deriving DecidableEq, Repr

/-- A subscription (R537). -/
structure SubX where
  id : Nat
  client : Nat
  fields : SubFields
  /-- Sequence of the next entry to publish, and the wraps since the subscription began. -/
  next : Nat
  epoch : Nat
  /-- Run time at which the lease ends. -/
  leaseEnd : Nat
  key : List Byte
  /-- The attachment the SUBSCRIBE arrived on. -/
  attachment : Nat
  /-- Sample number last published, for a provisional one. -/
  lastSample : Option Nat
  deriving DecidableEq, Repr

/-! ### Cross-link messages (R482, R483) -/

/-- HEARTBEAT: MODE, HEALTH, HEALTH_WORD, FW_VERSION, CATALOGUE_ID, REVISION, words 0 of the three digests, SAFETY_CRC,
the low word of SERIAL and TIME_STATUS. -/
structure PartnerBeat where
  mode : BitVec 32
  health : BitVec 32
  healthWord : BitVec 32
  fw : BitVec 32
  catalogueId : BitVec 32
  revision : BitVec 32
  structDigest : BitVec 32
  retainDigest : BitVec 32
  progDigest : BitVec 32
  safetyCrc : BitVec 32
  serial : BitVec 32
  timeStatus : BitVec 32
  deriving DecidableEq, Repr

/-- One pair-agreed input of AGREE_INPUT (R490). -/
inductive AgreeInput where
  /-- A DI's value and its edge entries up to the boundary (R427). -/
  | di (channel : Fin 256) (value : Bool) (edges : List (BitVec 64))
  /-- Entries of a bus's receive queues, with their times (R470). -/
  | can (bus : Fin 16) (entries : List (CanFrame × BitVec 64))
  /-- Bytes received on an FSK channel (R444). -/
  | fsk (channel : Fin 64) (bytes : List (Byte × Bool))
  /-- A dispatch accepted (R510). -/
  | dispatch (seq : BitVec 32) (words : List (BitVec 32))
  /-- A worker's poll result: its health and mode, or none (R511). -/
  | poll (worker : Fin 64) (result : Option (Byte × Fin 16))
  /-- A host write with the CYCLE_NO of the boundary at which it applies. -/
  | write (cycle : BitVec 32) (w : HostWrite)
  /-- An event-code trigger of a task (R364). -/
  | trigger (task : Fin 64)
  /-- The bytes of a task's RANDOM (R595). -/
  | random (task : Fin 64) (bytes : List Byte)
  deriving DecidableEq, Repr

/-- A confirmed node in AGREE_SNAPSHOT (R217): position, CRC-32C of its payload, the payload. -/
structure AgreedNode where
  p : Fin 64
  crc : BitVec 32
  payload : List Byte
  deriving DecidableEq, Repr

/-- AGREE_COMMIT (R490, R383): the outcomes of the cycle's jobs, DO values, AO targets, its jobs' writes to other pair-agreed
objects by address, free CAN buffers, the identity's PRP
counter, the ring-command digest, and the decisions for the next boundary: the mode's code, and whether OWN passes
(`stop` where the old active then goes to STOP). -/
structure AgreeCommit where
  cycle : BitVec 32
  outcomes : List (Fin 64 × JobOutcome)
  dos : List (Fin 128 × BitVec 32)
  aos : List (Fin 64 × BitVec 32)
  objs : List (BitVec 32 × BitVec 32)
  canFree : List (Fin 16 × Fin 33)
  prpIdentity : BitVec 16
  cmdDigest : BitVec 32
  mode : Option (Fin 8)
  switch : Option Bool
  deriving DecidableEq, Repr

/-- AGREE_DIGESTS (R490): CYCLE_DIGEST, EST_DIGEST per updated string, capture records by string, first sample, CRC and
outcome (R280), BALANCE payload CRCs per string (R296), and the module thermal level and stretch code (R307). -/
structure AgreeDigests where
  cycleDigest : BitVec 32
  est : List (Fin 256 × BitVec 32)
  captures : List (Fin 256 × BitVec 32 × BitVec 32 × Byte)
  balance : List (Fin 256 × BitVec 32)
  level : Fin 3
  stretch : Fin 3
  deriving DecidableEq, Repr

/-- RESULT: a duplicate-result record (R494). -/
structure ResultRec where
  client : BitVec 64
  no : BitVec 32
  type : Byte
  status : BitVec 16
  multi : Bool
  payload : List Byte
  deriving DecidableEq, Repr

/-- Module-wide state at one boundary (R505 step 3): CYCLE_NO, task time, PRP counters, pair-agreed items and the trip
and CONTACT_REQ items by address, program data, suspended tasks' items among the former, pending triggers, loop
states, protection counts, the RETAINED records of its image as VAR, SIZE and TYPE (R385), the duplicate-result cache, rings and subscriptions, the key material of slots 16 to 31 by slot
and KIND, encrypted under the pair key (R597), CYCLE_PHASE in force in ns (R315), the module thermal level. -/
structure ModuleCopy where
  cycleNo : BitVec 32
  taskTime : BitVec 64
  prpPub : BitVec 16
  prpIdentity : BitVec 16
  items : List (BitVec 32 × BitVec 32)
  vars : List (BitVec 32 × List Byte)
  retained : List (BitVec 32 × Nat × Nat)
  triggers : List (Fin 64 × Nat)
  loops : List (Fin 512 × LoopX)
  cache : List CacheClient
  rings : List (BitVec 20 × XRing)
  subs : List SubX
  keys : List (Nat × Nat × List Byte)
  phase : Nat
  level : Fin 3
  deriving DecidableEq, Repr

/-- A string's state at one boundary (R505 step 4). -/
structure StringCopy where
  items : List (BitVec 32 × BitVec 32)
  cells : List (Nat × CellRec)
  checkpoint : List (Nat × (Int × Int))
  est : StrEst
  learn : List (Nat × CellLearn)
  strLearn : StrLearn
  frames : List CapFrame
  balCells : List (Nat × CellBal)
  balNodes : List (Nat × NodeBal)
  bal : StrBal
  therm : StrTherm
  prot : StrProt
  deriving DecidableEq, Repr

/-- TRANSFER (R505): the identity exchange of its step 1, with the sender's device certificate and SERIAL (R597), the module-wide
state, the state of a string. -/
inductive TransferPart where
  | identity (cert serial : List Byte)
  | module_ (m : ModuleCopy)
  | string (n : Fin 256) (c : StringCopy)
  deriving DecidableEq, Repr

/-- REFRESH: a string's estimation records and learning state (R255, R280), a capture outcome (R280), a string's planner
state and BALANCE payload (R296). -/
inductive RefreshPart where
  | est (n : Fin 256) (cells : List (Nat × CellRec)) (learn : List (Nat × CellLearn))
  | capture (o : CapOutcome)
  | planner (n : Fin 256) (cells : List (Nat × CellBal)) (nodes : List (Nat × NodeBal)) (bal : StrBal) (payload : List Byte)
  deriving DecidableEq, Repr

/-- A cross-link message by kind (R483); ISLAND messages are separate, as the islands send them. -/
inductive XMsg where
  | heartbeat (b : PartnerBeat)
  | agreeInput (i : AgreeInput)
  | agreeSnapshot (string : Fin 256) (sampleNo : BitVec 32) (nodes : List AgreedNode)
  | agreeCommit (c : AgreeCommit)
  | agreeDigests (d : AgreeDigests)
  | result (r : ResultRec)
  | resultAck (client : BitVec 64) (no : BitVec 32)
  | transfer (t : TransferPart)
  | refresh (r : RefreshPart)
  deriving DecidableEq, Repr

/-- What a storage port finds on its drive (R569): capacity in GB, and the namespaces by NSID, each with whether its label is
this module's and its size in GB. -/
structure DriveFound where
  capacity : Nat
  spaces : List (Nat × Bool × Nat)
  deriving DecidableEq, Repr

/-- What an Archive write drains (R571): an archive-class ring, sealed records, closed capture records. -/
inductive DrainSrc where
  | ring (k : BitVec 20)
  | records
  | captures
  deriving DecidableEq, Repr

/-- How far a power-fail flush gets where the supply collapses (R563): last-words copies marked valid, whether the journals
and MRAM values were completed by 3 ms, and pages programmed whole. -/
structure Collapse where
  copies : Fin 65
  saved : Bool
  pages : Nat
  deriving DecidableEq, Repr

/-- What a protection-cycle boundary meets outside the digital state: whether the island's cores agree (R338) and the
built-in jobs are finished (R317), the peer's OWN line as read at the boundary and again 2 µs after asserting (R486), the
core pairs whose idle share lies below 15 % with that share (R317), and the AO channels healthy at the partner (R446). -/
structure CycleSeen where
  coresAgree : Bool
  builtInDone : Bool
  peerOwn : Bool
  peerAfter : Bool
  idleLow : List (Fin 4 × Fin 15)
  partnerAo : List (Fin 64)
  deriving DecidableEq, Repr

/-- The commands and events of the block: one constructor per row of the table. -/
inductive Instr where
  /-- POWER_UP (R23). Supply applied or hardware reset takes the module from any mode into BOOT. -/
  | powerUp (p : PowerUp)
  /-- HOLDUP_CHARGED (R640). The hold-up bank reaches 45 V and the module begins BOOT. -/
  | holdupCharged
  /-- BOOTED (R23). Measured boot completes and the module enters LOCKOUT or STOP, applying auto-run conditions. -/
  | booted (measured : Bool) (drives : List (Fin 2 × DriveFound))
/-- CMD_RUN (R23). MODE_CMD RUN starts SOLO, ACTIVE or a resynchronisation to STANDBY depending on role and partner.
  -/
  | cmdRun (session : Fin 68)
/-- CMD_STOP (R23). MODE_CMD STOP takes the module to STOP, switching over first from ACTIVE when a healthy standby
  exists. -/
  | cmdStop (force : Bool)
  /-- CMD_SERVICE (R23). MODE_CMD SERVICE takes the module from STOP or STANDBY into SERVICE. -/
  | cmdService
  /-- END_SERVICE (R23). MODE_CMD END_SERVICE returns the module from SERVICE to the mode it entered SERVICE from. -/
  | endService
/-- SERVICE_DONE (R23). The end of a SERVICE operation returns the module to its former mode, via resynchronisation
  for STANDBY. -/
  | serviceDone
/-- CMD_SWITCH (R497). MODE_CMD SWITCH is evaluated by the active module and, if accepted, passes OWN one cycle
  later. -/
  | cmdSwitch
  /-- CMD_PARK (R23). MODE_CMD PARK takes a running module with open, idle strings into DORMANT. -/
  | cmdPark
  /-- CMD_WAKE (R23). MODE_CMD WAKE, or CMD_RUN in DORMANT, wakes the module as network wake source 3. -/
  | cmdWake (session : Fin 68)
  /-- CMD_RESTART (R28). MODE_CMD RESTART starts a warm or cold restart ending in STOP or running. -/
  | cmdRestart (cold endRun : Bool)
  /-- WARM_RESTART_DONE (R28). A warm restart completes and the module enters its commanded end mode. -/
  | warmRestartDone (dramOk : Bool)
/-- FATAL (R23). A lockstep mismatch, watchdog, uncorrectable memory error or clock-monitor fault releases OWN and
  starts BOOT. -/
  | fatal (cause : FatalCause) (block : BitVec 32)
/-- CLOCK_MONITOR_FAULT (R634). A monitored clock outside its window for 10 µs or a PLL lock loss causes FATAL with
  cause 0x05. -/
  | clockMonitorFault (clock : Fin 7)
  /-- SUPPLY_LOST (R640). Both logic inputs absent for the detection time trigger SUPPLY_LOST. -/
  | supplyLost (voltageA voltageB bank : BitVec 16) (collapse : Option Collapse)
/-- PARTNER_WAIT_EXPIRED (R663). PARTNER_WAIT passes without a partner heartbeat and the waiting module asserts OWN
  and goes ACTIVE. -/
  | partnerWaitExpired
/-- OWN_REQUEST_TIMEOUT (R662). The peer line still asserted HB_TIMEOUT plus three cycles after the run command ends
  it NOT_READY. -/
  | ownRequestTimeout
  /-- RESET_PULSE (R334). A valid reset pulse on an SI channel takes effect at its falling edge. -/
  | resetPulse (channel : Fin 32) (lowMs highMs : Nat)
/-- CAT_PAGE_WRITE (R64). IMAGE_WRITE with TARGET 0 writes one blank 4,096-byte page of the pending Catalogue slot.
  -/
  | catPageWrite (session : Fin 68) (req : ReqHead) (page : Fin 65536) (bytes : List Byte)
  /-- CAT_VALIDATE (R66). CAT_CMD VALIDATE starts the check of the pending slot in flash. -/
  | catValidate
  /-- CAT_VALIDATE_DONE (R66). Validation ends leaving the pending slot VALID or INVALID. -/
  | catValidateDone
  /-- CAT_ACTIVATE (R67). CAT_CMD ACTIVATE enters SERVICE and starts copying and validating the pending image. -/
  | catActivate (session : Fin 68) (cold endRun : Bool)
/-- CAT_COPY_CHECKED (R67). The validated copy completes, the change log is written, the slot selection flips and
  the restart begins. -/
  | catCopyChecked
/-- CATALOGUE_ACTIVATED (R67). The activation restart ends, the island verifies the safety section and SERVICE_DONE
  follows. -/
  | catalogueActivated
  /-- CAT_ERASE (R65). CAT_CMD ERASE starts erasing the whole pending slot. -/
  | catErase
  /-- CAT_ERASE_DONE (R65). The erase ends and the pending slot is EMPTY. -/
  | catEraseDone
  /-- HEARTBEAT_SEND (R85). Every 100 µs each enabled ring port sends HEARTBEAT with ORIGIN 0. -/
  | heartbeatSend
  /-- HEARTBEAT_RECEIVE (R94). A HEARTBEAT received at a port updates its reach once two agree. -/
  | heartbeatReceive (port : Fin 512) (node : Bool) (hops : Fin 64)
  /-- PORT_SILENT (R86). A port without any HEARTBEAT for 300 µs becomes silent. -/
  | portSilent (port : Fin 512)
  /-- SILENT_REACH_EXPIRY (R94). A port silent for 200 µs takes reach 0 at W.n or N + 1 at E.n. -/
  | silentReachExpiry (port : Fin 512)
/-- RING_RETURN_CLOSED (R96). After 1 ms of consistent ORIGIN 0 heartbeats at both ports the ring returns to CLOSED.
  -/
  | ringReturnClosed (string : Fin 256)
  /-- MISWIRED_LEFT (R97). Every HEARTBEAT consistent with N for 1 ms takes the ring out of MISWIRED. -/
  | miswiredLeft (string : Fin 256)
/-- FAULT_RECEIVE (R88). A FAULT ordered set at a port sets FAULT_ACTIVE, records its origin and signals the island.
  -/
  | faultReceive (port : Fin 512) (cause : Fin 4) (hops : Fin 64)
  /-- FAULT_ACTIVE_CLEAR (R88). FAULT_ACTIVE clears 32 µs after the last FAULT on the port. -/
  | faultActiveClear (port : Fin 512)
/-- SYMBOL_ERROR (R84). A code violation or disparity error discards an ordered set or marks a frame bad and scores.
  -/
  | symbolError (port : Fin 512) (symbol : Nat) (place : SymbolPlace)
  /-- LOS_ASSERT (R91). Loss of light at a port is asserted and training restarts at step 1. -/
  | losAssert (port : Fin 512)
  /-- LOS_DEASSERT (R90). Light returns at a port and alignment and training proceed. -/
  | losDeassert (port : Fin 512)
  /-- LINK_UP (R90). After sending and receiving 8 TRAIN_ACK the interface becomes UP. -/
  | linkUp (port : Fin 512)
  /-- TRAINING_FAILURE (R93). An interface with light present not UP for 1 s fails training and is retired. -/
  | trainingFailure (port : Fin 512)
  /-- PORT_LOS_TIMEOUT (R104). LOS lasting longer than 1 s retires the port. -/
  | portLosTimeout (port : Fin 512)
  /-- PORT_OVERRUN (R100). A symbol arriving at a full port FIFO is dropped and the frame marked bad. -/
  | portOverrun (port : Fin 512) (orderedSet : Bool)
  /-- PORT_SCORE_DECAY (R103). Every 10 ms each ring port's error score falls by 1. -/
  | portScoreDecay
  /-- OPTICAL_MEASURE (R111). Every 1 s optical powers are updated and OPTICAL_LOW raised below −15 dBm. -/
  | opticalMeasure (port : Fin 512) (launch received : BitVec 16)
  /-- PORT_RETIRE (R108). PORT_CMD RETIRE retires the port. -/
  | portRetire (port : Fin 512)
  /-- PORT_REINSTATE (R106). PORT_CMD REINSTATE starts a self-test of a retired port. -/
  | portReinstate (port : Fin 512)
  /-- PORT_SELF_TEST_DONE (R106). The port self-test passes returning the port to UP, or fails leaving it retired. -/
  | portSelfTestDone (port : Fin 512) (failedStep : Fin 4)
  /-- PORT_RETRAIN (R101). PORT_CMD RETRAIN resets the port crossing and retrains the link. -/
  | portRetrain (port : Fin 512)
  /-- PORT_CLEAR_COUNTERS (R108). PORT_CMD CLEAR_COUNTERS clears the port's counters. -/
  | portClearCounters (port : Fin 512)
/-- BAD_FRAME (R116). A frame failing CRC, ending in K30.7 or breaking a layout or pre-emption rule is discarded and
  counted. -/
  | badFrame (port : Fin 512) (why : BadFrame)
  /-- REPLY_RECEIVE (R151). A good reply arrives and completes its transaction when the set of replies is complete. -/
  | replyReceive (f : NodeFrame)
  /-- MEAS_RECEIVE (R213). A MEAS copy arrives and makes the node's sample provisional or confirms it. -/
  | measReceive (f : NodeFrame)
  /-- CAPDATA_RECEIVE (R211). A CAPDATA copy arrives and passes the Weir with the watch-window deadline. -/
  | capdataReceive (f : NodeFrame)
  /-- ALERT_RECEIVE (R149). A node ALERT arrives and is deduplicated by position and SEQ. -/
  | alertReceive (f : NodeFrame)
  /-- IDENT_RECEIVE (R144). An IDENT is compared with the NODES record and a mismatch blocks configuration. -/
  | identReceive (f : NodeFrame)
  /-- COMMAND_LOOPBACK (R126). A command that travelled the ring is counted as loopback or discarded as foreign. -/
  | commandLoopback (port : Fin 512) (seq : BitVec 32) (opcode : Byte)
  /-- TXN_RETRY (R151). No complete replies 62.5 µs after a transmission retransmits the frame with RETRY 1. -/
  | txnRetry (txn : Nat)
  /-- TXN_FAILED (R151). 250 µs after the first transmission the transaction ends FAILED. -/
  | txnFailed (txn : Nat)
  /-- TXN_DISCARDED (R153). TXN_TIMEOUT expiry marks the transaction discarded. -/
  | txnDiscarded (txn : Nat)
  /-- NODE_IDENTIFY (R160). NODE_CMD IDENTIFY sends IDENTIFY in local space to the node. -/
  | nodeIdentify (node : NodeId)
  /-- NODE_CONFIGURE (R145). NODE_CMD CONFIGURE sends CONFIGURE in pair space to the node. -/
  | nodeConfigure (node : NodeId)
  /-- NODE_CLEAR (R147). NODE_CMD CLEAR sends CLEAR with all MASK bits to the node. -/
  | nodeClear (node : NodeId)
  /-- NODE_RESET (R148). NODE_CMD RESET_NODE sends RESET_NODE to the node. -/
  | nodeReset (node : NodeId)
  /-- NODE_CLEAR_COUNTERS (R160). NODE_CMD CLEAR_COUNTERS clears the node object's counters. -/
  | nodeClearCounters (node : NodeId)
  /-- PTP_SYNC_RECEIVE (R169). A PTP Sync updates the domain servo's offset and frequency. -/
  | ptpSyncReceive (port : Fin 8) (m : PtpSync)
  /-- PTP_ANNOUNCE_RECEIVE (R167). A PTP Announce feeds the per-domain best master clock algorithm. -/
  | ptpAnnounceReceive (port : Fin 8) (a : PtpAnnounce)
  /-- PTP_PDELAY_REQ_RECEIVE (R167). A Pdelay_Req is answered with Pdelay_Resp on that port. -/
  | ptpPdelayReqReceive (port : Fin 8) (seq : BitVec 16)
  /-- PTP_PDELAY_RESP_RECEIVE (R167). A Pdelay_Resp updates the port's peer delay. -/
  | ptpPdelayRespReceive (port : Fin 8) (seq : BitVec 16) (twoStep : Bool) (stamp : Nat) (correction : Int)
  /-- PTP_PDELAY_REQ_SEND (R167). At its interval each PTP port sends Pdelay_Req. -/
  | ptpPdelayReqSend (port : Fin 8)
  /-- SERVO_LOCKED (R169). An offset held within ±100 ns for 60 s makes the domain servo LOCKED. -/
  | servoLocked (domain : Fin 2)
  /-- SERVO_LOST (R169). No Sync for 3 intervals or an offset beyond ±1 µs makes the servo LOST. -/
  | servoLost (domain : Fin 2) (noSync : Bool)
  /-- ANNOUNCE_TIMEOUT (R169). Announce messages missing for announceReceiptTimeout make the domain unusable. -/
  | announceTimeout (domain : Fin 2)
  /-- SOURCE_SELECT (R170). Every 1 s the time source is re-selected among primary, secondary, TI and holdover. -/
  | sourceSelect
  /-- TRACEABILITY_LOST (R176). Holdover lasting TRACE_LIMIT clears TRACEABLE. -/
  | traceabilityLost
  /-- TIME_STEP (R178). TIME_CMD STEP steps Module Time forward by PENDING_OFFSET at the next boundary. -/
  | timeStep
  /-- TIME_ACCEPT (R178). TIME_CMD ACCEPT slews PENDING_OFFSET out at 10 µs per s. -/
  | timeAccept
  /-- TIME_RECALIBRATE (R187). TIME_CMD RECALIBRATE starts a hop-delay calibration pass. -/
  | timeRecalibrate (string : Fin 65536)
  /-- TIME_CLEAR_COUNTERS (R195). TIME_CMD CLEAR_COUNTERS clears the time counters. -/
  | timeClearCounters
  /-- TIME_SYNC_SEND (R181). At each Short Time multiple of 2^18 ticks each ring port emits a TIME SYNC. -/
  | timeSyncSend (late : List (Fin 512 × Fin 4))
  /-- DELAY_REQ_SEND (R182). Every 2^22 ticks each ring interface side sends DELAY_REQ. -/
  | delayReqSend
  /-- DELAY_REQ_RECEIVE (R182). A DELAY_REQ at a module port is answered with DELAY_RESP within 2 µs. -/
  | delayReqReceive (port : Fin 512) (count : Fin 32) (turn : Fin 100001)
  /-- DELAY_RESP_RECEIVE (R182). A DELAY_RESP records the round trip in the port's mean. -/
  | delayRespReceive (port : Fin 512) (count : Fin 32) (rtt : Fin 100001)
  /-- CAL_PASS_START (R187). CAL_STALE or the 60 s background check starts a calibration pass on a ring. -/
  | calPassStart (string : Fin 256)
  /-- CAL_PASS_DONE (R188). A pass ends with delays written and CAL_STALE cleared, or fails. -/
  | calPassDone (string : Fin 256)
  /-- CAL_PASS_RETRY (R188). 10 s after a failed pass the pass is repeated. -/
  | calPassRetry (string : Fin 256)
  /-- PPS_OUTPUT (R192). At each whole second TO emits 1PPS and the time-of-day line. -/
  | ppsOutput
  /-- TI_PULSE (R193). A TI rising edge is timestamped and used per TI_USE. -/
  | tiPulse
  /-- TI_LINE (R193). A TI time-of-day line is checked and names the second of its pulse. -/
  | tiLine (text : List Byte)
  /-- TI_LOST (R193). A TI pulse missing for 3 s makes TI unusable. -/
  | tiLost
  /-- TIME_SAVE (R194). Every 1 s Module Time is saved to MRAM. -/
  | timeSave
/-- PROTECTION_CYCLE_BOUNDARY (R316). At each boundary the module commits results, applies mode changes, queues ring
  commands, hands outputs over and releases tasks. -/
  | protectionCycleBoundary (x : CycleSeen)
  /-- FAST_HOLD_EXPIRY (R201). Acceleration ends once every cause has been absent for HOLD_FAST. -/
  | fastHoldExpiry (string : Fin 256)
  /-- SNAPSHOT_CLOSE (R205). A snapshot closes CONFIRM_WINDOW after its instant, leaving unconfirmed nodes missing. -/
  | snapshotClose (string : Fin 256) (sampleNo : BitVec 32)
  /-- CAPTURE_DEADLINE (R210). A record still unconfirmed at its window's deadline is abandoned. -/
  | captureDeadline (string : Fin 256)
  /-- STR_CLEAR_COUNTERS (R226). STR_CMD CLEAR_COUNTERS clears the string's scan counters. -/
  | strClearCounters (string : Fin 256)
  /-- SOP_EVALUATE (R253). Every 100 ms the string's six state-of-power current limits are computed. -/
  | sopEvaluate (string : Fin 256)
  /-- CHECKPOINT_WRITE (R256). Every 60 s z and z_r of every cell are checkpointed to MRAM. -/
  | checkpointWrite (readBackOk : Bool)
  /-- CURRENT_GAP (R244). No confirmed current for longer than I_GAP holds every cell of the string. -/
  | currentGap (string : Fin 256)
  /-- CELLS_STALE (R245). A cell without correction for longer than V_GAP becomes STALE. -/
  | cellsStale (node : NodeId)
  /-- LANE_FAULT (R249). A residue mismatch reruns the update on another lane and may retire the lane. -/
  | laneFault (lane : Fin 16)
  /-- RESET_COV (R260). CELL_CMD RESET_COV resets the cell's covariance at the next commit. -/
  | resetCov (cell : Fin 131072)
  /-- SET_SOC (R252). CELL_CMD SET_SOC sets z and z_r in STOP or SERVICE. -/
  | setSoc (cell : Fin 131072) (soc : BitVec 16)
  /-- CELL_CLEAR_COUNTERS (R260). CELL_CMD CLEAR_COUNTERS clears the cell's counters. -/
  | cellClearCounters (cell : Fin 131072)
  /-- BATCH_AGE_EXPIRY (R272). A batch not closed within BATCH_DAYS is emptied and rejected. -/
  | batchAgeExpiry (cell : Fin 131072) (ct : Bool)
  /-- ANCHOR_AGE_EXPIRY (R276). An anchor older than CYCLE_MAX is dropped. -/
  | anchorAgeExpiry (cell : Fin 131072)
/-- INTERRUPTION_EXPIRY (R276). An interruption of confirmed current longer than INTERRUPT drops the string's
  anchors. -/
  | interruptionExpiry (string : Fin 256)
  /-- RESET_SCALES (R286). LEARN_CMD RESET_SCALES sets both scale factors to 1.0 and empties batches. -/
  | resetScales (cell : Fin 131072)
  /-- RESET_CAPACITY (R286). LEARN_CMD RESET_CAPACITY sets the capacity to RATED_CAP. -/
  | resetCapacity (cell : Fin 131072)
  /-- SET_CAPACITY (R286). LEARN_CMD SET_CAPACITY sets the capacity in use. -/
  | setCapacity (cell : Fin 131072) (capacity : BitVec 24)
  /-- CLEAR_LEARNING (R286). LEARN_CMD CLEAR_LEARNING empties batches and drops the anchor. -/
  | clearLearning (cell : Fin 131072)
  /-- IMP_CLEAR_COUNTERS (R284). IMP_CMD CLEAR_COUNTERS clears the learning counters. -/
  | impClearCounters
  /-- BAL_ROUND (R292). A planning round selects bleeding cells and commits one BALANCE. -/
  | balRound (string : Fin 256)
  /-- BAL_HOLDOFF_EXPIRY (R291). A cell's 15 min hold-off ends. -/
  | balHoldoffExpiry (cell : Fin 131072)
  /-- END_EPISODES (R309). BAL_CMD END_EPISODES ends every episode with hold-off and commits a stop. -/
  | endEpisodes (string : Fin 256)
  /-- BAL_CLEAR_COUNTERS (R309). BAL_CMD CLEAR_COUNTERS clears the balancing counters. -/
  | balClearCounters (string : Fin 256)
  /-- BAL_CFG_WRITE (R293). A write of BAL_CFG, with ENABLE 0 committing a stop. -/
  | balCfgWrite (string : Fin 256) (value : BitVec 32)
  /-- DERATE_ENFORCED (R302). Grace expiry enforces the derate bounds and passes them to the island. -/
  | derateEnforced (string : Fin 256)
  /-- MODULE_SENSOR_READ (R306). Every 10 ms the 16 module sensors are read and evaluated. -/
  | moduleSensorRead (readings : List (BitVec 16))
  /-- MODULE_GRACE_EXPIRY (R306). MODULE_GRACE in WARNING or ALARM starts stretching plant tasks. -/
  | moduleGraceExpiry
  /-- THERM_CLEAR_COUNTERS (R312). THERM_CMD CLEAR_COUNTERS clears the thermal counters. -/
  | thermClearCounters (string : Fin 256)
  /-- CONTACTOR_RESEND (R322). Every 100 ms while the TH1 disagrees the CONTACTOR is recommitted. -/
  | contactorResend (string : Fin 256)
  /-- OPEN_FAILED (R322). No OPEN reported within CONTACT_TIME sets OPEN_FAILED. -/
  | openFailed (string : Fin 256)
  /-- DATA_LOSS (R318). A node missing from every snapshot for DATA_LOSS trips the string. -/
  | dataLoss (node : NodeId)
  /-- CONTACT_REQ_WRITE (R321). A write of CONTACT_REQ expresses the wanted contactor state. -/
  | contactReqWrite (string : Fin 256) (value : BitVec 32)
  /-- RESET_TRIP (R323). PSTR_CMD RESET_TRIP leaves TRIPPED when every cause is absent. -/
  | resetTrip (string : Fin 256)
  /-- PSTR_CLEAR_COUNTERS (R351). PSTR_CMD CLEAR_COUNTERS clears the string's protection counters. -/
  | pstrClearCounters (string : Fin 256)
  /-- PROT_CLEAR_COUNTERS (R351). PROT_CMD CLEAR_COUNTERS clears the protection counters. -/
  | protClearCounters
/-- ISLAND_SAMPLE (R329). The island checks and evaluates a delivered confirmed sample against each string function.
  -/
  | islandSample (m : IslandSample)
  /-- DATA_AGE_EXPIRY (R329). A node without an accepted sample for 3 s violates its function. -/
  | dataAgeExpiry (node : NodeId)
  /-- ISLAND_MESSAGE_RECEIVE (R332). The partner island's function states and lockout notice arrive. -/
  | islandMessageReceive (seq : BitVec 64) (m : IslandMessage)
  /-- SI_INPUT_CHANGE (R333). An SI internal channel changes and the channel value is recomputed. -/
  | siInputChange (channel : Fin 32) (second level : Bool)
  /-- SI_DISCREPANCY (R333). SI internal channels differing longer than DISCREPANCY latch a fault. -/
  | siDiscrepancy (channel : Fin 32)
  /-- SI_TEST_PULSE (R449). An SI test source pulses and a missed pulse latches a fault. -/
  | siTestPulse (channel : Fin 32) (second returned : Bool)
  /-- SI_FAULT_CLEAR (R333). After 50 ms low together and passing pulses the SI fault clears. -/
  | siFaultClear (channel : Fin 32)
  /-- SQ_STAGE_FAULT (R336). An SQ stage fault latches the channel off. -/
  | sqStageFault (channel : Fin 32) (code : Fin 6)
  /-- SQ_TEST_PULSE (R451). An on SQ receives an off-pulse of PULSE every PULSE_PERIOD. -/
  | sqTestPulse (channel : Fin 32)
  /-- SQ_REARM (R336). SQ_CMD REARM starts a 10 ms self-test of the stage. -/
  | sqRearm (channel : Fin 32)
  /-- SQ_REARM_DONE (R336). The SQ self-test passes releasing the latch or fails. -/
  | sqRearmDone (channel : Fin 32) (passed : Bool)
  /-- SAFE_TRIP (R342). SAFE_CMD TRIP declares a module-wide lockout. -/
  | safeTrip
  /-- NEW_NONCE (R345). SAFE_CMD NEW_NONCE draws a nonce valid for one OPEN within 60 s. -/
  | newNonce (session : Fin 68)
  /-- SAFE_OPEN (R345). SAFE_CMD OPEN checks MAC and signature to authorise a safety session. -/
  | safeOpen (session : Fin 68)
  /-- SAFE_CLOSE (R346). SAFE_CMD CLOSE ends the authorised safety session. -/
  | safeClose (session : Fin 68)
  /-- SET_PASSWORD (R347). SAFE_CMD SET_PASSWORD replaces the password key K. -/
  | setPassword (session : Fin 68)
  /-- CLEAR_PASSWORD (R347). SAFE_CMD CLEAR_PASSWORD clears K under its SV and LOCKOUT conditions. -/
  | clearPassword (session : Fin 68)
  /-- SAFE_CLEAR_COUNTERS (R353). SAFE_CMD CLEAR_COUNTERS clears the safety counters. -/
  | safeClearCounters
  /-- SESSION_IDLE (R346). An authorised safety session without a write for SESSION_IDLE ends. -/
  | sessionIdle
  /-- AUTH_BLOCK_EXPIRY (R345). The 10 min block on OPEN after 5 failures ends. -/
  | authBlockExpiry
  /-- SAFE_CFG_WRITE (R348). A write of SAFE_CFG in an authorised session is logged. -/
  | safeCfgWrite (session : Fin 68) (value : BitVec 32)
  /-- LOG_ACK_WRITE (R349). A write of LOG_ACK acknowledges change-log entries. -/
  | logAckWrite (session : Fin 68) (value : BitVec 32)
  /-- JOB_FINISH (R363). A job finishes execution and holds its results staged. -/
  | jobFinish (task : Fin 64) (r : JobResult)
  /-- TASK_FAULT (R377). A runtime fault aborts the job at once. -/
  | taskFault (task : Fin 64) (code : Fin 10) (offset : BitVec 24)
  /-- RESUME (R392). TASK_CMD RESUME resumes a suspended task. -/
  | resume (task : Fin 64)
  /-- TASK_CLEAR_COUNTERS (R392). TASK_CMD CLEAR_COUNTERS clears the task counters. -/
  | taskClearCounters (task : Fin 64)
  /-- SCHED_CLEAR_COUNTERS (R389). SCHED_CMD CLEAR_COUNTERS clears the scheduler counters. -/
  | schedClearCounters
  /-- VAR_DATA_WRITE (R390). A write of VAR_DATA stages a program variable for the next commit. -/
  | varDataWrite (session : Fin 68) (first : Fin 64) (values : List (BitVec 32))
  /-- PROGRAM_RESYNC_DONE (R384). The standby holds all program data and replaces its own at a boundary. -/
  | programResyncDone (vars : List (BitVec 32 × List Byte))
  /-- LOOP_EVAL (R398). The library call LOOP_EVAL evaluates a due slot. -/
  | loopEval (slot : Fin 512) (sp : Option (BitVec 32))
  /-- LOOP_PV (R399). The library call LOOP_PV passes a measured value. -/
  | loopPv (slot : Fin 512) (value : BitVec 32)
  /-- LOOP_RESULT (R398). The library call LOOP_RESULT returns the staged or committed output. -/
  | loopResult (slot : Fin 512)
  /-- LOOP_AUTO (R402). LOOP_CMD AUTO starts the slot in AUTO. -/
  | loopAuto (slot : Fin 512)
  /-- LOOP_MANUAL (R402). LOOP_CMD MANUAL puts the slot in MANUAL. -/
  | loopManual (slot : Fin 512)
  /-- LOOP_OFF (R402). LOOP_CMD OFF stops evaluation of the slot. -/
  | loopOff (slot : Fin 512)
  /-- LOOP_TUNE (R410). LOOP_CMD TUNE starts a relay auto-tune. -/
  | loopTune (slot : Fin 512)
  /-- LOOP_ACCEPT (R413). LOOP_CMD ACCEPT copies the proposed gains. -/
  | loopAccept (slot : Fin 512)
  /-- LOOP_REJECT (R413). LOOP_CMD REJECT discards the proposal. -/
  | loopReject (slot : Fin 512)
  /-- LOOP_CLEAR_COUNTERS (R418). LOOP_CMD CLEAR_COUNTERS clears the slot counters. -/
  | loopClearCounters (slot : Fin 512)
  /-- ENGINE_CLEAR_COUNTERS (R418). ENGINE_CMD CLEAR_COUNTERS clears the engine counters. -/
  | engineClearCounters
  /-- GAINS_CHANGED (R403). A write of KP, TI or TD takes effect bumplessly at the next evaluation. -/
  | gainsChanged (slot : Fin 512) (item : Fin 3) (value : BitVec 32)
  /-- SP_WRITE (R407). A write of SP begins or redirects the soft-start ramp. -/
  | spWrite (slot : Fin 512) (value : BitVec 32)
  /-- TUNE_TIMEOUT (R412). No relay switch for TMAX aborts tuning. -/
  | tuneTimeout (slot : Fin 512)
  /-- DI_SAMPLE (R424). Every 10 µs each DI is sampled into its filter counter and edges are recorded. -/
  | diSample (levels : BitVec 256)
  /-- DO_VALUE_WRITE (R431). A write of DO_VALUE stages the output value. -/
  | doValueWrite (channel : Fin 128) (value : BitVec 32)
  /-- AO_VALUE_WRITE (R438). A write of AO_VALUE stages the loop target. -/
  | aoValueWrite (channel : Fin 64) (value : BitVec 32)
  /-- DO_OVERLOAD (R434). Over-current or over-temperature switches the DO stage off. -/
  | doOverload (channel : Fin 128) (overTemp : Bool) (current : BitVec 16)
  /-- DO_RETRY (R434). 100 ms after current-limit turn-off the DO stage retries. -/
  | doRetry (channel : Fin 128)
  /-- DO_COOLED (R434). A DO stage cooled by 20 °C returns on. -/
  | doCooled (channel : Fin 128)
  /-- DO_OPEN_LOAD (R434). An on stage below 2 mA for 100 ms reports open load. -/
  | doOpenLoad (channel : Fin 128) (current : BitVec 16)
  /-- DO_READBACK_FAULT (R434). Readback differing from command for 10 ms retires the DO. -/
  | doReadbackFault (channel : Fin 128) (command readback : Bool)
  /-- DO_STANDBY_TEST (R435). Every 10 s a standby tests each DO stage. -/
  | doStandbyTest (failed : List (Fin 128 × Bool × Bool))
  /-- AO_COMPLIANCE (R441). A supply unable to hold headroom for 100 ms reports compliance. -/
  | aoCompliance (channel : Fin 64) (readback voltage : BitVec 32)
  /-- AO_OPEN_LOOP (R442). An open loop for 100 ms retires the AO. -/
  | aoOpenLoop (channel : Fin 64) (readback voltage : BitVec 32)
  /-- AO_READBACK_DEVIATION (R442). Readback off target by more than 200 µA for 1 s scores. -/
  | aoReadbackDeviation (channel : Fin 64) (readback : BitVec 32)
  /-- AO_FOLDBACK (R443). Stage above 135 °C folds back to 3,600 µA. -/
  | aoFoldback (channel : Fin 64) (temp : BitVec 32)
  /-- AO_FOLDBACK_CLEARED (R443). Stage below 115 °C returns to target. -/
  | aoFoldbackCleared (channel : Fin 64) (temp : BitVec 32)
  /-- AO_TRACKING_CHECK (R447). Every 10 s a standby checks its tracking readback. -/
  | aoTrackingCheck (readbacks : List (Fin 64 × BitVec 32))
  /-- FSK_RECEIVE (R444). A demodulated FSK byte enters the receive buffer. -/
  | fskReceive (channel : Fin 64) (value : Byte) (parityError framingError : Bool)
  /-- FSK_SEND (R444). A library send queues bytes for FSK transmission. -/
  | fskSend (channel : Fin 64) (bytes : List Byte)
  /-- FIELD_SUPPLY_LOST (R423). A field supply below 17.0 V is lost. -/
  | fieldSupplyLost (supply : Fin 4) (voltage : BitVec 16)
  /-- FIELD_SUPPLY_RESTORED (R423). A field supply above 18.0 V for 100 ms is restored. -/
  | fieldSupplyRestored (supply : Fin 4) (voltage : BitVec 16)
  /-- ISOLATOR_FRAME_ERROR (R454). An isolator frame or parity error scores the channel. -/
  | isolatorFrameError (channel : IoChannel) (parity : Bool)
  /-- ISOLATOR_LINK_SILENT (R454). An isolator link silent for 1 ms retires the channel. -/
  | isolatorLinkSilent (channel : IoChannel)
  /-- IO_SCORE_DECAY (R454). Every 10 ms each DI, DO and AO score falls by 1. -/
  | ioScoreDecay
  /-- IO_RETIRE (R455). Command RETIRE retires a DI, DO or AO channel. -/
  | ioRetire (channel : IoChannel)
  /-- IO_REINSTATE (R456). Command REINSTATE starts a channel self-test. -/
  | ioReinstate (channel : IoChannel)
  /-- IO_SELF_TEST_DONE (R456). The channel self-test passes or fails. -/
  | ioSelfTestDone (channel : IoChannel) (failedStep : Fin 8)
  /-- IO_CLEAR_COUNTERS (R458). Command CLEAR_COUNTERS clears block or channel counters. -/
  | ioClearCounters (channel : Option IoChannel)
  /-- STAGE_REFRESH_LOSS (R457). An output stage without refresh for 2 s switches off on its own. -/
  | stageRefreshLoss (channel : IoChannel)
  /-- CAN_FRAME_SEND (R465). A staged frame takes a transmit buffer at the commit point. -/
  | canFrameSend (bus : Fin 16) (f : CanFrame)
  /-- CAN_TX_COMPLETE (R466). A frame completes on the bus and its buffer frees. -/
  | canTxComplete (bus : Fin 16) (buffer : Fin 32) (delay : Byte)
  /-- CAN_TX_ERROR (R466). A frame loses arbitration or meets an error and is retransmitted. -/
  | canTxError (bus : Fin 16) (e : CanTxError)
  /-- CAN_FRAME_RECEIVE (R468). A received frame is filtered into a queue or discarded. -/
  | canFrameReceive (bus : Fin 16) (f : CanFrame) (sof : BitVec 64)
  /-- BUS_CANCEL (R467). A CANCEL of a pending buffer takes effect before its start-of-frame. -/
  | busCancel (bus : Fin 16) (buffer : Fin 32) (sofSent : Bool)
  /-- BUS_RECOVER (R471). BUS_CMD RECOVER starts bus-off recovery. -/
  | busRecover (bus : Fin 16)
  /-- BUS_RECOVERED (R471). 128 idle sequences complete recovery to error-active. -/
  | busRecovered (bus : Fin 16)
  /-- BUS_RETIRE (R472). BUS_CMD RETIRE retires the bus. -/
  | busRetire (bus : Fin 16)
  /-- BUS_REINSTATE (R472). BUS_CMD REINSTATE starts the loopback self-test. -/
  | busReinstate (bus : Fin 16)
  /-- BUS_SELF_TEST_DONE (R472). The bus self-test passes or fails. -/
  | busSelfTestDone (bus : Fin 16) (failedFrames : Fin 101)
  /-- BUS_CLEAR_COUNTERS (R478). BUS_CMD CLEAR_COUNTERS clears the bus counters. -/
  | busClearCounters (bus : Fin 16)
  /-- DOMINANT_TIMEOUT (R472). A transceiver dominant time-out retires the bus. -/
  | dominantTimeout (bus : Fin 16)
  /-- CAN_SCORE_DECAY (R472). Every 10 ms each bus score falls by 1. -/
  | canScoreDecay
  /-- CAN_SLEEP (R475). On DORMANT entry the controller sleeps once empty or after 100 ms. -/
  | canSleep (bus : Fin 16)
  /-- CAN_WAKE_DOMINANT (R475). A dominant phase longer than WAKE_FILTER wakes the module. -/
  | canWakeDominant (bus : Fin 16)
  /-- CAN_WAKE_FRAME (R475). A matching wake frame wakes the module. -/
  | canWakeFrame (bus : Fin 16) (f : CanFrame)
  /-- XLINK_HEARTBEAT_SEND (R484). Every 250 µs HEARTBEAT is sent on X0 and X1. -/
  | xlinkHeartbeatSend
  /-- XLINK_HEARTBEAT_RECEIVE (R483). A partner heartbeat updates partner state and compatibility. -/
  | xlinkHeartbeatReceive (seq : BitVec 64) (b : PartnerBeat) (offset : Int)
  /-- TOGGLE_EDGE (R485). A toggle edge keeps the interlock path audible. -/
  | toggleEdge (peerOwn : Bool)
  /-- PATH_SILENT (R485). A heartbeat path silent for HB_TIMEOUT is a path fault. -/
  | pathSilent (interlock : Bool)
  /-- CROSSLINK_DOWN (R485). A cross-link goes down. -/
  | crosslinkDown (second : Bool)
  /-- CROSSLINK_UP (R485). A cross-link comes up. -/
  | crosslinkUp (second : Bool)
  /-- AGREE_INPUT_RECEIVE (R490). The standby receives agreed inputs. -/
  | agreeInputReceive (seq : BitVec 64) (i : AgreeInput)
  /-- AGREE_SNAPSHOT_RECEIVE (R217). The standby confirms or patches snapshot samples against the active's list. -/
  | agreeSnapshotReceive (seq : BitVec 64) (string : Fin 256) (sampleNo : BitVec 32) (nodes : List AgreedNode)
  /-- AGREE_COMMIT_RECEIVE (R491). The standby performs its commit from the active's commit record. -/
  | agreeCommitReceive (seq : BitVec 64) (c : AgreeCommit)
  /-- AGREE_DIGESTS_RECEIVE (R490). The standby compares digests and CRCs. -/
  | agreeDigestsReceive (seq : BitVec 64) (d : AgreeDigests)
  /-- DETACHED (R491). A missing AGREE_COMMIT 6 µs after a boundary detaches the cycle. -/
  | detached (cause : Fin 3)
  /-- DETACHED_DO_OFF (R491). 110 µs into a detached cycle the standby switches DOs off. -/
  | detachedDoOff
  /-- RESULT_RECEIVE (R494). The standby receives a RESULT and acknowledges. -/
  | resultReceive (seq : BitVec 64) (r : ResultRec)
  /-- RESULT_ACK_RECEIVE (R494). The active receives RESULT_ACK and sends the reply. -/
  | resultAckReceive (seq : BitVec 64) (req : ReqHead)
  /-- RESULT_ACK_TIMEOUT (R494). 50 µs without acknowledgement sends the reply unreplicated. -/
  | resultAckTimeout (req : ReqHead)
  /-- TRANSFER_RECEIVE (R505). A joining module receives state-transfer content. -/
  | transferReceive (seq : BitVec 64) (part : TransferPart)
  /-- REFRESH_RECEIVE (R255). The standby receives refreshed state records. -/
  | refreshReceive (seq : BitVec 64) (part : RefreshPart)
  /-- RED_REJOIN (R492). RED_CMD REJOIN starts a rejoin on a standby. -/
  | redRejoin
  /-- RED_CLEAR_COUNTERS (R513). RED_CMD CLEAR_COUNTERS clears redundancy counters. -/
  | redClearCounters
  /-- RING_LOOPBACK_TEST (R501). Every 10 s the standby checks ring loopback returns. -/
  | ringLoopbackTest
  /-- MEMORY_SCRUB (R501). A DRAM and MRAM scrub pass completes. -/
  | memoryScrub (corrected : Nat)
  /-- DISPATCH_SEND (R509). Every 100 ms the manager sends a worker its dispatch. -/
  | dispatchSend (worker : Fin 64)
  /-- DISPATCH (R510). A worker receives a DISPATCH and accepts it if newer. -/
  | dispatch (session : Fin 68) (req : ReqHead) (seq : BitVec 32) (words : List (BitVec 32))
  /-- DISPATCH_HOLD (R510). A missed dispatch slot holds the last dispatch. -/
  | dispatchHold
  /-- DISPATCH_DEFAULT (R510). DISPATCH_HOLD without dispatch sets the safe default. -/
  | dispatchDefault
  /-- WORKER_POLL (R511). Every 1 s the manager polls each worker. -/
  | workerPoll (worker : Fin 64)
  /-- TLS_CONNECT (R520). A TLS session completes its handshake. -/
  | tlsConnect (port : Fin 9) (identity : Bool) (peer : BitVec 128) (chain : ClientChain)
  /-- HELLO (R521). HELLO opens an exchange session. -/
  | hello (session : Fin 68) (req : ReqHead) (proto : BitVec 16) (rights : Byte)
  /-- BYE (R524). BYE closes the session. -/
  | bye (session : Fin 68) (req : ReqHead)
  /-- BAD_MESSAGE (R523). A malformed message is refused. -/
  | badMessage (session : Fin 68) (req : ReqHead) (type : Byte) (badLength : Bool)
  /-- READ (R526). READ returns committed values. -/
  | read (session : Fin 68) (req : ReqHead) (addr : BitVec 32) (count : BitVec 16)
  /-- WRITE (R527). WRITE applies a scoped write. -/
  | write (session : Fin 68) (req : ReqHead) (addr : BitVec 32) (scope group : Byte) (values : List (BitVec 32))
  /-- REGISTER_WRITE (R8). A write to an item without a row of its own. -/
  | registerWrite (session : Fin 68) (addr value : BitVec 32)
  /-- RING_PUT (R533). PUT appends entries to a ring. -/
  | ringPut (session : Fin 68) (req : ReqHead) (ring : BitVec 20) (entries : List (List Byte))
  /-- RING_PEEK (R533). PEEK returns entries. -/
  | ringPeek (session : Fin 68) (req : ReqHead) (ring : BitVec 20) (fromSeq : BitVec 32) (count : BitVec 16)
  /-- RING_RELEASE (R533). RELEASE removes entries before a sequence. -/
  | ringRelease (session : Fin 68) (req : ReqHead) (ring : BitVec 20) (untilSeq : BitVec 32)
  /-- RING_INFO (R533). INFO returns ring state. -/
  | ringInfo (session : Fin 68) (req : ReqHead) (ring : BitVec 20)
  /-- RING_BIND (R535). BIND binds a ring to an object. -/
  | ringBind (session : Fin 68) (req : ReqHead) (ring : BitVec 20) (source : BitVec 32) (items mode : Byte) (period : BitVec 32)
  /-- RING_UNBIND (R533). UNBIND ends a binding. -/
  | ringUnbind (session : Fin 68) (req : ReqHead) (ring : BitVec 20)
  /-- RING_CLEAR (R533). CLEAR empties a ring. -/
  | ringClear (session : Fin 68) (req : ReqHead) (ring : BitVec 20)
  /-- SUBSCRIBE (R537). SUBSCRIBE creates a subscription. -/
  | subscribe (session : Fin 68) (req : ReqHead) (fields : SubFields)
  /-- SUBSCRIBE_RENEW (R537). A renewal extends the lease. -/
  | subscribeRenew (session : Fin 68) (req : ReqHead) (sub : BitVec 16) (lease : Byte)
  /-- UNSUBSCRIBE (R537). UNSUBSCRIBE ends a subscription. -/
  | unsubscribe (session : Fin 68) (req : ReqHead) (sub : BitVec 16)
  /-- LEASE_EXPIRY (R537). A subscription lease passes without renewal. -/
  | leaseExpiry (sub : BitVec 16)
  /-- FORWARD (R532). FORWARD sends an inner request to a worker. -/
  | forward (session : Fin 68) (req : ReqHead) (worker : Fin 64) (inner : InnerReq)
  /-- FORWARD_REPLY (R532). The worker's answer is returned to the host. -/
  | forwardReply (worker : Fin 64) (no : BitVec 32) (status : BitVec 16) (payload : List Byte)
  /-- HIER_TIMEOUT (R532). HIER_TIMEOUT expiry answers WORKER_SILENT. -/
  | hierTimeout (worker : Fin 64) (no : BitVec 32)
  /-- KEEPALIVE (R521). KEEPALIVE keeps a session open. -/
  | keepalive (session : Fin 68) (req : ReqHead)
  /-- EXCH_SESSION_IDLE (R521). A session idle for 60 s is closed. -/
  | exchSessionIdle (session : Fin 68)
  /-- REQ_DEADLINE (R531). An unanswered request past REQ_DEADLINE is discarded. -/
  | reqDeadline (req : ReqHead)
  /-- VITRINE_ENTRY_FREE (R541). A completed ring operation frees its entry to a waiter. -/
  | vitrineEntryFree (ring : BitVec 20)
  /-- VITRINE_WAIT (R542). A wait beyond WAIT_WARN is reported. -/
  | vitrineWait (cls : Fin 4)
  /-- MODBUS_READ_HOLDING (R546). Modbus function 0x03 reads holding registers. -/
  | modbusReadHolding (conn : Fin 8) (tid : BitVec 16) (unit : Byte) (start count : BitVec 16)
  /-- MODBUS_READ_INPUT (R546). Modbus function 0x04 reads input registers. -/
  | modbusReadInput (conn : Fin 8) (tid : BitVec 16) (unit : Byte) (start count : BitVec 16)
  /-- MODBUS_WRITE_SINGLE (R546). Modbus function 0x06 writes one register. -/
  | modbusWriteSingle (conn : Fin 8) (tid : BitVec 16) (unit : Byte) (register value : BitVec 16)
  /-- MODBUS_WRITE_MULTIPLE (R546). Modbus function 0x10 writes registers. -/
  | modbusWriteMultiple (conn : Fin 8) (tid : BitVec 16) (unit : Byte) (start : BitVec 16) (values : List (BitVec 16))
  /-- PRP_FRAME_RECEIVE (R517). A PRP frame is received and duplicates discarded. -/
  | prpFrameReceive (port : Fin 8) (source : BitVec 48) (seq : BitVec 16) (lanB good : Bool)
  /-- PRP_SUPERVISION_SEND (R517). Every 2,000 ms supervision frames are sent. -/
  | prpSupervisionSend
  /-- PLANT_PORT_DOWN (R517). A plant port link goes down. -/
  | plantPortDown (port : Fin 8)
  /-- PLANT_PORT_UP (R517). A plant port link comes up. -/
  | plantPortUp (port : Fin 8)
  /-- END_SESSION (R549). NET_CMD END_SESSION ends a session. -/
  | endSession (session : Fin 65536)
  /-- NET_CLEAR_COUNTERS (R549). NET_CMD CLEAR_COUNTERS clears network counters. -/
  | netClearCounters
  /-- RECORDER_FLUSH (R559). A flush trigger programs unflushed records. -/
  | recorderFlush (bad : Option (Fin 3))
  /-- FLUSH_DONE (R559). A flush completes. -/
  | flushDone
  /-- STORE_ERASE_DONE (R560). The block ahead finishes erasing. -/
  | storeEraseDone (ok : Bool)
  /-- REC_FLUSH (R559). REC_CMD FLUSH flushes records. -/
  | recFlush
  /-- REC_CLEAR_COUNTERS (R579). REC_CMD CLEAR_COUNTERS clears recorder counters. -/
  | recClearCounters
  /-- ARCHIVE_DRAIN (R571). A ring at DEPTH/2 or 60 s is written to NVMe. -/
  | archiveDrain (src : DrainSrc)
  /-- ARCHIVE_WRITE_DONE (R571). A completed NVMe write releases entries. -/
  | archiveWriteDone (src : DrainSrc)
  /-- NVME_COMMAND_ERROR (R575). An NVMe command error scores the port. -/
  | nvmeCommandError (port : Fin 2) (nsid : Byte) (status : BitVec 16) (lba : BitVec 32) (fatal : Bool)
  /-- NVME_TIMEOUT (R575). A 5 s command timeout scores the port. -/
  | nvmeTimeout (port : Fin 2)
  /-- STORAGE_LINK_RETRAIN (R575). A PCIe retrain scores the port. -/
  | storageLinkRetrain (port : Fin 2)
  /-- STORAGE_LINK_DOWN (R575). Link down over 1 s retires the port. -/
  | storageLinkDown (port : Fin 2)
  /-- STORAGE_SCORE_DECAY (R575). Every 10 ms a storage score falls by 1. -/
  | storageScoreDecay
  /-- SMART_WARNING (R575). A SMART warning raises an event. -/
  | smartWarning (port : Fin 2) (critical used : Byte)
  /-- ST_RETIRE (R575). ST_CMD RETIRE retires the port. -/
  | stRetire (port : Fin 2)
  /-- ST_REINSTATE (R575). ST_CMD REINSTATE starts a port self-test. -/
  | stReinstate (port : Fin 2)
  /-- ST_SELF_TEST_DONE (R575). The storage self-test passes or fails. -/
  | stSelfTestDone (port : Fin 2) (found : Option DriveFound)
  /-- RESILVER_DONE (R576). Resilvering completes. -/
  | resilverDone (nsid : Byte)
  /-- ST_FORMAT (R569). ST_CMD FORMAT recreates namespaces. -/
  | stFormat (port : Fin 2)
  /-- ST_CLEAR_COUNTERS (R580). ST_CMD CLEAR_COUNTERS clears port counters. -/
  | stClearCounters (port : Fin 2)
  /-- QUERY (R577). ARC_CMD QUERY starts a retrieval. -/
  | query (session : Fin 68)
  /-- QUERY_RESUME (R577). A paused query resumes when space frees. -/
  | queryResume (session : Fin 68)
  /-- CANCEL_QUERY (R577). ARC_CMD CANCEL_QUERY ends the query. -/
  | cancelQuery (session : Fin 68)
  /-- ARC_CLEAR_COUNTERS (R580). ARC_CMD CLEAR_COUNTERS clears Archive counters. -/
  | arcClearCounters
  /-- QUOTE (R586). SEC_CMD QUOTE starts a signed quote. -/
  | quote (session : Fin 68) (mask : Byte)
  /-- QUOTE_DONE (R587). The quote is signed and readable. -/
  | quoteDone (session : Fin 68)
  /-- SEC_CLEAR_COUNTERS (R610). SEC_CMD CLEAR_COUNTERS clears security counters. -/
  | secClearCounters
  /-- KEY_LOAD (R589). KEY_CMD LOAD loads key material. -/
  | keyLoad (session : Fin 68) (slot : Fin 32) (kind : Fin 16) (rights : Byte)
  /-- KEY_GENERATE (R589). KEY_CMD GENERATE draws a key. -/
  | keyGenerate (session : Fin 68) (slot : Fin 32) (kind : Fin 16)
  /-- KEY_ERASE (R592). KEY_CMD ERASE zeroises a slot. -/
  | keyErase (session : Fin 68) (slot : Fin 32)
  /-- LOAD_CERT (R612). KEY_CMD LOAD_CERT installs a certificate. -/
  | loadCert (session : Fin 68) (slot : Fin 32)
  /-- KEY_CLEAR_COUNTERS (R613). KEY_CMD CLEAR_COUNTERS clears slot counters. -/
  | keyClearCounters (session : Fin 68) (slot : Fin 32)
  /-- CRYPTO_SIGN (R595). Library SIGN makes a deterministic signature. -/
  | cryptoSign (task : Fin 64) (slot : Fin 16) (data : List Byte)
  /-- CRYPTO_VERIFY (R596). Library VERIFY checks a signature. -/
  | cryptoVerify (task : Fin 64) (slot : Fin 16) (data sig : List Byte)
  /-- CRYPTO_ECDH (R594). Library ECDH derives a secret. -/
  | cryptoEcdh (task : Fin 64) (slot : Fin 16) (point : List Byte)
  /-- CRYPTO_ENCRYPT (R595). Library ENCRYPT runs AES-256-GCM. -/
  | cryptoEncrypt (task : Fin 64) (slot : Fin 16) (aad data : List Byte)
  /-- CRYPTO_DECRYPT (R596). Library DECRYPT runs AES-256-GCM. -/
  | cryptoDecrypt (task : Fin 64) (slot : Fin 16) (nonce : BitVec 96) (aad cipher tag : List Byte)
  /-- CRYPTO_HASH (R594). Library HASH computes SHA-384. -/
  | cryptoHash (task : Fin 64) (data : List Byte)
  /-- CRYPTO_RANDOM (R595). Library RANDOM returns random bytes. -/
  | cryptoRandom (task : Fin 64) (count : Fin 16385)
  /-- FW_PAGE_WRITE (R601). IMAGE_WRITE with TARGET 1 writes a firmware page. -/
  | fwPageWrite (session : Fin 68) (req : ReqHead) (page : Fin 131072) (bytes : List Byte)
  /-- UPD_VALIDATE (R601). UPD_CMD VALIDATE starts a check. -/
  | updValidate
  /-- UPD_VALIDATE_DONE (R601). The firmware check ends. -/
  | updValidateDone
  /-- UPD_ACTIVATE (R603). UPD_CMD ACTIVATE enters SERVICE and copies the image. -/
  | updActivate (session : Fin 68) (force : Bool)
  /-- FW_COPY_CHECKED (R603). The new copy is checked and the pause is scheduled. -/
  | fwCopyChecked
  /-- FW_ACTIVATED (R603). The new image runs and SERVICE_DONE follows. -/
  | fwActivated (lockedOk dramOk : Bool)
  /-- UPD_ERASE (R601). UPD_CMD ERASE erases the inactive slot. -/
  | updErase
  /-- UPD_ERASE_DONE (R601). The slot erase completes. -/
  | updEraseDone
  /-- COMMIT_SVN (R607). UPD_CMD COMMIT_SVN raises SVN_FLOOR. -/
  | commitSvn
  /-- UPD_CLEAR_COUNTERS (R615). UPD_CMD CLEAR_COUNTERS clears update counters. -/
  | updClearCounters
  /-- TRIAL_PASSED (R605). 600 s without FATAL ends the trial. -/
  | trialPassed
  /-- INPUT_ABSENT (R640). One logic input falls absent. -/
  | inputAbsent (second : Bool) (voltage : BitVec 16)
  /-- INPUT_PRESENT (R640). A logic input becomes present. -/
  | inputPresent (second : Bool)
  /-- INPUT_CURRENT_LIMIT (R640). An input in current limit for 10 ms is reported. -/
  | inputCurrentLimit (second : Bool) (current : BitVec 16)
  /-- HOLDUP_MEASURE (R641). Every 24 h the hold-up bank is measured. -/
  | holdupMeasure
  /-- MEASURE_HOLDUP (R641). PWR_CMD MEASURE_HOLDUP starts a measurement. -/
  | measureHoldup
  /-- HOLDUP_MEASURE_DONE (R641). The measurement completes and HOLDUP_OK is set. -/
  | holdupMeasureDone (capacitance : Fin 65536)
  /-- PWR_CLEAR_COUNTERS (R647). PWR_CMD CLEAR_COUNTERS clears power counters. -/
  | pwrClearCounters
  /-- THERMAL_SHUTDOWN (R644). A sensor at its shutdown limit for 10 ms opens supply paths. -/
  | thermalShutdown (sensor : Fin 16) (temp : BitVec 16)
  /-- XING_OVERRUN (R636). A crossing overrun is flagged and counted. -/
  | xingOverrun (crossing : Fin 14) (port : Fin 11)
/-- CAN_RX_ERROR (R471). A bus error met while receiving another node's frame raises the receive error counter,
  scores the bus and may take the controller into error-passive. -/
  | canRxError (bus : Fin 16) (heavy : Bool)
/-- FSK_CARRIER_CHANGE (R444). The receive carrier on an FSK channel rises above 120 mV peak to peak or falls below
  80 mV, changing FSK_CARRIER. -/
  | fskCarrierChange (channel : Fin 64) (on : Bool)
  /-- FSK_TX_DONE (R444). The FSK transmit buffer empties and FSK_TX clears. -/
  | fskTxDone (channel : Fin 64)
/-- CONNECTION_LOST (R346). The TCP connection under an exchange session or a Modbus connection is lost, ending the
  session and any authorised safety session it holds. -/
  | connectionLost (conn : Connection)
/-- MODBUS_CONNECT (R546). A Modbus TCP connection is opened at the identity address and accepted or refused against
  the limit of 8. -/
  | modbusConnect (peer : BitVec 128)
/-- MODBUS_OTHER_FUNCTION (R546). A Modbus request with a function code outside 0x03, 0x04, 0x06 and 0x10 gets
  exception 0x01. -/
  | modbusOtherFunction (conn : Fin 8) (tid : BitVec 16) (unit function : Byte)
  /-- ARP_REQUEST (R518). An ARP request for the identity or unit address is answered. -/
  | arpRequest (port : Fin 8) (target : NetAddr)
  /-- NEIGHBOUR_SOLICITATION (R518). An IPv6 neighbour solicitation for the identity or unit address is answered. -/
  | neighbourSolicitation (port : Fin 8) (target : NetAddr)
  /-- ICMP_ECHO_REQUEST (R518). An ICMP echo request to the identity or unit address is answered. -/
  | icmpEchoRequest (port : Fin 8) (target : NetAddr)
/-- PTP_FOLLOW_UP_RECEIVE (R167). A two-step Follow_Up supplies the precise origin timestamp of its Sync to the
  domain servo. -/
  | ptpFollowUpReceive (port : Fin 8) (m : PtpSync)
/-- PTP_PDELAY_RESP_FOLLOW_UP_RECEIVE (R167). A Pdelay_Resp_Follow_Up completes a two-step peer-delay measurement on
  its port. -/
  | ptpPdelayRespFollowUpReceive (port : Fin 8) (seq : BitVec 16) (stamp : Nat) (correction : Int)
  /-- PRP_ENTRY_FORGET (R517). A PRP node-table entry not refreshed for EntryForgetTime of 400 ms is forgotten. -/
  | prpEntryForget (source : BitVec 48)
/-- WORKER_POLL_REPLY (R511). A worker's reply to a summary poll arrives, resets the failure count and clears a
  silent mark. -/
  | workerPollReply (worker : Fin 64) (result : Option (Byte × Fin 16))
/-- QUERY_READ_DONE (R577). An NVMe read for a running Archive query completes and its entries enter Q_RING, ending
  the query when all are delivered. -/
  | queryReadDone (session : Fin 68) (bad : List (Nat × Nat))
  deriving DecidableEq, Repr

end Sys2Proof
end

