-- ==== Sys2Proof/Config.lean ====
section
/-!
DEFINITION. What the spec leaves open: free values (opaque constants without a body) and the results of the
cryptographic primitives the spec names by standard only. Nothing in Lean can evaluate one or prove a value of it.
-/

namespace Sys2Proof.Config

/-- What a task image declares of an exported program variable (R390): host-writable, its TYPE code and its size. -/
structure VarDecl where
  writable : Bool
  type : Nat
  size : Nat
  deriving DecidableEq, Repr

/-- The variables that the task images declare exported, by the images' CRCs and VAR: the layout of a task image is not
given (log 6). -/
opaque varDecl : (images : List Nat) → (var : Nat) → Option VarDecl

/-- The initial value of a program variable, which INITIAL lays out as the task images define (R52, log 6). -/
opaque initialValue : (images : List Nat) → (initial : List Byte) → (var : Nat) → List Byte

/-- How one program-variable write enters CYCLE_DIGEST: the serialisation is not given (log 6, R384). -/
opaque writeBytes : (var offset : Nat) → (data : List Byte) → List Byte

/-- FREE VALUE (log 1). A fresh 32-bit value for each place where the spec leaves a value undefined. -/
opaque freeWord : Nat → Word

/-- FREE VALUE (log 2). What a blank byte of slot flash reads as. -/
opaque blankFlashByte : Byte

/-- The SHA-384 function (FIPS 180-4), named but not defined by the spec (log 3). -/
opaque sha384 : List Byte → Digest

/-- Whether `sig` (r then s) is an ECDSA P-384 signature with SHA-384 of the bytes under the public key `pub`
(X then Y), named but not defined by the spec (log 3). -/
opaque ecdsaVerify : (pub msg sig : List Byte) → Bool

/-- The deterministic ECDSA signature (RFC 6979) of the bytes with the private scalar, 96 bytes (log 3, R595). -/
opaque ecdsaSign : (scalar msg : List Byte) → List Byte

/-- The public point of a private scalar, 96 bytes (log 3). -/
opaque ecdsaPublic : (scalar : List Byte) → List Byte

/-- The ECDH secret of a scalar and a point, 48 bytes (log 3, R594). -/
opaque ecdhSecret : (scalar point : List Byte) → List Byte

/-- Whether X and Y are the coordinates of a point on P-384 (log 3, R596). -/
opaque onCurve : (point : List Byte) → Bool

/-- AES-256-GCM encryption: key, 96-bit nonce, additional data, plaintext to ciphertext and tag (log 3, R595). -/
opaque gcmSeal : (key nonce aad plain : List Byte) → List Byte × List Byte

/-- AES-256-GCM decryption: the plaintext, or nothing where the tag is wrong (log 3, R596). -/
opaque gcmOpen : (key nonce aad cipher tag : List Byte) → Option (List Byte)

/-- HMAC-SHA-384 of a message under a key (log 3, R345). -/
opaque hmac384 : (key msg : List Byte) → Digest

/-- HKDF-SHA-384 of a secret with a salt (log 3, R597). -/
opaque hkdf384 : (secret salt : List Byte) → List Byte

/-- FREE VALUE (log 4). The bytes of the random source at its n-th draw. -/
opaque randomBytes : (draw len : Nat) → List Byte

/-- The order n of the P-384 group (log 3, R589). -/
opaque groupOrder : Nat

/-- The field modulus p of P-384 (log 3, R596). -/
opaque fieldModulus : Nat

/-- The digest of the boot ROM, and what manufacture writes: the private scalar of slot 0, the firmware keys of slots 2 and 3,
the device certificate and the device CA certificate (R582, R588; log 7). -/
opaque romDigest : Digest
opaque deviceScalar : List Byte
opaque firmwareKey : (slot : Nat) → List Byte
opaque deviceCert : List Byte

/-- The words of what the factory sets in each module: SERIAL, UNIT_MAC, the SALT of the island, by address (log 12, R30, R353, R549). -/
opaque factoryWord : (addr : Nat) → Word
opaque deviceCa : List Byte

/-- The public key of a device certificate that chains to a device CA, or none (log 3, R597). -/
opaque deviceKey : (ca cert : List Byte) → Option (List Byte)

/-- What a DER certificate says: its public key, and whether it is signed with ECDSA over P-384 and SHA-384 (log 3, R612). -/
opaque certInfo : (der : List Byte) → Option (List Byte × Bool)

/-- The certificate signing request of a public key (log 3, R589). -/
opaque signingRequest : (pub : List Byte) → List Byte

/-- FREE VALUE (log 5). Which of the values within 1 ulp the array's square-root unit returns (R235): 0 below, 1 the
truncated result, 2 above. -/
opaque sqrtPick : Word → Fin 3

/-- FREE VALUE (log 5). Which of the values within 1 ulp the array's exponential unit returns (R235). -/
opaque expPick : Word → Bool

end Sys2Proof.Config
end

