-- ==== Sys2Proof/Machine/Bytes.lean ====
section
/-!
DEFINITION. Byte order, bit fields, sign extension, saturation and CRC-32C: the small helpers every meaning uses.
Multi-byte fields of images, records and frames are little-endian (chapter Scope, "Numbers, units and quantities").
-/

namespace Sys2Proof.Machine

/-- The byte at offset `i`, as a number; bytes beyond the end read 0. -/
def byteAt (b : List Byte) (i : Nat) : Nat := (b.getD i 0).toNat

/-- The `n`-byte little-endian field at offset `off`. -/
def leAt (b : List Byte) (off : Nat) : Nat → Nat
  | 0 => 0
  | n + 1 => byteAt b off + 256 * leAt b (off + 1) n

/-- `n` bytes of `b` from offset `off`. -/
def sliceOf (b : List Byte) (off n : Nat) : List Byte := (b.drop off).take n

/-- The `n` little-endian bytes of a number. -/
def leBytes (v : Nat) : Nat → List Byte
  | 0 => []
  | n + 1 => BitVec.ofNat 8 (v % 256) :: leBytes (v / 256) n

/-- The number spelled big-endian by the bytes, as key material and signatures are (R42, R589). -/
def beNat (b : List Byte) : Nat := b.foldl (fun a x => a * 256 + x.toNat) 0

/-- The two's-complement value of the low `w` bits of `n`. -/
def signedOf (w n : Nat) : Int :=
  let m := n % 2 ^ w
  if m < 2 ^ (w - 1) then (m : Int) else (m : Int) - (2 ^ w : Nat)

/-- The low `w` bits of the two's-complement form of an integer. -/
def bitsOfInt (w : Nat) (i : Int) : Nat := (i % ((2 ^ w : Nat) : Int)).toNat

/-- An integer limited to `lo`..`hi`. -/
def clampInt (lo hi i : Int) : Int := if i < lo then lo else if hi < i then hi else i

/-- Field [hi:lo] of a word. -/
def bitsOf (hi lo : Nat) (w : Word) : Nat := (w.toNat / 2 ^ lo) % 2 ^ (hi + 1 - lo)

/-- The word with field [hi:lo] replaced by the low bits of `v`. -/
def putBits (hi lo v : Nat) (w : Word) : Word :=
  let n := w.toNat
  let m := 2 ^ (hi + 1 - lo)
  w32 (n % 2 ^ lo + (v % m) * 2 ^ lo + n / 2 ^ (hi + 1) * 2 ^ (hi + 1))

/-- Bit `i` of a word. -/
def bitAt (i : Nat) (w : Word) : Bool := bitsOf i i w == 1

/-- The word with bit `i` set to `b`. -/
def putBit (i : Nat) (b : Bool) (w : Word) : Word := putBits i i b.toNat w

/-- Counter increment that saturates at `cap`. -/
def satAdd (cap n d : Nat) : Nat := if n + d ≤ cap then n + d else cap

/-- One byte of the CRC-32C: eight reflected steps with the polynomial 0x82F6_3B78. -/
def crcByteSteps : Nat → Nat → Nat
  | 0, c => c
  | k + 1, c => crcByteSteps k (if c % 2 == 1 then Nat.xor (c / 2) 0x82F63B78 else c / 2)

/-- CRC-32C of a byte string: initial value and final inversion all ones (R115). -/
def crc32c (b : List Byte) : Nat :=
  Nat.xor (b.foldl (fun c x => crcByteSteps 8 (Nat.xor c x.toNat)) 0xFFFFFFFF) 0xFFFFFFFF

/-- The words of a byte string, four bytes each, first byte in bits [7:0]. -/
def wordsOfBytes (b : List Byte) : Nat → List Word
  | 0 => []
  | n + 1 => w32 (leAt b 0 4) :: wordsOfBytes (b.drop 4) n

/-- The bytes of a list of words, low byte first. -/
def bytesOfWords (ws : List Word) : List Byte := ws.flatMap fun w => leBytes w.toNat 4

end Sys2Proof.Machine
end

