-- ==== Sys2Proof/Machine/CatTypes.lean ====
section
/-!
DEFINITION. The decoded records of a Catalogue image (R44 to R60), as plain data.
Field names are the manual's; reserved bytes are not kept.
-/

namespace Sys2Proof.Machine

/-- Record of section MODULE (R46). -/
structure ModuleRec where
  autoRun : Bool
  startKind : Nat
  partnerWait : Nat
  protPeriod : Nat
  moduleGrace : Nat
  deriving DecidableEq, Repr

/-- Record of section REDUNDANCY (R46). -/
structure RedundancyRec where
  role : Nat
  healthMin : Nat
  hbTimeout : Nat
  pairIndex : Nat
  workers : Nat
  dispatchHold : Nat
  hierTimeout : Nat
  deriving DecidableEq, Repr

/-- Record of section VITRINE (R46): the floors, in entries. -/
structure VitrineRec where
  prot : Nat
  plant : Nat
  host : Nat
  arch : Nat
  deriving DecidableEq, Repr

/-- Record of section STRINGS (R47). -/
structure StringRec where
  string : Nat
  cells : Nat
  chem : Nat
  scanHz : Nat
  estHz : Nat
  filter : Nat
  ratedCap : Nat
  fastHz : Nat
  balance : Bool
  deriving DecidableEq, Repr

/-- Record of section RINGS (R47). -/
structure RingRec where
  string : Nat
  nodes : Nat
  hostLoss : Nat
  fibreM : Nat
  segMaxM : Nat
  asymW : Int
  asymE : Int
  txnTimeout : Nat
  deriving DecidableEq, Repr

/-- Record of section NODES (R47). -/
structure NodeRec where
  string : Nat
  p : Nat
  kind : Nat
  firstCell : Nat
  cells : Nat
  temps : Nat
  auxType : Nat
  serial : Nat
  deriving DecidableEq, Repr

/-- Record of section GROUPS (R47): the member strings, ascending. -/
structure GroupRec where
  group : Nat
  members : List Nat
  deriving DecidableEq, Repr

/-- Record of section CHEMISTRY (R49). The five floats are binary32 bit patterns; tables are in image order. -/
structure ChemRec where
  profile : Nat
  qSoc : Word
  qRc : Word
  rMeas : Word
  p0Soc : Word
  p0Rc : Word
  socOcv : List Nat
  temp : List Int
  ocv : List Nat
  socRc : List Nat
  rsTab : List Nat
  raTab : List Nat
  caTab : List Nat
  rbTab : List Nat
  cbTab : List Nat
  deriving DecidableEq, Repr

/-- Record of section THRESHOLDS (R50); `string` is 0xFFFF in the default record. -/
structure ThreshRec where
  string : Nat
  vWarnHi : Nat
  vAlarmHi : Nat
  vWarnLo : Nat
  vAlarmLo : Nat
  tWarnHi : Int
  tAlarmHi : Int
  tWarnLo : Int
  tAlarmLo : Int
  ror10 : Nat
  ror60 : Nat
  grace : Nat
  iChgMax : Nat
  iDisMax : Nat
  deriving DecidableEq, Repr

/-- Record of section TASKS (R52); `core` is 0xFF where the module chooses. -/
structure TaskRec where
  task : Nat
  cls : Nat
  kind : Nat
  priority : Nat
  period : Nat
  wcet : Nat
  eventSrc : Nat
  codeIndex : Nat
  core : Nat
  deriving DecidableEq, Repr

/-- Record of section CODE (R52): one compiled task image. -/
structure CodeRec where
  isa : Nat
  entry : Nat
  imageCrc : Nat
  image : List Byte
  deriving DecidableEq, Repr

/-- Record of section RETAINED (R52). -/
structure RetainedRec where
  var : Nat
  offset : Nat
  size : Nat
  type : Nat
  deriving DecidableEq, Repr

/-- Record of section LOOPS (R52). The six floats are binary32 bit patterns. -/
structure LoopRec where
  slot : Nat
  task : Nat
  reverse : Bool
  dOnMeas : Bool
  cascade : Nat
  period : Nat
  outer : Nat
  cascadeN : Nat
  kp : Word
  ti : Word
  td : Word
  outMin : Word
  outMax : Word
  ramp : Word
  pvSrc : Nat
  outDst : Nat
  deriving DecidableEq, Repr

/-- Record of section FIELD_IO (R54). -/
structure FieldRec where
  cls : Nat
  channel : Nat
  filterN : Nat
  parallel : Nat
  aoMode : Nat
  stopValue : Nat
  aoChar : Nat
  fsk : Bool
  wake : Nat
  curve : Nat
  deriving DecidableEq, Repr

/-- One acceptance filter of a CAN record (R54). -/
structure CanFilter where
  match_ : Nat
  mask : Nat
  deriving DecidableEq, Repr

/-- Record of section CAN (R54). -/
structure CanRec where
  bus : Nat
  fd : Bool
  brs : Bool
  nominal : Nat
  data : Nat
  sampleNom : Nat
  sampleData : Nat
  wakeFilter : Nat
  wakeMode : Nat
  wakeId : Nat
  wakeMask : Nat
  wakeData : List Byte
  wakeDmask : List Byte
  filters : List CanFilter
  deriving DecidableEq, Repr

/-- Record of section NETWORK (R54). -/
structure NetworkRec where
  ports : Nat
  speed : Nat
  ptpMode : Nat
  ptpStep : Nat
  domPrimary : Nat
  domSecondary : Nat
  ipv4 : Nat
  prefixLen : Nat
  ipv6 : List Byte
  gateway : Nat
  vlan : Nat
  exchPort : Nat
  modbusPort : Nat
  reqDeadline : Nat
  sessions : Nat
  ptpAsym : List Int
  deriving DecidableEq, Repr

/-- Record of section ARCHIVE (R54). -/
structure ArchiveRec where
  nsid : Nat
  port : Nat
  content : Nat
  sizeGb : Nat
  interval : Nat
  retention : Nat
  deriving DecidableEq, Repr

/-- Record of section RINGALLOC (R56). -/
structure RingAllocRec where
  first : Nat
  count : Nat
  depth : Nat
  entry : Nat
  cls : Nat
  pin : Bool
  deriving DecidableEq, Repr

/-- Global record of section SAFETY (R58). -/
structure SafetyGlobal where
  lockoutReset : Nat
  tripInputs : Nat
  deriving DecidableEq, Repr

/-- String record of section SAFETY (R58). -/
structure SafetyString where
  /-- Index of the record in the section, as REJECT_RECORD counts (R63). -/
  index : Nat
  string : Nat
  iChgMax : Nat
  iDisMax : Nat
  vMin : Nat
  vMax : Nat
  tMin : Int
  tMax : Int
  direction : Nat
  reset : Nat
  outputs : Nat
  deriving DecidableEq, Repr

/-- SI record of section SAFETY (R58). -/
structure SafetySi where
  channel : Nat
  test : Bool
  discrepancy : Nat
  deriving DecidableEq, Repr

/-- SQ record of section SAFETY (R58). -/
structure SafetySq where
  channel : Nat
  test : Bool
  pulse : Nat
  pulsePeriod : Nat
  deriving DecidableEq, Repr

/-- The fields of the image header and trailers that the module keeps for a valid image (R37, R42, R59). -/
structure CatHead where
  catalogueId : Nat
  revision : Nat
  imageLength : Nat
  buildTime : Nat
  minFw : Nat
  structDigest : Digest
  retainDigest : Digest
  imageDigest : Digest
  safetyCrc : Nat
  /-- PROG_DIGEST (R383). -/
  progDigest : Digest
  deriving DecidableEq, Repr

/-- The configuration of a module: every section of a valid image, decoded. -/
structure Catalogue where
  head : CatHead
  module_ : ModuleRec
  redundancy : RedundancyRec
  vitrine : VitrineRec
  strings : List StringRec
  rings : List RingRec
  nodes : List NodeRec
  groups : List GroupRec
  chems : List ChemRec
  thresholds : List ThreshRec
  tasks : List TaskRec
  codes : List CodeRec
  retained : List RetainedRec
  /-- Bytes of the INITIAL record. -/
  initial : List Byte
  loops : List LoopRec
  fieldIo : List FieldRec
  /-- CURVES: 33 points of (input, output) per record. -/
  curves : List (List (Nat × Nat))
  can : List CanRec
  network : NetworkRec
  archive : List ArchiveRec
  ringAlloc : List RingAllocRec
  safetyGlobal : SafetyGlobal
  safetyStrings : List SafetyString
  safetySi : List SafetySi
  safetySq : List SafetySq
  /-- A RETAINED section is present (R34, event 0x003). -/
  hasRetained : Bool
  deriving DecidableEq, Repr

end Sys2Proof.Machine
end

