-- ==== Sys2Proof/Machine/Objects.lean ====
section
/-!
DEFINITION. The host object map: the address of every object the spec names (R6, R7), its access code (R8) and its
reset value, as the object tables of the chapters give them. The tables follow the spec's own, row by row.
-/

namespace Sys2Proof.Machine

/-- A host object address: space [31:24], instance [23:7], item [6:0] (R6). -/
abbrev obj (space inst item : Nat) : Nat := space * 2 ^ 24 + inst % 2 ^ 17 * 2 ^ 7 + item % 2 ^ 7

/-- The access codes of R8. -/
inductive Access where
  | ro | rw | wo | w1c | rc | rwl | rwp
  deriving DecidableEq, Repr

/-- One row of an object table: the items it spans, its access code and its reset value. -/
structure ObjDef where
  lo : Nat
  hi : Nat
  acc : Access
  reset : Nat
  /-- The value is kept in MRAM across restarts and power (reset column "kept"). -/
  kept : Bool
  deriving DecidableEq, Repr

/-- The kinds of instance the object tables distinguish. -/
inductive ObjKind where

  | mod | slot | cat | time | dom | cal | port | node | str | cell | imp | impS | bal | mthm | thm | prot | pstr | safe | si | sq | func | sched | task | core | eng | loop | io | fs | di | dout | ao | cans | bus | red | hier | wk | net | vit | nport | sess | rcd | arc | st | ns | sec | cert | mr | key | upd | fw | pwr | sens
  deriving DecidableEq, Repr


/-! Space 0x00, mod: R30 -/
abbrev Obj.mod.ident : Nat := obj 0x00 0 0x00
abbrev Obj.mod.fwVersion : Nat := obj 0x00 0 0x01
abbrev Obj.mod.serial : Nat := obj 0x00 0 0x02
abbrev Obj.mod.mode : Nat := obj 0x00 0 0x06
abbrev Obj.mod.modeCmd : Nat := obj 0x00 0 0x07
abbrev Obj.mod.cmdStatus : Nat := obj 0x00 0 0x08
abbrev Obj.mod.health : Nat := obj 0x00 0 0x09
abbrev Obj.mod.faults : Nat := obj 0x00 0 0x0A
abbrev Obj.mod.restarts : Nat := obj 0x00 0 0x0B
abbrev Obj.mod.lastRestart : Nat := obj 0x00 0 0x0C
abbrev Obj.mod.modeTime : Nat := obj 0x00 0 0x0D
abbrev Obj.mod.config : Nat := obj 0x00 0 0x0F

/-! Space 0x01, slot: R72 -/
abbrev Obj.slot.slotStatus (i : Nat) : Nat := obj 0x01 i 0x00
abbrev Obj.slot.rejectWhere (i : Nat) : Nat := obj 0x01 i 0x01
abbrev Obj.slot.rejectRecord (i : Nat) : Nat := obj 0x01 i 0x02
abbrev Obj.slot.catalogueId (i : Nat) : Nat := obj 0x01 i 0x03
abbrev Obj.slot.revision (i : Nat) : Nat := obj 0x01 i 0x05
abbrev Obj.slot.length (i : Nat) : Nat := obj 0x01 i 0x06
abbrev Obj.slot.buildTime (i : Nat) : Nat := obj 0x01 i 0x07
abbrev Obj.slot.minFw (i : Nat) : Nat := obj 0x01 i 0x09
abbrev Obj.slot.safetyCrc (i : Nat) : Nat := obj 0x01 i 0x0A
abbrev Obj.slot.pages (i : Nat) : Nat := obj 0x01 i 0x0B
abbrev Obj.slot.structDigest (i : Nat) : Nat := obj 0x01 i 0x0C
abbrev Obj.slot.retainDigest (i : Nat) : Nat := obj 0x01 i 0x18

/-! Space 0x01, cat: R72 -/
abbrev Obj.cat.catCmd : Nat := obj 0x01 2 0x00
abbrev Obj.cat.catCmdStatus : Nat := obj 0x01 2 0x01
abbrev Obj.cat.activations : Nat := obj 0x01 2 0x02
abbrev Obj.cat.eraseProgress : Nat := obj 0x01 2 0x03

/-! Space 0x02, time: R195 -/
abbrev Obj.time.moduleTime : Nat := obj 0x02 0 0x00
abbrev Obj.time.shortTime : Nat := obj 0x02 0 0x02
abbrev Obj.time.timeStatus : Nat := obj 0x02 0 0x03
abbrev Obj.time.timeFlags : Nat := obj 0x02 0 0x04
abbrev Obj.time.timeCmd : Nat := obj 0x02 0 0x05
abbrev Obj.time.cmdStatus : Nat := obj 0x02 0 0x06
abbrev Obj.time.timeCfg : Nat := obj 0x02 0 0x07
abbrev Obj.time.pairOffset : Nat := obj 0x02 0 0x08
abbrev Obj.time.tiOffset : Nat := obj 0x02 0 0x09
abbrev Obj.time.pendingOffset : Nat := obj 0x02 0 0x0A
abbrev Obj.time.holdoverTime : Nat := obj 0x02 0 0x0C
abbrev Obj.time.freq : Nat := obj 0x02 0 0x0D
abbrev Obj.time.utcOffset : Nat := obj 0x02 0 0x0E

/-! Space 0x02, dom: R195 -/
abbrev Obj.dom.domStatus (i : Nat) : Nat := obj 0x02 (1 + i) 0x00
abbrev Obj.dom.gmIdentity (i : Nat) : Nat := obj 0x02 (1 + i) 0x01
abbrev Obj.dom.offset (i : Nat) : Nat := obj 0x02 (1 + i) 0x03
abbrev Obj.dom.pathDelay (i : Nat) : Nat := obj 0x02 (1 + i) 0x04
abbrev Obj.dom.syncRx (i : Nat) : Nat := obj 0x02 (1 + i) 0x05

/-! Space 0x02, cal: R195 -/
abbrev Obj.cal.calStatus (i : Nat) : Nat := obj 0x02 (256 + i) 0x00
abbrev Obj.cal.closure (i : Nat) : Nat := obj 0x02 (256 + i) 0x01
abbrev Obj.cal.calPasses (i : Nat) : Nat := obj 0x02 (256 + i) 0x02
abbrev Obj.cal.calTime (i : Nat) : Nat := obj 0x02 (256 + i) 0x03
abbrev Obj.cal.maxChange (i : Nat) : Nat := obj 0x02 (256 + i) 0x05

/-! Space 0x03, port: R108 -/
abbrev Obj.port.portStatus (i : Nat) : Nat := obj 0x03 i 0x00
abbrev Obj.port.portFlags (i : Nat) : Nat := obj 0x03 i 0x01
abbrev Obj.port.portCmd (i : Nat) : Nat := obj 0x03 i 0x02
abbrev Obj.port.cmdStatus (i : Nat) : Nat := obj 0x03 i 0x03
abbrev Obj.port.score (i : Nat) : Nat := obj 0x03 i 0x04
abbrev Obj.port.ring (i : Nat) : Nat := obj 0x03 i 0x05
abbrev Obj.port.hbLast (i : Nat) : Nat := obj 0x03 i 0x06
abbrev Obj.port.faultLast (i : Nat) : Nat := obj 0x03 i 0x07
abbrev Obj.port.optical (i : Nat) : Nat := obj 0x03 i 0x08
abbrev Obj.port.codeErrors (i : Nat) : Nat := obj 0x03 i 0x09
abbrev Obj.port.crcErrors (i : Nat) : Nat := obj 0x03 i 0x0A
abbrev Obj.port.retrains (i : Nat) : Nat := obj 0x03 i 0x0B
abbrev Obj.port.losEvents (i : Nat) : Nat := obj 0x03 i 0x0C
abbrev Obj.port.hbMissed (i : Nat) : Nat := obj 0x03 i 0x0D
abbrev Obj.port.overruns (i : Nat) : Nat := obj 0x03 i 0x0E
abbrev Obj.port.osDiscarded (i : Nat) : Nat := obj 0x03 i 0x0F
abbrev Obj.port.linkTime (i : Nat) : Nat := obj 0x03 i 0x10

/-! Space 0x04, node: R160 -/
abbrev Obj.node.nodeStatus (i : Nat) : Nat := obj 0x04 i 0x00
abbrev Obj.node.nodeFlags (i : Nat) : Nat := obj 0x04 i 0x01
abbrev Obj.node.nodeCmd (i : Nat) : Nat := obj 0x04 i 0x02
abbrev Obj.node.cmdStatus (i : Nat) : Nat := obj 0x04 i 0x03
abbrev Obj.node.serial (i : Nat) : Nat := obj 0x04 i 0x04
abbrev Obj.node.fwVersion (i : Nat) : Nat := obj 0x04 i 0x06
abbrev Obj.node.hops (i : Nat) : Nat := obj 0x04 i 0x07
abbrev Obj.node.txns (i : Nat) : Nat := obj 0x04 i 0x08
abbrev Obj.node.retries (i : Nat) : Nat := obj 0x04 i 0x09
abbrev Obj.node.txnFailed (i : Nat) : Nat := obj 0x04 i 0x0A
abbrev Obj.node.lateReplies (i : Nat) : Nat := obj 0x04 i 0x0B
abbrev Obj.node.nodeDiscards (i : Nat) : Nat := obj 0x04 i 0x0C
abbrev Obj.node.safeEntries (i : Nat) : Nat := obj 0x04 i 0x0D
abbrev Obj.node.lastSample (i : Nat) : Nat := obj 0x04 i 0x0E
abbrev Obj.node.alertLast (i : Nat) : Nat := obj 0x04 i 0x0F
abbrev Obj.node.lastSeen (i : Nat) : Nat := obj 0x04 i 0x10

/-! Space 0x05, str: R226 -/
abbrev Obj.str.strStatus (i : Nat) : Nat := obj 0x05 i 0x00
abbrev Obj.str.strFlags (i : Nat) : Nat := obj 0x05 i 0x01
abbrev Obj.str.scanCfg (i : Nat) : Nat := obj 0x05 i 0x02
abbrev Obj.str.scanCfg2 (i : Nat) : Nat := obj 0x05 i 0x03
abbrev Obj.str.strCmd (i : Nat) : Nat := obj 0x05 i 0x04
abbrev Obj.str.cmdStatus (i : Nat) : Nat := obj 0x05 i 0x05
abbrev Obj.str.snapTime (i : Nat) : Nat := obj 0x05 i 0x06
abbrev Obj.str.snapshot (i : Nat) : Nat := obj 0x05 i 0x08
abbrev Obj.str.period (i : Nat) : Nat := obj 0x05 i 0x14
abbrev Obj.str.provSnapshot (i : Nat) : Nat := obj 0x05 i 0x20
abbrev Obj.str.snapshots (i : Nat) : Nat := obj 0x05 i 0x30
abbrev Obj.str.copiesTwo (i : Nat) : Nat := obj 0x05 i 0x31
abbrev Obj.str.copiesOne (i : Nat) : Nat := obj 0x05 i 0x32
abbrev Obj.str.withdrawn (i : Nat) : Nat := obj 0x05 i 0x33
abbrev Obj.str.missing (i : Nat) : Nat := obj 0x05 i 0x34
abbrev Obj.str.lateCopies (i : Nat) : Nat := obj 0x05 i 0x35
abbrev Obj.str.mismatches (i : Nat) : Nat := obj 0x05 i 0x36
abbrev Obj.str.squashes (i : Nat) : Nat := obj 0x05 i 0x37
abbrev Obj.str.lapses (i : Nat) : Nat := obj 0x05 i 0x38
abbrev Obj.str.capturesClosed (i : Nat) : Nat := obj 0x05 i 0x39
abbrev Obj.str.capturesAbandoned (i : Nat) : Nat := obj 0x05 i 0x3A
abbrev Obj.str.patched (i : Nat) : Nat := obj 0x05 i 0x3B
abbrev Obj.str.estStatus (i : Nat) : Nat := obj 0x05 i 0x40
abbrev Obj.str.estCfg (i : Nat) : Nat := obj 0x05 i 0x41
abbrev Obj.str.socRange (i : Nat) : Nat := obj 0x05 i 0x42
abbrev Obj.str.socPos (i : Nat) : Nat := obj 0x05 i 0x43
abbrev Obj.str.socMean (i : Nat) : Nat := obj 0x05 i 0x44
abbrev Obj.str.restTime (i : Nat) : Nat := obj 0x05 i 0x45
abbrev Obj.str.chg2 (i : Nat) : Nat := obj 0x05 i 0x46
abbrev Obj.str.chg10 (i : Nat) : Nat := obj 0x05 i 0x47
abbrev Obj.str.chg60 (i : Nat) : Nat := obj 0x05 i 0x48
abbrev Obj.str.dis2 (i : Nat) : Nat := obj 0x05 i 0x49
abbrev Obj.str.dis10 (i : Nat) : Nat := obj 0x05 i 0x4A
abbrev Obj.str.dis60 (i : Nat) : Nat := obj 0x05 i 0x4B
abbrev Obj.str.sopLimiter (i : Nat) : Nat := obj 0x05 i 0x4C
abbrev Obj.str.sopSample (i : Nat) : Nat := obj 0x05 i 0x4D
abbrev Obj.str.estDigest (i : Nat) : Nat := obj 0x05 i 0x4E
abbrev Obj.str.pairRefreshes (i : Nat) : Nat := obj 0x05 i 0x4F

/-! Space 0x06, cell: R260 -/
abbrev Obj.cell.cellStatus (i : Nat) : Nat := obj 0x06 i 0x00
abbrev Obj.cell.cellFlags (i : Nat) : Nat := obj 0x06 i 0x01
abbrev Obj.cell.cellCmd (i : Nat) : Nat := obj 0x06 i 0x02
abbrev Obj.cell.cmdStatus (i : Nat) : Nat := obj 0x06 i 0x03
abbrev Obj.cell.meas (i : Nat) : Nat := obj 0x06 i 0x04
abbrev Obj.cell.measSample (i : Nat) : Nat := obj 0x06 i 0x05
abbrev Obj.cell.soc (i : Nat) : Nat := obj 0x06 i 0x06
abbrev Obj.cell.socSigma (i : Nat) : Nat := obj 0x06 i 0x07
abbrev Obj.cell.va (i : Nat) : Nat := obj 0x06 i 0x08
abbrev Obj.cell.vb (i : Nat) : Nat := obj 0x06 i 0x09
abbrev Obj.cell.ocvInnov (i : Nat) : Nat := obj 0x06 i 0x0A
abbrev Obj.cell.rsEff (i : Nat) : Nat := obj 0x06 i 0x0B
abbrev Obj.cell.rabEff (i : Nat) : Nat := obj 0x06 i 0x0C
abbrev Obj.cell.capacity (i : Nat) : Nat := obj 0x06 i 0x0D
abbrev Obj.cell.scale (i : Nat) : Nat := obj 0x06 i 0x0E
abbrev Obj.cell.estSample (i : Nat) : Nat := obj 0x06 i 0x0F
abbrev Obj.cell.updates (i : Nat) : Nat := obj 0x06 i 0x10
abbrev Obj.cell.corrections (i : Nat) : Nat := obj 0x06 i 0x11
abbrev Obj.cell.outliers (i : Nat) : Nat := obj 0x06 i 0x12
abbrev Obj.cell.covResets (i : Nat) : Nat := obj 0x06 i 0x13
abbrev Obj.cell.learnCmd (i : Nat) : Nat := obj 0x06 i 0x20
abbrev Obj.cell.learnCmdStatus (i : Nat) : Nat := obj 0x06 i 0x21
abbrev Obj.cell.rsLast (i : Nat) : Nat := obj 0x06 i 0x22
abbrev Obj.cell.rctLast (i : Nat) : Nat := obj 0x06 i 0x23
abbrev Obj.cell.captureSample (i : Nat) : Nat := obj 0x06 i 0x24
abbrev Obj.cell.batch (i : Nat) : Nat := obj 0x06 i 0x25
abbrev Obj.cell.batchInfo (i : Nat) : Nat := obj 0x06 i 0x26
abbrev Obj.cell.anchor (i : Nat) : Nat := obj 0x06 i 0x27
abbrev Obj.cell.capLast (i : Nat) : Nat := obj 0x06 i 0x28
abbrev Obj.cell.capCandidate (i : Nat) : Nat := obj 0x06 i 0x29
abbrev Obj.cell.soh (i : Nat) : Nat := obj 0x06 i 0x2A
abbrev Obj.cell.learnFlags (i : Nat) : Nat := obj 0x06 i 0x2B
abbrev Obj.cell.balCell (i : Nat) : Nat := obj 0x06 i 0x30

/-! Space 0x07, imp: R264 -/
abbrev Obj.imp.arrayStatus : Nat := obj 0x07 0 0x00
abbrev Obj.imp.arrayUpdates : Nat := obj 0x07 0 0x01
abbrev Obj.imp.reruns : Nat := obj 0x07 0 0x03
abbrev Obj.imp.laneFaults : Nat := obj 0x07 0 0x04
abbrev Obj.imp.checkpoint : Nat := obj 0x07 0 0x05
abbrev Obj.imp.impCfg : Nat := obj 0x07 0 0x06
abbrev Obj.imp.impCfg2 : Nat := obj 0x07 0 0x07
abbrev Obj.imp.capCfg : Nat := obj 0x07 0 0x08
abbrev Obj.imp.capCfg2 : Nat := obj 0x07 0 0x09
abbrev Obj.imp.ageCfg : Nat := obj 0x07 0 0x0A
abbrev Obj.imp.capturesUsed : Nat := obj 0x07 0 0x0B
abbrev Obj.imp.capturesRejected : Nat := obj 0x07 0 0x0C
abbrev Obj.imp.scaleUpdates : Nat := obj 0x07 0 0x0D
abbrev Obj.imp.batchesRejected : Nat := obj 0x07 0 0x0E
abbrev Obj.imp.capAccepted : Nat := obj 0x07 0 0x0F
abbrev Obj.imp.capDisqualified : Nat := obj 0x07 0 0x10
abbrev Obj.imp.capRejected : Nat := obj 0x07 0 0x11
abbrev Obj.imp.learnStore : Nat := obj 0x07 0 0x12
abbrev Obj.imp.impCmd : Nat := obj 0x07 0 0x13
abbrev Obj.imp.cmdStatus : Nat := obj 0x07 0 0x14

/-! Space 0x07, impS: R285 -/
abbrev Obj.impS.impStatus (i : Nat) : Nat := obj 0x07 (256 + i) 0x00
abbrev Obj.impS.impFlags (i : Nat) : Nat := obj 0x07 (256 + i) 0x01
abbrev Obj.impS.captureLast (i : Nat) : Nat := obj 0x07 (256 + i) 0x02
abbrev Obj.impS.captureStep (i : Nat) : Nat := obj 0x07 (256 + i) 0x03
abbrev Obj.impS.captureResult (i : Nat) : Nat := obj 0x07 (256 + i) 0x04
abbrev Obj.impS.capStr (i : Nat) : Nat := obj 0x07 (256 + i) 0x05
abbrev Obj.impS.sohMin (i : Nat) : Nat := obj 0x07 (256 + i) 0x06
abbrev Obj.impS.rsMax (i : Nat) : Nat := obj 0x07 (256 + i) 0x07
abbrev Obj.impS.capMean (i : Nat) : Nat := obj 0x07 (256 + i) 0x08
abbrev Obj.impS.ageWarnCells (i : Nat) : Nat := obj 0x07 (256 + i) 0x09
abbrev Obj.impS.pairPatched (i : Nat) : Nat := obj 0x07 (256 + i) 0x0A

/-! Space 0x08, bal: R309 -/
abbrev Obj.bal.balStatus (i : Nat) : Nat := obj 0x08 i 0x00
abbrev Obj.bal.balFlags (i : Nat) : Nat := obj 0x08 i 0x01
abbrev Obj.bal.balCfg (i : Nat) : Nat := obj 0x08 i 0x02
abbrev Obj.bal.balCfg2 (i : Nat) : Nat := obj 0x08 i 0x03
abbrev Obj.bal.balCmd (i : Nat) : Nat := obj 0x08 i 0x04
abbrev Obj.bal.cmdStatus (i : Nat) : Nat := obj 0x08 i 0x05
abbrev Obj.bal.target (i : Nat) : Nat := obj 0x08 i 0x06
abbrev Obj.bal.roundSample (i : Nat) : Nat := obj 0x08 i 0x07
abbrev Obj.bal.bled (i : Nat) : Nat := obj 0x08 i 0x08
abbrev Obj.bal.rounds (i : Nat) : Nat := obj 0x08 i 0x09
abbrev Obj.bal.maskMismatches (i : Nat) : Nat := obj 0x08 i 0x0A
abbrev Obj.bal.mask (i : Nat) : Nat := obj 0x08 i 0x10
abbrev Obj.bal.planned (i : Nat) : Nat := obj 0x08 i 0x20

/-! Space 0x09, mthm: R312 -/
abbrev Obj.mthm.modTherm : Nat := obj 0x09 0 0x00
abbrev Obj.mthm.modFlags : Nat := obj 0x09 0 0x01
abbrev Obj.mthm.modGraceLeft : Nat := obj 0x09 0 0x02
abbrev Obj.mthm.stretchSkips : Nat := obj 0x09 0 0x03

/-! Space 0x09, thm: R312 -/
abbrev Obj.thm.thermStatus (i : Nat) : Nat := obj 0x09 (256 + i) 0x00
abbrev Obj.thm.thermFlags (i : Nat) : Nat := obj 0x09 (256 + i) 0x01
abbrev Obj.thm.thermCfg (i : Nat) : Nat := obj 0x09 (256 + i) 0x02
abbrev Obj.thm.thermCmd (i : Nat) : Nat := obj 0x09 (256 + i) 0x03
abbrev Obj.thm.cmdStatus (i : Nat) : Nat := obj 0x09 (256 + i) 0x04
abbrev Obj.thm.hottest (i : Nat) : Nat := obj 0x09 (256 + i) 0x05
abbrev Obj.thm.rate10Max (i : Nat) : Nat := obj 0x09 (256 + i) 0x06
abbrev Obj.thm.rate60Max (i : Nat) : Nat := obj 0x09 (256 + i) 0x07
abbrev Obj.thm.derateChg (i : Nat) : Nat := obj 0x09 (256 + i) 0x08
abbrev Obj.thm.derateDis (i : Nat) : Nat := obj 0x09 (256 + i) 0x09
abbrev Obj.thm.graceLeft (i : Nat) : Nat := obj 0x09 (256 + i) 0x0A
abbrev Obj.thm.broken (i : Nat) : Nat := obj 0x09 (256 + i) 0x0B
abbrev Obj.thm.thermalOpens (i : Nat) : Nat := obj 0x09 (256 + i) 0x0C
abbrev Obj.thm.warnings (i : Nat) : Nat := obj 0x09 (256 + i) 0x0D
abbrev Obj.thm.alarms (i : Nat) : Nat := obj 0x09 (256 + i) 0x0E

/-! Space 0x0A, prot: R351 -/
abbrev Obj.prot.protStatus : Nat := obj 0x0A 0 0x00
abbrev Obj.prot.protFlags : Nat := obj 0x0A 0 0x01
abbrev Obj.prot.cycleNo : Nat := obj 0x0A 0 0x02
abbrev Obj.prot.protCfg : Nat := obj 0x0A 0 0x03
abbrev Obj.prot.protCmd : Nat := obj 0x0A 0 0x04
abbrev Obj.prot.cmdStatus : Nat := obj 0x0A 0 0x05
abbrev Obj.prot.trips : Nat := obj 0x0A 0 0x06
abbrev Obj.prot.trippedNow : Nat := obj 0x0A 0 0x07

/-! Space 0x0A, pstr: R351 -/
abbrev Obj.pstr.pstrStatus (i : Nat) : Nat := obj 0x0A (256 + i) 0x00
abbrev Obj.pstr.pstrFlags (i : Nat) : Nat := obj 0x0A (256 + i) 0x01
abbrev Obj.pstr.contactReq (i : Nat) : Nat := obj 0x0A (256 + i) 0x02
abbrev Obj.pstr.pstrCmd (i : Nat) : Nat := obj 0x0A (256 + i) 0x03
abbrev Obj.pstr.cmdStatus (i : Nat) : Nat := obj 0x0A (256 + i) 0x04
abbrev Obj.pstr.tripWhere (i : Nat) : Nat := obj 0x0A (256 + i) 0x05
abbrev Obj.pstr.tripValue (i : Nat) : Nat := obj 0x0A (256 + i) 0x06
abbrev Obj.pstr.tripSample (i : Nat) : Nat := obj 0x0A (256 + i) 0x07
abbrev Obj.pstr.strTrips (i : Nat) : Nat := obj 0x0A (256 + i) 0x08
abbrev Obj.pstr.openFails (i : Nat) : Nat := obj 0x0A (256 + i) 0x09
abbrev Obj.pstr.contactorCmds (i : Nat) : Nat := obj 0x0A (256 + i) 0x0A

/-! Space 0x0B, safe: R353 -/
abbrev Obj.safe.safeStatus : Nat := obj 0x0B 0 0x00
abbrev Obj.safe.safeFlags : Nat := obj 0x0B 0 0x01
abbrev Obj.safe.safeCmd : Nat := obj 0x0B 0 0x02
abbrev Obj.safe.cmdStatus : Nat := obj 0x0B 0 0x03
abbrev Obj.safe.session : Nat := obj 0x0B 0 0x04
abbrev Obj.safe.sessionUser : Nat := obj 0x0B 0 0x05
abbrev Obj.safe.safeCfg : Nat := obj 0x0B 0 0x06
abbrev Obj.safe.safetyCrc : Nat := obj 0x0B 0 0x07
abbrev Obj.safe.lockoutCause : Nat := obj 0x0B 0 0x08
abbrev Obj.safe.sqOn : Nat := obj 0x0B 0 0x09
abbrev Obj.safe.sqLatched : Nat := obj 0x0B 0 0x0A
abbrev Obj.safe.siValue : Nat := obj 0x0B 0 0x0B
abbrev Obj.safe.salt : Nat := obj 0x0B 0 0x0C
abbrev Obj.safe.nonce : Nat := obj 0x0B 0 0x10
abbrev Obj.safe.logStatus : Nat := obj 0x0B 0 0x1C
abbrev Obj.safe.logNewest : Nat := obj 0x0B 0 0x1D
abbrev Obj.safe.logIndex : Nat := obj 0x0B 0 0x1E
abbrev Obj.safe.logAck : Nat := obj 0x0B 0 0x1F
abbrev Obj.safe.logEntry : Nat := obj 0x0B 0 0x20
abbrev Obj.safe.authUser : Nat := obj 0x0B 0 0x28
abbrev Obj.safe.authMac : Nat := obj 0x0B 0 0x29
abbrev Obj.safe.authSig : Nat := obj 0x0B 0 0x35
abbrev Obj.safe.newKey : Nat := obj 0x0B 0 0x4D
abbrev Obj.safe.lockouts : Nat := obj 0x0B 0 0x59
abbrev Obj.safe.xchecks : Nat := obj 0x0B 0 0x5A

/-! Space 0x0B, si: R355 -/
abbrev Obj.si.siStatus (i : Nat) : Nat := obj 0x0B (64 + i) 0x00
abbrev Obj.si.siFlags (i : Nat) : Nat := obj 0x0B (64 + i) 0x01
abbrev Obj.si.siPulses (i : Nat) : Nat := obj 0x0B (64 + i) 0x02
abbrev Obj.si.siLastPulse (i : Nat) : Nat := obj 0x0B (64 + i) 0x03

/-! Space 0x0B, sq: R355 -/
abbrev Obj.sq.sqStatus (i : Nat) : Nat := obj 0x0B (96 + i) 0x00
abbrev Obj.sq.sqFlags (i : Nat) : Nat := obj 0x0B (96 + i) 0x01
abbrev Obj.sq.sqCmd (i : Nat) : Nat := obj 0x0B (96 + i) 0x02
abbrev Obj.sq.cmdStatus (i : Nat) : Nat := obj 0x0B (96 + i) 0x03
abbrev Obj.sq.sqLatches (i : Nat) : Nat := obj 0x0B (96 + i) 0x04

/-! Space 0x0B, func: R356 -/
abbrev Obj.func.funcStatus (i : Nat) : Nat := obj 0x0B (256 + i) 0x00
abbrev Obj.func.funcFlags (i : Nat) : Nat := obj 0x0B (256 + i) 0x01
abbrev Obj.func.funcWhere (i : Nat) : Nat := obj 0x0B (256 + i) 0x02
abbrev Obj.func.funcValue (i : Nat) : Nat := obj 0x0B (256 + i) 0x03
abbrev Obj.func.iChgEff (i : Nat) : Nat := obj 0x0B (256 + i) 0x04
abbrev Obj.func.iDisEff (i : Nat) : Nat := obj 0x0B (256 + i) 0x05
abbrev Obj.func.locks (i : Nat) : Nat := obj 0x0B (256 + i) 0x06
abbrev Obj.func.lockTime (i : Nat) : Nat := obj 0x0B (256 + i) 0x07

/-! Space 0x0C, sched: R389 -/
abbrev Obj.sched.schedStatus : Nat := obj 0x0C 0 0x00
abbrev Obj.sched.schedFlags : Nat := obj 0x0C 0 0x01
abbrev Obj.sched.schedCmd : Nat := obj 0x0C 0 0x02
abbrev Obj.sched.cmdStatus : Nat := obj 0x0C 0 0x03
abbrev Obj.sched.taskTime : Nat := obj 0x0C 0 0x04
abbrev Obj.sched.cycleDigest : Nat := obj 0x0C 0 0x06
abbrev Obj.sched.digestMismatches : Nat := obj 0x0C 0 0x07
abbrev Obj.sched.progResyncs : Nat := obj 0x0C 0 0x08
abbrev Obj.sched.retainUsed : Nat := obj 0x0C 0 0x09
abbrev Obj.sched.journal : Nat := obj 0x0C 0 0x0A
abbrev Obj.sched.varSelect : Nat := obj 0x0C 0 0x0B
abbrev Obj.sched.varOffset : Nat := obj 0x0C 0 0x0C
abbrev Obj.sched.varInfo : Nat := obj 0x0C 0 0x0D
abbrev Obj.sched.varSize : Nat := obj 0x0C 0 0x0E
abbrev Obj.sched.progDigest : Nat := obj 0x0C 0 0x10
abbrev Obj.sched.varData : Nat := obj 0x0C 0 0x40

/-! Space 0x0C, task: R392 -/
abbrev Obj.task.taskStatus (i : Nat) : Nat := obj 0x0C (64 + i) 0x00
abbrev Obj.task.taskFlags (i : Nat) : Nat := obj 0x0C (64 + i) 0x01
abbrev Obj.task.taskCmd (i : Nat) : Nat := obj 0x0C (64 + i) 0x02
abbrev Obj.task.cmdStatus (i : Nat) : Nat := obj 0x0C (64 + i) 0x03
abbrev Obj.task.period (i : Nat) : Nat := obj 0x0C (64 + i) 0x04
abbrev Obj.task.wcet (i : Nat) : Nat := obj 0x0C (64 + i) 0x05
abbrev Obj.task.execLast (i : Nat) : Nat := obj 0x0C (64 + i) 0x06
abbrev Obj.task.execMax (i : Nat) : Nat := obj 0x0C (64 + i) 0x07
abbrev Obj.task.respMax (i : Nat) : Nat := obj 0x0C (64 + i) 0x08
abbrev Obj.task.releases (i : Nat) : Nat := obj 0x0C (64 + i) 0x09
abbrev Obj.task.commits (i : Nat) : Nat := obj 0x0C (64 + i) 0x0A
abbrev Obj.task.overruns (i : Nat) : Nat := obj 0x0C (64 + i) 0x0B
abbrev Obj.task.skips (i : Nat) : Nat := obj 0x0C (64 + i) 0x0C
abbrev Obj.task.aborts (i : Nat) : Nat := obj 0x0C (64 + i) 0x0D
abbrev Obj.task.faults (i : Nat) : Nat := obj 0x0C (64 + i) 0x0E
abbrev Obj.task.eventsMerged (i : Nat) : Nat := obj 0x0C (64 + i) 0x0F
abbrev Obj.task.lastRelease (i : Nat) : Nat := obj 0x0C (64 + i) 0x10
abbrev Obj.task.faultLast (i : Nat) : Nat := obj 0x0C (64 + i) 0x12

/-! Space 0x0C, core: R394 -/
abbrev Obj.core.coreStatus (i : Nat) : Nat := obj 0x0C (128 + i) 0x00
abbrev Obj.core.preemptions (i : Nat) : Nat := obj 0x0C (128 + i) 0x01

/-! Space 0x0D, eng: R418 -/
abbrev Obj.eng.engineStatus : Nat := obj 0x0D 0 0x00
abbrev Obj.eng.engineFlags : Nat := obj 0x0D 0 0x01
abbrev Obj.eng.engineCmd : Nat := obj 0x0D 0 0x02
abbrev Obj.eng.cmdStatus : Nat := obj 0x0D 0 0x03
abbrev Obj.eng.evals : Nat := obj 0x0D 0 0x04
abbrev Obj.eng.queuePeak : Nat := obj 0x0D 0 0x05

/-! Space 0x0D, loop: R418 -/
abbrev Obj.loop.loopStatus (i : Nat) : Nat := obj 0x0D (256 + i) 0x00
abbrev Obj.loop.loopFlags (i : Nat) : Nat := obj 0x0D (256 + i) 0x01
abbrev Obj.loop.loopCmd (i : Nat) : Nat := obj 0x0D (256 + i) 0x02
abbrev Obj.loop.cmdStatus (i : Nat) : Nat := obj 0x0D (256 + i) 0x03
abbrev Obj.loop.sp (i : Nat) : Nat := obj 0x0D (256 + i) 0x04
abbrev Obj.loop.spEff (i : Nat) : Nat := obj 0x0D (256 + i) 0x05
abbrev Obj.loop.pv (i : Nat) : Nat := obj 0x0D (256 + i) 0x06
abbrev Obj.loop.out (i : Nat) : Nat := obj 0x0D (256 + i) 0x07
abbrev Obj.loop.manOut (i : Nat) : Nat := obj 0x0D (256 + i) 0x08
abbrev Obj.loop.kp (i : Nat) : Nat := obj 0x0D (256 + i) 0x09
abbrev Obj.loop.ti (i : Nat) : Nat := obj 0x0D (256 + i) 0x0A
abbrev Obj.loop.td (i : Nat) : Nat := obj 0x0D (256 + i) 0x0B
abbrev Obj.loop.ramp (i : Nat) : Nat := obj 0x0D (256 + i) 0x0C
abbrev Obj.loop.integral (i : Nat) : Nat := obj 0x0D (256 + i) 0x0D
abbrev Obj.loop.propKp (i : Nat) : Nat := obj 0x0D (256 + i) 0x0E
abbrev Obj.loop.tuneKu (i : Nat) : Nat := obj 0x0D (256 + i) 0x11
abbrev Obj.loop.tuneTu (i : Nat) : Nat := obj 0x0D (256 + i) 0x12
abbrev Obj.loop.tuneCfg (i : Nat) : Nat := obj 0x0D (256 + i) 0x13
abbrev Obj.loop.tuneD (i : Nat) : Nat := obj 0x0D (256 + i) 0x14
abbrev Obj.loop.tuneH (i : Nat) : Nat := obj 0x0D (256 + i) 0x15
abbrev Obj.loop.tuneLimit (i : Nat) : Nat := obj 0x0D (256 + i) 0x16
abbrev Obj.loop.evals (i : Nat) : Nat := obj 0x0D (256 + i) 0x17
abbrev Obj.loop.missed (i : Nat) : Nat := obj 0x0D (256 + i) 0x18
abbrev Obj.loop.squashes (i : Nat) : Nat := obj 0x0D (256 + i) 0x19
abbrev Obj.loop.saturations (i : Nat) : Nat := obj 0x0D (256 + i) 0x1A
abbrev Obj.loop.lastDt (i : Nat) : Nat := obj 0x0D (256 + i) 0x1B

/-! Space 0x0E, io: R458 -/
abbrev Obj.io.ioStatus : Nat := obj 0x0E 0 0x00
abbrev Obj.io.ioFlags : Nat := obj 0x0E 0 0x01
abbrev Obj.io.ioCmd : Nat := obj 0x0E 0 0x02
abbrev Obj.io.cmdStatus : Nat := obj 0x0E 0 0x03
abbrev Obj.io.diValues : Nat := obj 0x0E 0 0x04
abbrev Obj.io.doValues : Nat := obj 0x0E 0 0x0C
abbrev Obj.io.aoDriven : Nat := obj 0x0E 0 0x10

/-! Space 0x0E, fs: R458 -/
abbrev Obj.fs.fsStatus (i : Nat) : Nat := obj 0x0E (16 + i) 0x00
abbrev Obj.fs.fsLosses (i : Nat) : Nat := obj 0x0E (16 + i) 0x01

/-! Space 0x0E, di: R459 -/
abbrev Obj.di.diStatus (i : Nat) : Nat := obj 0x0E (256 + i) 0x00
abbrev Obj.di.diFlags (i : Nat) : Nat := obj 0x0E (256 + i) 0x01
abbrev Obj.di.diCmd (i : Nat) : Nat := obj 0x0E (256 + i) 0x02
abbrev Obj.di.cmdStatus (i : Nat) : Nat := obj 0x0E (256 + i) 0x03
abbrev Obj.di.diCfg (i : Nat) : Nat := obj 0x0E (256 + i) 0x04
abbrev Obj.di.rising (i : Nat) : Nat := obj 0x0E (256 + i) 0x05
abbrev Obj.di.falling (i : Nat) : Nat := obj 0x0E (256 + i) 0x06
abbrev Obj.di.edgeNewest (i : Nat) : Nat := obj 0x0E (256 + i) 0x07
abbrev Obj.di.overruns (i : Nat) : Nat := obj 0x0E (256 + i) 0x09
abbrev Obj.di.score (i : Nat) : Nat := obj 0x0E (256 + i) 0x0A
abbrev Obj.di.differs (i : Nat) : Nat := obj 0x0E (256 + i) 0x0B

/-! Space 0x0E, dout: R460 -/
abbrev Obj.dout.doStatus (i : Nat) : Nat := obj 0x0E (512 + i) 0x00
abbrev Obj.dout.doFlags (i : Nat) : Nat := obj 0x0E (512 + i) 0x01
abbrev Obj.dout.doCmd (i : Nat) : Nat := obj 0x0E (512 + i) 0x02
abbrev Obj.dout.cmdStatus (i : Nat) : Nat := obj 0x0E (512 + i) 0x03
abbrev Obj.dout.doValue (i : Nat) : Nat := obj 0x0E (512 + i) 0x04
abbrev Obj.dout.doCfg (i : Nat) : Nat := obj 0x0E (512 + i) 0x05
abbrev Obj.dout.doCurrent (i : Nat) : Nat := obj 0x0E (512 + i) 0x06
abbrev Obj.dout.overloads (i : Nat) : Nat := obj 0x0E (512 + i) 0x07
abbrev Obj.dout.score (i : Nat) : Nat := obj 0x0E (512 + i) 0x08
abbrev Obj.dout.switches (i : Nat) : Nat := obj 0x0E (512 + i) 0x09

/-! Space 0x0E, ao: R461 -/
abbrev Obj.ao.aoStatus (i : Nat) : Nat := obj 0x0E (640 + i) 0x00
abbrev Obj.ao.aoFlags (i : Nat) : Nat := obj 0x0E (640 + i) 0x01
abbrev Obj.ao.aoCmd (i : Nat) : Nat := obj 0x0E (640 + i) 0x02
abbrev Obj.ao.cmdStatus (i : Nat) : Nat := obj 0x0E (640 + i) 0x03
abbrev Obj.ao.aoValue (i : Nat) : Nat := obj 0x0E (640 + i) 0x04
abbrev Obj.ao.aoTarget (i : Nat) : Nat := obj 0x0E (640 + i) 0x05
abbrev Obj.ao.aoReadback (i : Nat) : Nat := obj 0x0E (640 + i) 0x06
abbrev Obj.ao.aoVoltage (i : Nat) : Nat := obj 0x0E (640 + i) 0x07
abbrev Obj.ao.stageTemp (i : Nat) : Nat := obj 0x0E (640 + i) 0x08
abbrev Obj.ao.fskStatus (i : Nat) : Nat := obj 0x0E (640 + i) 0x09
abbrev Obj.ao.score (i : Nat) : Nat := obj 0x0E (640 + i) 0x0A
abbrev Obj.ao.foldbacks (i : Nat) : Nat := obj 0x0E (640 + i) 0x0B
abbrev Obj.ao.handovers (i : Nat) : Nat := obj 0x0E (640 + i) 0x0C

/-! Space 0x0F, cans: R478 -/
abbrev Obj.cans.canSummary : Nat := obj 0x0F 0 0x00

/-! Space 0x0F, bus: R478 -/
abbrev Obj.bus.busStatus (i : Nat) : Nat := obj 0x0F (16 + i) 0x00
abbrev Obj.bus.busFlags (i : Nat) : Nat := obj 0x0F (16 + i) 0x01
abbrev Obj.bus.busCmd (i : Nat) : Nat := obj 0x0F (16 + i) 0x02
abbrev Obj.bus.cmdStatus (i : Nat) : Nat := obj 0x0F (16 + i) 0x03
abbrev Obj.bus.bitTiming (i : Nat) : Nat := obj 0x0F (16 + i) 0x04
abbrev Obj.bus.errCounters (i : Nat) : Nat := obj 0x0F (16 + i) 0x05
abbrev Obj.bus.txPending (i : Nat) : Nat := obj 0x0F (16 + i) 0x06
abbrev Obj.bus.txFrames (i : Nat) : Nat := obj 0x0F (16 + i) 0x07
abbrev Obj.bus.rxFrames (i : Nat) : Nat := obj 0x0F (16 + i) 0x08
abbrev Obj.bus.rxUnmatched (i : Nat) : Nat := obj 0x0F (16 + i) 0x09
abbrev Obj.bus.rxOverruns (i : Nat) : Nat := obj 0x0F (16 + i) 0x0A
abbrev Obj.bus.rxDiffers (i : Nat) : Nat := obj 0x0F (16 + i) 0x0B
abbrev Obj.bus.txDropped (i : Nat) : Nat := obj 0x0F (16 + i) 0x0C
abbrev Obj.bus.errorFrames (i : Nat) : Nat := obj 0x0F (16 + i) 0x0D
abbrev Obj.bus.busOffs (i : Nat) : Nat := obj 0x0F (16 + i) 0x0E
abbrev Obj.bus.score (i : Nat) : Nat := obj 0x0F (16 + i) 0x0F
abbrev Obj.bus.tdc (i : Nat) : Nat := obj 0x0F (16 + i) 0x10

/-! Space 0x10, red: R513 -/
abbrev Obj.red.redStatus : Nat := obj 0x10 0 0x00
abbrev Obj.red.redFlags : Nat := obj 0x10 0 0x01
abbrev Obj.red.redCmd : Nat := obj 0x10 0 0x02
abbrev Obj.red.cmdStatus : Nat := obj 0x10 0 0x03
abbrev Obj.red.healthWord : Nat := obj 0x10 0 0x04
abbrev Obj.red.partnerWord : Nat := obj 0x10 0 0x05
abbrev Obj.red.partnerFw : Nat := obj 0x10 0 0x06
abbrev Obj.red.partnerRev : Nat := obj 0x10 0 0x07
abbrev Obj.red.compat : Nat := obj 0x10 0 0x08
abbrev Obj.red.hbAge : Nat := obj 0x10 0 0x09
abbrev Obj.red.transfer : Nat := obj 0x10 0 0x0A
abbrev Obj.red.switchovers : Nat := obj 0x10 0 0x0B
abbrev Obj.red.takeovers : Nat := obj 0x10 0 0x0C
abbrev Obj.red.detachedCycles : Nat := obj 0x10 0 0x0D
abbrev Obj.red.pathFaults : Nat := obj 0x10 0 0x0E
abbrev Obj.red.rejoins : Nat := obj 0x10 0 0x0F
abbrev Obj.red.unreplicated : Nat := obj 0x10 0 0x10
abbrev Obj.red.ownTime : Nat := obj 0x10 0 0x11

/-! Space 0x10, hier: R515 -/
abbrev Obj.hier.hierStatus : Nat := obj 0x10 1 0x00
abbrev Obj.hier.hierFlags : Nat := obj 0x10 1 0x01
abbrev Obj.hier.dispSeq : Nat := obj 0x10 1 0x02
abbrev Obj.hier.dispAge : Nat := obj 0x10 1 0x03
abbrev Obj.hier.dispatches : Nat := obj 0x10 1 0x04
abbrev Obj.hier.dispDefaults : Nat := obj 0x10 1 0x05
abbrev Obj.hier.dispIn : Nat := obj 0x10 1 0x10

/-! Space 0x10, wk: R515 -/
abbrev Obj.wk.wkStatus (i : Nat) : Nat := obj 0x10 (64 + i) 0x00
abbrev Obj.wk.wkSent (i : Nat) : Nat := obj 0x10 (64 + i) 0x01
abbrev Obj.wk.wkPollFails (i : Nat) : Nat := obj 0x10 (64 + i) 0x02
abbrev Obj.wk.wkDispOut (i : Nat) : Nat := obj 0x10 (64 + i) 0x10

/-! Space 0x11, net: R549 -/
abbrev Obj.net.netStatus : Nat := obj 0x11 0 0x00
abbrev Obj.net.netFlags : Nat := obj 0x11 0 0x01
abbrev Obj.net.netCmd : Nat := obj 0x11 0 0x02
abbrev Obj.net.cmdStatus : Nat := obj 0x11 0 0x03
abbrev Obj.net.netCfg : Nat := obj 0x11 0 0x04
abbrev Obj.net.identityMac : Nat := obj 0x11 0 0x05
abbrev Obj.net.pubMac : Nat := obj 0x11 0 0x07
abbrev Obj.net.unitMac : Nat := obj 0x11 0 0x09
abbrev Obj.net.requests : Nat := obj 0x11 0 0x0B
abbrev Obj.net.duplicates : Nat := obj 0x11 0 0x0C
abbrev Obj.net.discards : Nat := obj 0x11 0 0x0D
abbrev Obj.net.lateCompletions : Nat := obj 0x11 0 0x0E
abbrev Obj.net.cache : Nat := obj 0x11 0 0x0F
abbrev Obj.net.published : Nat := obj 0x11 0 0x10
abbrev Obj.net.modbusReqs : Nat := obj 0x11 0 0x11

/-! Space 0x11, vit: R549 -/
abbrev Obj.vit.vitStatus : Nat := obj 0x11 1 0x00
abbrev Obj.vit.vitFlags : Nat := obj 0x11 1 0x01
abbrev Obj.vit.classUse : Nat := obj 0x11 1 0x02
abbrev Obj.vit.classWaitMax : Nat := obj 0x11 1 0x06
abbrev Obj.vit.hits : Nat := obj 0x11 1 0x0A
abbrev Obj.vit.misses : Nat := obj 0x11 1 0x0B
abbrev Obj.vit.ops : Nat := obj 0x11 1 0x0C
abbrev Obj.vit.floorsA : Nat := obj 0x11 1 0x0D
abbrev Obj.vit.floorsB : Nat := obj 0x11 1 0x0E

/-! Space 0x11, nport: R550 -/
abbrev Obj.nport.nportStatus (i : Nat) : Nat := obj 0x11 (16 + i) 0x00
abbrev Obj.nport.rxFrames (i : Nat) : Nat := obj 0x11 (16 + i) 0x01
abbrev Obj.nport.txFrames (i : Nat) : Nat := obj 0x11 (16 + i) 0x02
abbrev Obj.nport.rxErrors (i : Nat) : Nat := obj 0x11 (16 + i) 0x03
abbrev Obj.nport.prpDiscards (i : Nat) : Nat := obj 0x11 (16 + i) 0x04
abbrev Obj.nport.prpWrongLan (i : Nat) : Nat := obj 0x11 (16 + i) 0x05
abbrev Obj.nport.linkDowns (i : Nat) : Nat := obj 0x11 (16 + i) 0x06

/-! Space 0x11, sess: R550 -/
abbrev Obj.sess.sessStatus (i : Nat) : Nat := obj 0x11 (64 + i) 0x00
abbrev Obj.sess.sessClient (i : Nat) : Nat := obj 0x11 (64 + i) 0x01
abbrev Obj.sess.sessPeer (i : Nat) : Nat := obj 0x11 (64 + i) 0x03
abbrev Obj.sess.sessRequests (i : Nat) : Nat := obj 0x11 (64 + i) 0x07
abbrev Obj.sess.sessOpened (i : Nat) : Nat := obj 0x11 (64 + i) 0x08

/-! Space 0x12, rcd: R579 -/
abbrev Obj.rcd.recStatus : Nat := obj 0x12 0 0x00
abbrev Obj.rcd.recFlags : Nat := obj 0x12 0 0x01
abbrev Obj.rcd.recCmd : Nat := obj 0x12 0 0x02
abbrev Obj.rcd.cmdStatus : Nat := obj 0x12 0 0x03
abbrev Obj.rcd.recRing : Nat := obj 0x12 0 0x04
abbrev Obj.rcd.oldestRn : Nat := obj 0x12 0 0x05
abbrev Obj.rcd.newestRn : Nat := obj 0x12 0 0x07
abbrev Obj.rcd.flushedRn : Nat := obj 0x12 0 0x09
abbrev Obj.rcd.seqFloor : Nat := obj 0x12 0 0x0B
abbrev Obj.rcd.appended : Nat := obj 0x12 0 0x0C
abbrev Obj.rcd.merged : Nat := obj 0x12 0 0x0D
abbrev Obj.rcd.lost : Nat := obj 0x12 0 0x0E
abbrev Obj.rcd.flushes : Nat := obj 0x12 0 0x0F
abbrev Obj.rcd.storeBlocks : Nat := obj 0x12 0 0x10
abbrev Obj.rcd.rdRn : Nat := obj 0x12 0 0x11
abbrev Obj.rcd.rdInfo : Nat := obj 0x12 0 0x13
abbrev Obj.rcd.rdRecord : Nat := obj 0x12 0 0x14

/-! Space 0x13, arc: R580 -/
abbrev Obj.arc.arcStatus : Nat := obj 0x13 0 0x00
abbrev Obj.arc.arcFlags : Nat := obj 0x13 0 0x01
abbrev Obj.arc.arcCmd : Nat := obj 0x13 0 0x02
abbrev Obj.arc.cmdStatus : Nat := obj 0x13 0 0x03
abbrev Obj.arc.qNsid : Nat := obj 0x13 0 0x04
abbrev Obj.arc.qSelect : Nat := obj 0x13 0 0x05
abbrev Obj.arc.qFrom : Nat := obj 0x13 0 0x06
abbrev Obj.arc.qTo : Nat := obj 0x13 0 0x08
abbrev Obj.arc.qRing : Nat := obj 0x13 0 0x0A
abbrev Obj.arc.qStatus : Nat := obj 0x13 0 0x0B
abbrev Obj.arc.qEntries : Nat := obj 0x13 0 0x0C

/-! Space 0x13, st: R580 -/
abbrev Obj.st.stStatus (i : Nat) : Nat := obj 0x13 (16 + i) 0x00
abbrev Obj.st.stCmd (i : Nat) : Nat := obj 0x13 (16 + i) 0x01
abbrev Obj.st.cmdStatus (i : Nat) : Nat := obj 0x13 (16 + i) 0x02
abbrev Obj.st.capacity (i : Nat) : Nat := obj 0x13 (16 + i) 0x03
abbrev Obj.st.score (i : Nat) : Nat := obj 0x13 (16 + i) 0x04
abbrev Obj.st.stErrors (i : Nat) : Nat := obj 0x13 (16 + i) 0x05

/-! Space 0x13, ns: R580 -/
abbrev Obj.ns.nsStatus (i : Nat) : Nat := obj 0x13 (64 + i) 0x00
abbrev Obj.ns.nsSize (i : Nat) : Nat := obj 0x13 (64 + i) 0x01
abbrev Obj.ns.nsGb (i : Nat) : Nat := obj 0x13 (64 + i) 0x02
abbrev Obj.ns.nsOldest (i : Nat) : Nat := obj 0x13 (64 + i) 0x03
abbrev Obj.ns.nsNewest (i : Nat) : Nat := obj 0x13 (64 + i) 0x05
abbrev Obj.ns.nsSegments (i : Nat) : Nat := obj 0x13 (64 + i) 0x07
abbrev Obj.ns.crcSkips (i : Nat) : Nat := obj 0x13 (64 + i) 0x08
abbrev Obj.ns.resilver (i : Nat) : Nat := obj 0x13 (64 + i) 0x09

/-! Space 0x14, sec: R610 -/
abbrev Obj.sec.secStatus : Nat := obj 0x14 0 0x00
abbrev Obj.sec.secFlags : Nat := obj 0x14 0 0x01
abbrev Obj.sec.secCmd : Nat := obj 0x14 0 0x02
abbrev Obj.sec.cmdStatus : Nat := obj 0x14 0 0x03
abbrev Obj.sec.logCount : Nat := obj 0x14 0 0x04
abbrev Obj.sec.logIndex : Nat := obj 0x14 0 0x05
abbrev Obj.sec.logEntry : Nat := obj 0x14 0 0x06
abbrev Obj.sec.quoteNonce : Nat := obj 0x14 0 0x15
abbrev Obj.sec.quote : Nat := obj 0x14 0 0x21
abbrev Obj.sec.quotes : Nat := obj 0x14 0 0x60
abbrev Obj.sec.cryptoRejects : Nat := obj 0x14 0 0x61
abbrev Obj.sec.certRejects : Nat := obj 0x14 0 0x62

/-! Space 0x14, cert: R612 -/
abbrev Obj.cert.certSelect : Nat := obj 0x14 1 0x00
abbrev Obj.cert.certOffset : Nat := obj 0x14 1 0x01
abbrev Obj.cert.certSize : Nat := obj 0x14 1 0x02
abbrev Obj.cert.certData : Nat := obj 0x14 1 0x40

/-! Space 0x14, mr: R612 -/
abbrev Obj.mr.mr0 : Nat := obj 0x14 2 0x00
abbrev Obj.mr.mr1 : Nat := obj 0x14 2 0x0C

/-! Space 0x14, key: R613 -/
abbrev Obj.key.keyStatus (i : Nat) : Nat := obj 0x14 (16 + i) 0x00
abbrev Obj.key.keyCmd (i : Nat) : Nat := obj 0x14 (16 + i) 0x01
abbrev Obj.key.cmdStatus (i : Nat) : Nat := obj 0x14 (16 + i) 0x02
abbrev Obj.key.keyUses (i : Nat) : Nat := obj 0x14 (16 + i) 0x03
abbrev Obj.key.keyId (i : Nat) : Nat := obj 0x14 (16 + i) 0x04
abbrev Obj.key.gcmCount (i : Nat) : Nat := obj 0x14 (16 + i) 0x06
abbrev Obj.key.public (i : Nat) : Nat := obj 0x14 (16 + i) 0x08
abbrev Obj.key.keyData (i : Nat) : Nat := obj 0x14 (16 + i) 0x20

/-! Space 0x15, upd: R615 -/
abbrev Obj.upd.updStatus : Nat := obj 0x15 0 0x00
abbrev Obj.upd.updFlags : Nat := obj 0x15 0 0x01
abbrev Obj.upd.updCmd : Nat := obj 0x15 0 0x02
abbrev Obj.upd.cmdStatus : Nat := obj 0x15 0 0x03
abbrev Obj.upd.activations : Nat := obj 0x15 0 0x04
abbrev Obj.upd.fallbacks : Nat := obj 0x15 0 0x05
abbrev Obj.upd.trialLeft : Nat := obj 0x15 0 0x06

/-! Space 0x15, fw: R615 -/
abbrev Obj.fw.slotStatus (i : Nat) : Nat := obj 0x15 (1 + i) 0x00
abbrev Obj.fw.fwVersion (i : Nat) : Nat := obj 0x15 (1 + i) 0x01
abbrev Obj.fw.svn (i : Nat) : Nat := obj 0x15 (1 + i) 0x02
abbrev Obj.fw.length (i : Nat) : Nat := obj 0x15 (1 + i) 0x03
abbrev Obj.fw.buildTime (i : Nat) : Nat := obj 0x15 (1 + i) 0x04
abbrev Obj.fw.pages (i : Nat) : Nat := obj 0x15 (1 + i) 0x06
abbrev Obj.fw.keyId (i : Nat) : Nat := obj 0x15 (1 + i) 0x07
abbrev Obj.fw.digest (i : Nat) : Nat := obj 0x15 (1 + i) 0x09

/-! Space 0x16, pwr: R647 -/
abbrev Obj.pwr.pwrStatus : Nat := obj 0x16 0 0x00
abbrev Obj.pwr.pwrFlags : Nat := obj 0x16 0 0x01
abbrev Obj.pwr.pwrCmd : Nat := obj 0x16 0 0x02
abbrev Obj.pwr.cmdStatus : Nat := obj 0x16 0 0x03
abbrev Obj.pwr.vinA : Nat := obj 0x16 0 0x04
abbrev Obj.pwr.vinB : Nat := obj 0x16 0 0x05
abbrev Obj.pwr.power : Nat := obj 0x16 0 0x06
abbrev Obj.pwr.holdup : Nat := obj 0x16 0 0x07
abbrev Obj.pwr.holdupCap : Nat := obj 0x16 0 0x08
abbrev Obj.pwr.clkStatus : Nat := obj 0x16 0 0x09
abbrev Obj.pwr.xingFlags : Nat := obj 0x16 0 0x0A
abbrev Obj.pwr.xingOverruns : Nat := obj 0x16 0 0x0B
abbrev Obj.pwr.brownouts : Nat := obj 0x16 0 0x0C
abbrev Obj.pwr.inputLosses : Nat := obj 0x16 0 0x0D

/-! Space 0x16, sens: R647 -/
abbrev Obj.sens.sensValue (i : Nat) : Nat := obj 0x16 (16 + i) 0x00
abbrev Obj.sens.sensStatus (i : Nat) : Nat := obj 0x16 (16 + i) 0x01
abbrev Obj.sens.sensLimits (i : Nat) : Nat := obj 0x16 (16 + i) 0x02
abbrev Obj.sens.sensPeak (i : Nat) : Nat := obj 0x16 (16 + i) 0x03

/-- The object table of each kind of instance. -/
def objTable : ObjKind → List ObjDef
  | .mod =>
    [⟨0x00, 0x00, .ro, 0x47500101, false⟩, ⟨0x01, 0x01, .ro, 0x0, false⟩, ⟨0x02, 0x05, .ro, 0x0, false⟩,
     ⟨0x06, 0x06, .ro, 0x100, false⟩, ⟨0x07, 0x07, .wo, 0x0, false⟩, ⟨0x08, 0x08, .ro, 0x0, false⟩,
     ⟨0x09, 0x09, .ro, 0xFF00, false⟩, ⟨0x0A, 0x0A, .w1c, 0x0, false⟩, ⟨0x0B, 0x0B, .ro, 0x0, true⟩,
     ⟨0x0C, 0x0C, .ro, 0x0, true⟩, ⟨0x0D, 0x0E, .ro, 0x0, false⟩, ⟨0x0F, 0x0F, .ro, 0x0, false⟩]
  | .slot =>
    [⟨0x00, 0x00, .ro, 0x0, true⟩, ⟨0x01, 0x01, .ro, 0x0, true⟩, ⟨0x02, 0x02, .ro, 0x0, true⟩,
     ⟨0x03, 0x04, .ro, 0x0, true⟩, ⟨0x05, 0x05, .ro, 0x0, true⟩, ⟨0x06, 0x06, .ro, 0x0, true⟩,
     ⟨0x07, 0x08, .ro, 0x0, true⟩, ⟨0x09, 0x09, .ro, 0x0, true⟩, ⟨0x0A, 0x0A, .ro, 0x0, true⟩,
     ⟨0x0B, 0x0B, .ro, 0x0, true⟩, ⟨0x0C, 0x17, .ro, 0x0, true⟩, ⟨0x18, 0x23, .ro, 0x0, true⟩]
  | .cat =>
    [⟨0x00, 0x00, .wo, 0x0, false⟩, ⟨0x01, 0x01, .ro, 0x0, false⟩, ⟨0x02, 0x02, .ro, 0x0, true⟩,
     ⟨0x03, 0x03, .ro, 0x0, false⟩]
  | .time =>
    [⟨0x00, 0x01, .ro, 0x0, false⟩, ⟨0x02, 0x02, .ro, 0x0, false⟩, ⟨0x03, 0x03, .ro, 0x0, false⟩,
     ⟨0x04, 0x04, .w1c, 0x0, false⟩, ⟨0x05, 0x05, .wo, 0x0, false⟩, ⟨0x06, 0x06, .ro, 0x0, false⟩,
     ⟨0x07, 0x07, .rwl, 0x3C073C00, true⟩, ⟨0x08, 0x08, .ro, 0x80000000, false⟩, ⟨0x09, 0x09, .ro, 0x80000000, false⟩,
     ⟨0x0A, 0x0B, .ro, 0x0, false⟩, ⟨0x0C, 0x0C, .ro, 0x0, false⟩, ⟨0x0D, 0x0D, .ro, 0x0, false⟩,
     ⟨0x0E, 0x0E, .ro, 0x25, false⟩]
  | .dom =>
    [⟨0x00, 0x00, .ro, 0xF0FFF00, false⟩, ⟨0x01, 0x02, .ro, 0x0, false⟩, ⟨0x03, 0x03, .ro, 0x0, false⟩,
     ⟨0x04, 0x04, .ro, 0x0, false⟩, ⟨0x05, 0x05, .ro, 0x0, false⟩]
  | .cal =>
    [⟨0x00, 0x00, .ro, 0x1, false⟩, ⟨0x01, 0x01, .ro, 0x80000000, false⟩, ⟨0x02, 0x02, .ro, 0x0, false⟩,
     ⟨0x03, 0x04, .ro, 0x0, false⟩, ⟨0x05, 0x05, .ro, 0x0, false⟩]
  | .port =>
    [⟨0x00, 0x00, .ro, 0x0, false⟩, ⟨0x01, 0x01, .w1c, 0x0, false⟩, ⟨0x02, 0x02, .wo, 0x0, false⟩,
     ⟨0x03, 0x03, .ro, 0x0, false⟩, ⟨0x04, 0x04, .ro, 0x0, false⟩, ⟨0x05, 0x05, .ro, 0x0, false⟩,
     ⟨0x06, 0x06, .ro, 0x0, false⟩, ⟨0x07, 0x07, .ro, 0x0, false⟩, ⟨0x08, 0x08, .ro, 0x80008000, false⟩,
     ⟨0x09, 0x09, .ro, 0x0, false⟩, ⟨0x0A, 0x0A, .ro, 0x0, false⟩, ⟨0x0B, 0x0B, .ro, 0x0, false⟩,
     ⟨0x0C, 0x0C, .ro, 0x0, false⟩, ⟨0x0D, 0x0D, .ro, 0x0, false⟩, ⟨0x0E, 0x0E, .ro, 0x0, false⟩,
     ⟨0x0F, 0x0F, .ro, 0x0, false⟩, ⟨0x10, 0x11, .ro, 0x0, false⟩]
  | .node =>
    [⟨0x00, 0x00, .ro, 0x0, false⟩, ⟨0x01, 0x01, .w1c, 0x0, false⟩, ⟨0x02, 0x02, .wo, 0x0, false⟩,
     ⟨0x03, 0x03, .ro, 0x0, false⟩, ⟨0x04, 0x05, .ro, 0x0, false⟩, ⟨0x06, 0x06, .ro, 0x0, false⟩,
     ⟨0x07, 0x07, .ro, 0x0, false⟩, ⟨0x08, 0x08, .ro, 0x0, false⟩, ⟨0x09, 0x09, .ro, 0x0, false⟩,
     ⟨0x0A, 0x0A, .ro, 0x0, false⟩, ⟨0x0B, 0x0B, .ro, 0x0, false⟩, ⟨0x0C, 0x0C, .ro, 0x0, false⟩,
     ⟨0x0D, 0x0D, .ro, 0x0, false⟩, ⟨0x0E, 0x0E, .ro, 0x0, false⟩, ⟨0x0F, 0x0F, .ro, 0x0, false⟩,
     ⟨0x10, 0x11, .ro, 0x0, false⟩]
  | .str =>
    [⟨0x00, 0x00, .ro, 0x0, false⟩, ⟨0x01, 0x01, .w1c, 0x0, false⟩, ⟨0x02, 0x02, .rwl, 0xA325A80, true⟩,
     ⟨0x03, 0x03, .rwl, 0x3200000, true⟩, ⟨0x04, 0x04, .wo, 0x0, false⟩, ⟨0x05, 0x05, .ro, 0x0, false⟩,
     ⟨0x06, 0x07, .ro, 0x0, false⟩, ⟨0x08, 0x13, .ro, 0x0, false⟩, ⟨0x14, 0x14, .ro, 0x0, false⟩,
     ⟨0x20, 0x2B, .ro, 0x0, false⟩, ⟨0x30, 0x30, .ro, 0x0, false⟩, ⟨0x31, 0x31, .ro, 0x0, false⟩,
     ⟨0x32, 0x32, .ro, 0x0, false⟩, ⟨0x33, 0x33, .ro, 0x0, false⟩, ⟨0x34, 0x34, .ro, 0x0, false⟩,
     ⟨0x35, 0x35, .ro, 0x0, false⟩, ⟨0x36, 0x36, .ro, 0x0, false⟩, ⟨0x37, 0x37, .ro, 0x0, false⟩,
     ⟨0x38, 0x38, .ro, 0x0, false⟩, ⟨0x39, 0x39, .ro, 0x0, false⟩, ⟨0x3A, 0x3A, .ro, 0x0, false⟩,
     ⟨0x3B, 0x3B, .ro, 0x0, false⟩, ⟨0x40, 0x40, .ro, 0x0, false⟩, ⟨0x41, 0x41, .rwl, 0x320A0A04, true⟩,
     ⟨0x42, 0x42, .ro, 0x0, false⟩, ⟨0x43, 0x43, .ro, 0x0, false⟩, ⟨0x44, 0x44, .ro, 0x0, false⟩,
     ⟨0x45, 0x45, .ro, 0x0, false⟩, ⟨0x46, 0x46, .ro, 0x0, false⟩, ⟨0x47, 0x47, .ro, 0x0, false⟩,
     ⟨0x48, 0x48, .ro, 0x0, false⟩, ⟨0x49, 0x49, .ro, 0x0, false⟩, ⟨0x4A, 0x4A, .ro, 0x0, false⟩,
     ⟨0x4B, 0x4B, .ro, 0x0, false⟩, ⟨0x4C, 0x4C, .ro, 0xFFFFFFFF, false⟩, ⟨0x4D, 0x4D, .ro, 0x0, false⟩,
     ⟨0x4E, 0x4E, .ro, 0x0, false⟩, ⟨0x4F, 0x4F, .ro, 0x0, false⟩]
  | .cell =>
    [⟨0x00, 0x00, .ro, 0x0, false⟩, ⟨0x01, 0x01, .w1c, 0x0, false⟩, ⟨0x02, 0x02, .wo, 0x0, false⟩,
     ⟨0x03, 0x03, .ro, 0x0, false⟩, ⟨0x04, 0x04, .ro, 0x7FFF0000, false⟩, ⟨0x05, 0x05, .ro, 0x0, false⟩,
     ⟨0x06, 0x06, .ro, 0x0, false⟩, ⟨0x07, 0x07, .ro, 0x0, false⟩, ⟨0x08, 0x08, .ro, 0x0, false⟩,
     ⟨0x09, 0x09, .ro, 0x0, false⟩, ⟨0x0A, 0x0A, .ro, 0x0, false⟩, ⟨0x0B, 0x0B, .ro, 0x0, false⟩,
     ⟨0x0C, 0x0C, .ro, 0x0, false⟩, ⟨0x0D, 0x0D, .ro, 0x0, true⟩, ⟨0x0E, 0x0E, .ro, 0x10001000, true⟩,
     ⟨0x0F, 0x0F, .ro, 0x0, false⟩, ⟨0x10, 0x10, .ro, 0x0, false⟩, ⟨0x11, 0x11, .ro, 0x0, false⟩,
     ⟨0x12, 0x12, .ro, 0x0, false⟩, ⟨0x13, 0x13, .ro, 0x0, false⟩, ⟨0x20, 0x20, .wo, 0x0, false⟩,
     ⟨0x21, 0x21, .ro, 0x0, false⟩, ⟨0x22, 0x22, .ro, 0x0, false⟩, ⟨0x23, 0x23, .ro, 0x0, false⟩,
     ⟨0x24, 0x24, .ro, 0x0, false⟩, ⟨0x25, 0x25, .ro, 0x0, false⟩, ⟨0x26, 0x26, .ro, 0x0, false⟩,
     ⟨0x27, 0x27, .ro, 0xFFFF0000, false⟩, ⟨0x28, 0x28, .ro, 0x0, false⟩, ⟨0x29, 0x29, .ro, 0x0, false⟩,
     ⟨0x2A, 0x2A, .ro, 0x2710, false⟩, ⟨0x2B, 0x2B, .w1c, 0x0, false⟩, ⟨0x30, 0x30, .ro, 0x0, false⟩]
  | .imp =>
    [⟨0x00, 0x00, .ro, 0xFFFF, false⟩, ⟨0x01, 0x02, .ro, 0x0, false⟩, ⟨0x03, 0x03, .ro, 0x0, false⟩,
     ⟨0x04, 0x04, .ro, 0x0, false⟩, ⟨0x05, 0x05, .ro, 0x0, false⟩, ⟨0x06, 0x06, .rwl, 0xA021414, true⟩,
     ⟨0x07, 0x07, .rwl, 0xA081E01, true⟩, ⟨0x08, 0x08, .rwl, 0x3C1E0F23, true⟩, ⟨0x09, 0x09, .rwl, 0x32050A40, true⟩,
     ⟨0x0A, 0x0A, .rwl, 0x50143032, true⟩, ⟨0x0B, 0x0B, .ro, 0x0, false⟩, ⟨0x0C, 0x0C, .ro, 0x0, false⟩,
     ⟨0x0D, 0x0D, .ro, 0x0, false⟩, ⟨0x0E, 0x0E, .ro, 0x0, false⟩, ⟨0x0F, 0x0F, .ro, 0x0, false⟩,
     ⟨0x10, 0x10, .ro, 0x0, false⟩, ⟨0x11, 0x11, .ro, 0x0, false⟩, ⟨0x12, 0x12, .ro, 0x0, false⟩,
     ⟨0x13, 0x13, .wo, 0x0, false⟩, ⟨0x14, 0x14, .ro, 0x0, false⟩]
  | .impS =>
    [⟨0x00, 0x00, .ro, 0x0, false⟩, ⟨0x01, 0x01, .w1c, 0x0, false⟩, ⟨0x02, 0x02, .ro, 0x0, false⟩,
     ⟨0x03, 0x03, .ro, 0x0, false⟩, ⟨0x04, 0x04, .ro, 0x0, false⟩, ⟨0x05, 0x05, .ro, 0x0, false⟩,
     ⟨0x06, 0x06, .ro, 0x0, false⟩, ⟨0x07, 0x07, .ro, 0x0, false⟩, ⟨0x08, 0x08, .ro, 0x0, false⟩,
     ⟨0x09, 0x09, .ro, 0x0, false⟩, ⟨0x0A, 0x0A, .ro, 0x0, false⟩]
  | .bal =>
    [⟨0x00, 0x00, .ro, 0x0, false⟩, ⟨0x01, 0x01, .w1c, 0x0, false⟩, ⟨0x02, 0x02, .rwl, 0x32141E50, true⟩,
     ⟨0x03, 0x03, .rwl, 0x14A0F57, true⟩, ⟨0x04, 0x04, .wo, 0x0, false⟩, ⟨0x05, 0x05, .ro, 0x0, false⟩,
     ⟨0x06, 0x06, .ro, 0xFFFF, false⟩, ⟨0x07, 0x07, .ro, 0x0, false⟩, ⟨0x08, 0x08, .ro, 0x0, false⟩,
     ⟨0x09, 0x09, .ro, 0x0, false⟩, ⟨0x0A, 0x0A, .ro, 0x0, false⟩, ⟨0x10, 0x1F, .ro, 0x0, false⟩,
     ⟨0x20, 0x2F, .ro, 0x0, false⟩]
  | .mthm =>
    [⟨0x00, 0x00, .ro, 0x0, false⟩, ⟨0x01, 0x01, .w1c, 0x0, false⟩, ⟨0x02, 0x02, .ro, 0x0, false⟩,
     ⟨0x03, 0x03, .ro, 0x0, false⟩]
  | .thm =>
    [⟨0x00, 0x00, .ro, 0x0, false⟩, ⟨0x01, 0x01, .w1c, 0x0, false⟩, ⟨0x02, 0x02, .rwl, 0x5143200, true⟩,
     ⟨0x03, 0x03, .wo, 0x0, false⟩, ⟨0x04, 0x04, .ro, 0x0, false⟩, ⟨0x05, 0x05, .ro, 0x7FFF0000, false⟩,
     ⟨0x06, 0x06, .ro, 0x0, false⟩, ⟨0x07, 0x07, .ro, 0x0, false⟩, ⟨0x08, 0x08, .ro, 0xFFFFFFFF, false⟩,
     ⟨0x09, 0x09, .ro, 0xFFFFFFFF, false⟩, ⟨0x0A, 0x0A, .ro, 0x0, false⟩, ⟨0x0B, 0x0B, .ro, 0x0, false⟩,
     ⟨0x0C, 0x0C, .ro, 0x0, false⟩, ⟨0x0D, 0x0D, .ro, 0x0, false⟩, ⟨0x0E, 0x0E, .ro, 0x0, false⟩]
  | .prot =>
    [⟨0x00, 0x00, .ro, 0x0, false⟩, ⟨0x01, 0x01, .w1c, 0x0, false⟩, ⟨0x02, 0x02, .ro, 0x0, true⟩,
     ⟨0x03, 0x03, .rwl, 0x14200A32, true⟩, ⟨0x04, 0x04, .wo, 0x0, false⟩, ⟨0x05, 0x05, .ro, 0x0, false⟩,
     ⟨0x06, 0x06, .ro, 0x0, false⟩, ⟨0x07, 0x07, .ro, 0x0, false⟩]
  | .pstr =>
    [⟨0x00, 0x00, .ro, 0x0, true⟩, ⟨0x01, 0x01, .w1c, 0x0, false⟩, ⟨0x02, 0x02, .rw, 0x0, true⟩,
     ⟨0x03, 0x03, .wo, 0x0, false⟩, ⟨0x04, 0x04, .ro, 0x0, false⟩, ⟨0x05, 0x05, .ro, 0x0, true⟩,
     ⟨0x06, 0x06, .ro, 0x0, true⟩, ⟨0x07, 0x07, .ro, 0x0, true⟩, ⟨0x08, 0x08, .ro, 0x0, false⟩,
     ⟨0x09, 0x09, .ro, 0x0, false⟩, ⟨0x0A, 0x0A, .ro, 0x0, false⟩]
  | .safe =>
    [⟨0x00, 0x00, .ro, 0x0, false⟩, ⟨0x01, 0x01, .w1c, 0x0, false⟩, ⟨0x02, 0x02, .wo, 0x0, false⟩,
     ⟨0x03, 0x03, .ro, 0x0, false⟩, ⟨0x04, 0x04, .ro, 0xFF, false⟩, ⟨0x05, 0x05, .ro, 0x0, false⟩,
     ⟨0x06, 0x06, .rwp, 0xA, true⟩, ⟨0x07, 0x07, .ro, 0x0, true⟩, ⟨0x08, 0x08, .ro, 0x0, true⟩,
     ⟨0x09, 0x09, .ro, 0x0, false⟩, ⟨0x0A, 0x0A, .ro, 0x0, true⟩, ⟨0x0B, 0x0B, .ro, 0x0, false⟩,
     ⟨0x0C, 0x0F, .ro, 0x0, true⟩, ⟨0x10, 0x1B, .ro, 0x0, false⟩, ⟨0x1C, 0x1C, .ro, 0x0, true⟩,
     ⟨0x1D, 0x1D, .ro, 0x0, true⟩, ⟨0x1E, 0x1E, .rw, 0x0, false⟩, ⟨0x1F, 0x1F, .rwp, 0x0, true⟩,
     ⟨0x20, 0x27, .ro, 0x0, false⟩, ⟨0x28, 0x28, .wo, 0x0, false⟩, ⟨0x29, 0x34, .wo, 0x0, false⟩,
     ⟨0x35, 0x4C, .wo, 0x0, false⟩, ⟨0x4D, 0x58, .wo, 0x0, false⟩, ⟨0x59, 0x59, .ro, 0x0, false⟩,
     ⟨0x5A, 0x5A, .ro, 0x0, false⟩]
  | .si =>
    [⟨0x00, 0x00, .ro, 0x0, false⟩, ⟨0x01, 0x01, .w1c, 0x0, false⟩, ⟨0x02, 0x02, .ro, 0x0, false⟩,
     ⟨0x03, 0x03, .ro, 0x0, false⟩]
  | .sq =>
    [⟨0x00, 0x00, .ro, 0x0, true⟩, ⟨0x01, 0x01, .w1c, 0x0, false⟩, ⟨0x02, 0x02, .wo, 0x0, false⟩,
     ⟨0x03, 0x03, .ro, 0x0, false⟩, ⟨0x04, 0x04, .ro, 0x0, false⟩]
  | .func =>
    [⟨0x00, 0x00, .ro, 0x0, true⟩, ⟨0x01, 0x01, .w1c, 0x0, false⟩, ⟨0x02, 0x02, .ro, 0x0, true⟩,
     ⟨0x03, 0x03, .ro, 0x0, true⟩, ⟨0x04, 0x04, .ro, 0x0, false⟩, ⟨0x05, 0x05, .ro, 0x0, false⟩,
     ⟨0x06, 0x06, .ro, 0x0, false⟩, ⟨0x07, 0x08, .ro, 0x0, true⟩]
  | .sched =>
    [⟨0x00, 0x00, .ro, 0x3, false⟩, ⟨0x01, 0x01, .w1c, 0x0, false⟩, ⟨0x02, 0x02, .wo, 0x0, false⟩,
     ⟨0x03, 0x03, .ro, 0x0, false⟩, ⟨0x04, 0x05, .ro, 0x0, true⟩, ⟨0x06, 0x06, .ro, 0x0, false⟩,
     ⟨0x07, 0x07, .ro, 0x0, false⟩, ⟨0x08, 0x08, .ro, 0x0, false⟩, ⟨0x09, 0x09, .ro, 0x0, false⟩,
     ⟨0x0A, 0x0A, .ro, 0x0, false⟩, ⟨0x0B, 0x0B, .rw, 0x0, false⟩, ⟨0x0C, 0x0C, .rw, 0x0, false⟩,
     ⟨0x0D, 0x0D, .ro, 0x0, false⟩, ⟨0x0E, 0x0E, .ro, 0x0, false⟩, ⟨0x10, 0x1B, .ro, 0x0, false⟩,
     ⟨0x40, 0x7F, .rw, 0x0, false⟩]
  | .task =>
    [⟨0x00, 0x00, .ro, 0x0, false⟩, ⟨0x01, 0x01, .w1c, 0x0, false⟩, ⟨0x02, 0x02, .wo, 0x0, false⟩,
     ⟨0x03, 0x03, .ro, 0x0, false⟩, ⟨0x04, 0x04, .ro, 0x0, false⟩, ⟨0x05, 0x05, .ro, 0x0, false⟩,
     ⟨0x06, 0x06, .ro, 0x0, false⟩, ⟨0x07, 0x07, .ro, 0x0, false⟩, ⟨0x08, 0x08, .ro, 0x0, false⟩,
     ⟨0x09, 0x09, .ro, 0x0, false⟩, ⟨0x0A, 0x0A, .ro, 0x0, false⟩, ⟨0x0B, 0x0B, .ro, 0x0, false⟩,
     ⟨0x0C, 0x0C, .ro, 0x0, false⟩, ⟨0x0D, 0x0D, .ro, 0x0, false⟩, ⟨0x0E, 0x0E, .ro, 0x0, false⟩,
     ⟨0x0F, 0x0F, .ro, 0x0, false⟩, ⟨0x10, 0x11, .ro, 0x0, false⟩, ⟨0x12, 0x12, .ro, 0x0, false⟩]
  | .core =>
    [⟨0x00, 0x00, .ro, 0x0, false⟩, ⟨0x01, 0x01, .ro, 0x0, false⟩]
  | .eng =>
    [⟨0x00, 0x00, .ro, 0x0, false⟩, ⟨0x01, 0x01, .w1c, 0x0, false⟩, ⟨0x02, 0x02, .wo, 0x0, false⟩,
     ⟨0x03, 0x03, .ro, 0x0, false⟩, ⟨0x04, 0x04, .ro, 0x0, false⟩, ⟨0x05, 0x05, .ro, 0x0, false⟩]
  | .loop =>
    [⟨0x00, 0x00, .ro, 0x0, true⟩, ⟨0x01, 0x01, .w1c, 0x0, false⟩, ⟨0x02, 0x02, .wo, 0x0, false⟩,
     ⟨0x03, 0x03, .ro, 0x0, false⟩, ⟨0x04, 0x04, .rw, 0x0, true⟩, ⟨0x05, 0x05, .ro, 0x0, false⟩,
     ⟨0x06, 0x06, .ro, 0x0, false⟩, ⟨0x07, 0x07, .ro, 0x0, false⟩, ⟨0x08, 0x08, .rw, 0x0, true⟩,
     ⟨0x09, 0x09, .rw, 0x0, true⟩, ⟨0x0A, 0x0A, .rw, 0x0, true⟩, ⟨0x0B, 0x0B, .rw, 0x0, true⟩,
     ⟨0x0C, 0x0C, .rw, 0x0, true⟩, ⟨0x0D, 0x0D, .ro, 0x0, false⟩, ⟨0x0E, 0x10, .ro, 0x0, false⟩,
     ⟨0x11, 0x11, .ro, 0x0, false⟩, ⟨0x12, 0x12, .ro, 0x0, false⟩, ⟨0x13, 0x13, .rw, 0x0, true⟩,
     ⟨0x14, 0x14, .rw, 0x0, true⟩, ⟨0x15, 0x15, .rw, 0x0, true⟩, ⟨0x16, 0x16, .rw, 0x0, true⟩,
     ⟨0x17, 0x17, .ro, 0x0, false⟩, ⟨0x18, 0x18, .ro, 0x0, false⟩, ⟨0x19, 0x19, .ro, 0x0, false⟩,
     ⟨0x1A, 0x1A, .ro, 0x0, false⟩, ⟨0x1B, 0x1B, .ro, 0x0, false⟩]
  | .io =>
    [⟨0x00, 0x00, .ro, 0x0, false⟩, ⟨0x01, 0x01, .w1c, 0x0, false⟩, ⟨0x02, 0x02, .wo, 0x0, false⟩,
     ⟨0x03, 0x03, .ro, 0x0, false⟩, ⟨0x04, 0x0B, .ro, 0x0, false⟩, ⟨0x0C, 0x0F, .ro, 0x0, false⟩,
     ⟨0x10, 0x11, .ro, 0x0, false⟩]
  | .fs =>
    [⟨0x00, 0x00, .ro, 0x0, false⟩, ⟨0x01, 0x01, .ro, 0x0, false⟩]
  | .di =>
    [⟨0x00, 0x00, .ro, 0x0, false⟩, ⟨0x01, 0x01, .w1c, 0x0, false⟩, ⟨0x02, 0x02, .wo, 0x0, false⟩,
     ⟨0x03, 0x03, .ro, 0x0, false⟩, ⟨0x04, 0x04, .ro, 0x0, false⟩, ⟨0x05, 0x05, .ro, 0x0, false⟩,
     ⟨0x06, 0x06, .ro, 0x0, false⟩, ⟨0x07, 0x08, .ro, 0x0, false⟩, ⟨0x09, 0x09, .ro, 0x0, false⟩,
     ⟨0x0A, 0x0A, .ro, 0x0, false⟩, ⟨0x0B, 0x0B, .ro, 0x0, false⟩]
  | .dout =>
    [⟨0x00, 0x00, .ro, 0x0, false⟩, ⟨0x01, 0x01, .w1c, 0x0, false⟩, ⟨0x02, 0x02, .wo, 0x0, false⟩,
     ⟨0x03, 0x03, .ro, 0x0, false⟩, ⟨0x04, 0x04, .rw, 0x0, false⟩, ⟨0x05, 0x05, .rwl, 0x0, true⟩,
     ⟨0x06, 0x06, .ro, 0x0, false⟩, ⟨0x07, 0x07, .ro, 0x0, false⟩, ⟨0x08, 0x08, .ro, 0x0, false⟩,
     ⟨0x09, 0x09, .ro, 0x0, false⟩]
  | .ao =>
    [⟨0x00, 0x00, .ro, 0x0, false⟩, ⟨0x01, 0x01, .w1c, 0x0, false⟩, ⟨0x02, 0x02, .wo, 0x0, false⟩,
     ⟨0x03, 0x03, .ro, 0x0, false⟩, ⟨0x04, 0x04, .rw, 0x0, false⟩, ⟨0x05, 0x05, .ro, 0x0, false⟩,
     ⟨0x06, 0x06, .ro, 0x80000000, false⟩, ⟨0x07, 0x07, .ro, 0x0, false⟩, ⟨0x08, 0x08, .ro, 0x0, false⟩,
     ⟨0x09, 0x09, .ro, 0x0, false⟩, ⟨0x0A, 0x0A, .ro, 0x0, false⟩, ⟨0x0B, 0x0B, .ro, 0x0, false⟩,
     ⟨0x0C, 0x0C, .ro, 0x0, false⟩]
  | .cans =>
    [⟨0x00, 0x00, .ro, 0x0, false⟩]
  | .bus =>
    [⟨0x00, 0x00, .ro, 0x0, false⟩, ⟨0x01, 0x01, .w1c, 0x0, false⟩, ⟨0x02, 0x02, .wo, 0x0, false⟩,
     ⟨0x03, 0x03, .ro, 0x0, false⟩, ⟨0x04, 0x04, .ro, 0x0, false⟩, ⟨0x05, 0x05, .ro, 0x0, false⟩,
     ⟨0x06, 0x06, .ro, 0x0, false⟩, ⟨0x07, 0x07, .ro, 0x0, false⟩, ⟨0x08, 0x08, .ro, 0x0, false⟩,
     ⟨0x09, 0x09, .ro, 0x0, false⟩, ⟨0x0A, 0x0A, .ro, 0x0, false⟩, ⟨0x0B, 0x0B, .ro, 0x0, false⟩,
     ⟨0x0C, 0x0C, .ro, 0x0, false⟩, ⟨0x0D, 0x0D, .ro, 0x0, false⟩, ⟨0x0E, 0x0E, .ro, 0x0, false⟩,
     ⟨0x0F, 0x0F, .ro, 0x0, false⟩, ⟨0x10, 0x10, .ro, 0x0, false⟩]
  | .red =>
    [⟨0x00, 0x00, .ro, 0xF0000050, false⟩, ⟨0x01, 0x01, .w1c, 0x0, false⟩, ⟨0x02, 0x02, .wo, 0x0, false⟩,
     ⟨0x03, 0x03, .ro, 0x0, false⟩, ⟨0x04, 0x04, .ro, 0x0, false⟩, ⟨0x05, 0x05, .ro, 0x0, false⟩,
     ⟨0x06, 0x06, .ro, 0x0, false⟩, ⟨0x07, 0x07, .ro, 0x0, false⟩, ⟨0x08, 0x08, .ro, 0x0, false⟩,
     ⟨0x09, 0x09, .ro, 0xFFFFFFFF, false⟩, ⟨0x0A, 0x0A, .ro, 0x0, false⟩, ⟨0x0B, 0x0B, .ro, 0x0, false⟩,
     ⟨0x0C, 0x0C, .ro, 0x0, false⟩, ⟨0x0D, 0x0D, .ro, 0x0, false⟩, ⟨0x0E, 0x0E, .ro, 0x0, false⟩,
     ⟨0x0F, 0x0F, .ro, 0x0, false⟩, ⟨0x10, 0x10, .ro, 0x0, false⟩, ⟨0x11, 0x12, .ro, 0x0, false⟩]
  | .hier =>
    [⟨0x00, 0x00, .ro, 0x0, false⟩, ⟨0x01, 0x01, .w1c, 0x0, false⟩, ⟨0x02, 0x02, .ro, 0x0, false⟩,
     ⟨0x03, 0x03, .ro, 0xFFFFFFFF, false⟩, ⟨0x04, 0x04, .ro, 0x0, false⟩, ⟨0x05, 0x05, .ro, 0x0, false⟩,
     ⟨0x10, 0x2F, .ro, 0x0, false⟩]
  | .wk =>
    [⟨0x00, 0x00, .ro, 0x0, false⟩, ⟨0x01, 0x01, .ro, 0x0, false⟩, ⟨0x02, 0x02, .ro, 0x0, false⟩,
     ⟨0x10, 0x2F, .rw, 0x0, false⟩]
  | .net =>
    [⟨0x00, 0x00, .ro, 0x0, false⟩, ⟨0x01, 0x01, .w1c, 0x0, false⟩, ⟨0x02, 0x02, .wo, 0x0, false⟩,
     ⟨0x03, 0x03, .ro, 0x0, false⟩, ⟨0x04, 0x04, .rwl, 0x323C0000, true⟩, ⟨0x05, 0x06, .ro, 0x0, false⟩,
     ⟨0x07, 0x08, .ro, 0x0, false⟩, ⟨0x09, 0x0A, .ro, 0x0, true⟩, ⟨0x0B, 0x0B, .ro, 0x0, false⟩,
     ⟨0x0C, 0x0C, .ro, 0x0, false⟩, ⟨0x0D, 0x0D, .ro, 0x0, false⟩, ⟨0x0E, 0x0E, .ro, 0x0, false⟩,
     ⟨0x0F, 0x0F, .ro, 0x0, false⟩, ⟨0x10, 0x10, .ro, 0x0, false⟩, ⟨0x11, 0x11, .ro, 0x0, false⟩]
  | .vit =>
    [⟨0x00, 0x00, .ro, 0x0, false⟩, ⟨0x01, 0x01, .w1c, 0x0, false⟩, ⟨0x02, 0x05, .ro, 0x0, false⟩,
     ⟨0x06, 0x09, .ro, 0x0, false⟩, ⟨0x0A, 0x0A, .ro, 0x0, false⟩, ⟨0x0B, 0x0B, .ro, 0x0, false⟩,
     ⟨0x0C, 0x0C, .ro, 0x0, false⟩, ⟨0x0D, 0x0D, .ro, 0x0, false⟩, ⟨0x0E, 0x0E, .ro, 0x0, false⟩]
  | .nport =>
    [⟨0x00, 0x00, .ro, 0x0, false⟩, ⟨0x01, 0x01, .ro, 0x0, false⟩, ⟨0x02, 0x02, .ro, 0x0, false⟩,
     ⟨0x03, 0x03, .ro, 0x0, false⟩, ⟨0x04, 0x04, .ro, 0x0, false⟩, ⟨0x05, 0x05, .ro, 0x0, false⟩,
     ⟨0x06, 0x06, .ro, 0x0, false⟩]
  | .sess =>
    [⟨0x00, 0x00, .ro, 0x0, false⟩, ⟨0x01, 0x02, .ro, 0x0, false⟩, ⟨0x03, 0x06, .ro, 0x0, false⟩,
     ⟨0x07, 0x07, .ro, 0x0, false⟩, ⟨0x08, 0x09, .ro, 0x0, false⟩]
  | .rcd =>
    [⟨0x00, 0x00, .ro, 0x0, false⟩, ⟨0x01, 0x01, .w1c, 0x0, false⟩, ⟨0x02, 0x02, .wo, 0x0, false⟩,
     ⟨0x03, 0x03, .ro, 0x0, false⟩, ⟨0x04, 0x04, .rwl, 0xFFFFF, true⟩, ⟨0x05, 0x06, .ro, 0x0, false⟩,
     ⟨0x07, 0x08, .ro, 0x0, false⟩, ⟨0x09, 0x0A, .ro, 0x0, false⟩, ⟨0x0B, 0x0B, .ro, 0x0, true⟩,
     ⟨0x0C, 0x0C, .ro, 0x0, false⟩, ⟨0x0D, 0x0D, .ro, 0x0, false⟩, ⟨0x0E, 0x0E, .ro, 0x0, false⟩,
     ⟨0x0F, 0x0F, .ro, 0x0, false⟩, ⟨0x10, 0x10, .ro, 0x0, true⟩, ⟨0x11, 0x12, .rw, 0x0, false⟩,
     ⟨0x13, 0x13, .ro, 0x0, false⟩, ⟨0x14, 0x1B, .ro, 0x0, false⟩]
  | .arc =>
    [⟨0x00, 0x00, .ro, 0x0, false⟩, ⟨0x01, 0x01, .w1c, 0x0, false⟩, ⟨0x02, 0x02, .wo, 0x0, false⟩,
     ⟨0x03, 0x03, .ro, 0x0, false⟩, ⟨0x04, 0x04, .rw, 0x0, false⟩, ⟨0x05, 0x05, .rw, 0x0, false⟩,
     ⟨0x06, 0x09, .rw, 0x0, false⟩, ⟨0x0A, 0x0A, .rw, 0xFFFFF, false⟩, ⟨0x0B, 0x0B, .ro, 0x0, false⟩,
     ⟨0x0C, 0x0C, .ro, 0x0, false⟩]
  | .st =>
    [⟨0x00, 0x00, .ro, 0x0, false⟩, ⟨0x01, 0x01, .wo, 0x0, false⟩, ⟨0x02, 0x02, .ro, 0x0, false⟩,
     ⟨0x03, 0x03, .ro, 0x0, false⟩, ⟨0x04, 0x04, .ro, 0x0, false⟩, ⟨0x05, 0x05, .ro, 0x0, false⟩]
  | .ns =>
    [⟨0x00, 0x00, .ro, 0x0, false⟩, ⟨0x01, 0x01, .ro, 0x0, false⟩, ⟨0x02, 0x02, .ro, 0x0, false⟩,
     ⟨0x03, 0x06, .ro, 0x0, false⟩, ⟨0x07, 0x07, .ro, 0x0, false⟩, ⟨0x08, 0x08, .ro, 0x0, false⟩,
     ⟨0x09, 0x09, .ro, 0x0, false⟩]
  | .sec =>
    [⟨0x00, 0x00, .ro, 0x1, false⟩, ⟨0x01, 0x01, .w1c, 0x0, false⟩, ⟨0x02, 0x02, .wo, 0x0, false⟩,
     ⟨0x03, 0x03, .ro, 0x0, false⟩, ⟨0x04, 0x04, .ro, 0x0, false⟩, ⟨0x05, 0x05, .rw, 0x0, false⟩,
     ⟨0x06, 0x14, .ro, 0x0, false⟩, ⟨0x15, 0x20, .wo, 0x0, false⟩, ⟨0x21, 0x5F, .ro, 0x0, false⟩,
     ⟨0x60, 0x60, .ro, 0x0, false⟩, ⟨0x61, 0x61, .ro, 0x0, false⟩, ⟨0x62, 0x62, .ro, 0x0, false⟩]
  | .cert =>
    [⟨0x00, 0x00, .rw, 0x0, false⟩, ⟨0x01, 0x01, .rw, 0x0, false⟩, ⟨0x02, 0x02, .rw, 0x0, false⟩,
     ⟨0x40, 0x7F, .rw, 0x0, false⟩]
  | .mr =>
    [⟨0x00, 0x0B, .ro, 0x0, false⟩, ⟨0x0C, 0x5F, .ro, 0x0, false⟩]
  | .key =>
    [⟨0x00, 0x00, .ro, 0x0, true⟩, ⟨0x01, 0x01, .wo, 0x0, false⟩, ⟨0x02, 0x02, .ro, 0x0, false⟩,
     ⟨0x03, 0x03, .ro, 0x0, false⟩, ⟨0x04, 0x05, .ro, 0x0, true⟩, ⟨0x06, 0x07, .ro, 0x0, true⟩,
     ⟨0x08, 0x1F, .ro, 0x0, true⟩, ⟨0x20, 0x37, .wo, 0x0, false⟩]
  | .upd =>
    [⟨0x00, 0x00, .ro, 0x0, true⟩, ⟨0x01, 0x01, .w1c, 0x0, false⟩, ⟨0x02, 0x02, .wo, 0x0, false⟩,
     ⟨0x03, 0x03, .ro, 0x0, false⟩, ⟨0x04, 0x04, .ro, 0x0, true⟩, ⟨0x05, 0x05, .ro, 0x0, true⟩,
     ⟨0x06, 0x06, .ro, 0x0, true⟩]
  | .fw =>
    [⟨0x00, 0x00, .ro, 0x0, true⟩, ⟨0x01, 0x01, .ro, 0x0, true⟩, ⟨0x02, 0x02, .ro, 0x0, true⟩,
     ⟨0x03, 0x03, .ro, 0x0, true⟩, ⟨0x04, 0x05, .ro, 0x0, true⟩, ⟨0x06, 0x06, .ro, 0x0, true⟩,
     ⟨0x07, 0x08, .ro, 0x0, true⟩, ⟨0x09, 0x14, .ro, 0x0, true⟩]
  | .pwr =>
    [⟨0x00, 0x00, .ro, 0x0, false⟩, ⟨0x01, 0x01, .w1c, 0x0, false⟩, ⟨0x02, 0x02, .wo, 0x0, false⟩,
     ⟨0x03, 0x03, .ro, 0x0, false⟩, ⟨0x04, 0x04, .ro, 0x0, false⟩, ⟨0x05, 0x05, .ro, 0x0, false⟩,
     ⟨0x06, 0x06, .ro, 0x0, false⟩, ⟨0x07, 0x07, .ro, 0x0, true⟩, ⟨0x08, 0x08, .ro, 0x0, true⟩,
     ⟨0x09, 0x09, .ro, 0x3F, false⟩, ⟨0x0A, 0x0A, .w1c, 0x0, false⟩, ⟨0x0B, 0x0B, .ro, 0x0, false⟩,
     ⟨0x0C, 0x0C, .ro, 0x0, true⟩, ⟨0x0D, 0x0D, .ro, 0x0, true⟩]
  | .sens =>
    [⟨0x00, 0x00, .ro, 0x7FFF0000, false⟩, ⟨0x01, 0x01, .ro, 0x0, false⟩, ⟨0x02, 0x02, .ro, 0x0, false⟩,
     ⟨0x03, 0x03, .ro, 0x80007FFF, false⟩]

end Sys2Proof.Machine
end

