-- ==== Sys2Proof/Machine/ObjMap.lean ====
section
/-!
DEFINITION. The object map: which kind of instance stands where, and the table row of an address (R6, R7).
-/

namespace Sys2Proof.Machine

/-- The kind of an instance of a space (R7 and the object tables), whatever the Catalogue configures. -/
def kindOf (space inst : Nat) : Option ObjKind :=
  let between (lo n : Nat) : Bool := decide (lo ≤ inst) && decide (inst < lo + n)
  match space with
  | 0x00 => if inst == 0 then some .mod else none
  | 0x01 => if inst < 2 then some .slot else if inst == 2 then some .cat else none
  | 0x02 => if inst == 0 then some .time else if between 1 2 then some .dom else if between 256 256 then some .cal else none
  | 0x03 => if inst < 512 then some .port else none
  | 0x04 => if inst < 16384 && decide (1 ≤ inst % 64) && decide (inst % 64 ≤ 40) then some .node else none
  | 0x05 => if inst < 256 then some .str else none
  | 0x06 => if inst < 131072 then some .cell else none
  | 0x07 => if inst == 0 then some .imp else if between 256 256 then some .impS else none
  | 0x08 => if inst < 256 then some .bal else none
  | 0x09 => if inst == 0 then some .mthm else if between 256 256 then some .thm else none
  | 0x0A => if inst == 0 then some .prot else if between 256 256 then some .pstr else none
  | 0x0B => if inst == 0 then some .safe else if between 64 32 then some .si else if between 96 32 then some .sq
            else if between 256 256 then some .func else none
  | 0x0C => if inst == 0 then some .sched else if between 64 64 then some .task else if between 128 6 then some .core else none
  | 0x0D => if inst == 0 then some .eng else if between 256 512 then some .loop else none
  | 0x0E => if inst == 0 then some .io else if between 16 4 then some .fs else if between 256 256 then some .di
            else if between 512 128 then some .dout else if between 640 64 then some .ao else none
  | 0x0F => if inst == 0 then some .cans else if between 16 16 then some .bus else none
  | 0x10 => if inst == 0 then some .red else if inst == 1 then some .hier else if between 65 63 then some .wk else none
  | 0x11 => if inst == 0 then some .net else if inst == 1 then some .vit else if between 16 11 then some .nport
            else if between 64 68 then some .sess else none
  | 0x12 => if inst == 0 then some .rcd else none
  | 0x13 => if inst == 0 then some .arc else if between 16 2 then some .st else if between 65 32 then some .ns else none
  | 0x14 => if inst == 0 then some .sec else if inst == 1 then some .cert else if inst == 2 then some .mr
            else if between 16 32 then some .key else none
  | 0x15 => if inst == 0 then some .upd else if between 1 2 then some .fw else none
  | 0x16 => if inst == 0 then some .pwr else if between 16 16 then some .sens else none
  | _ => none

/-- The table row of an address, if its space, kind of instance and item are defined. -/
def objDefAt (a : Nat) : Option ObjDef :=
  match kindOf (a / 2 ^ 24 % 256) (a / 2 ^ 7 % 2 ^ 17) with
  | none => none
  | some k => (objTable k).find? fun d => decide (d.lo ≤ a % 128) && decide (a % 128 ≤ d.hi)

/-- Whether a task may write an object through its library (R371): CONTACT_REQ, SP, MAN_OUT, DO_VALUE, AO_VALUE and
WK_DISP_OUT (R515) are the ones the manual names. -/
def taskWritable (a : Nat) : Bool :=
  match kindOf (a / 2 ^ 24 % 256) (a / 2 ^ 7 % 2 ^ 17), a % 128 with
  | some .pstr, 2 | some .loop, 4 | some .loop, 8 | some .dout, 4 | some .ao, 4 => true
  | some .wk, i => decide (0x10 ≤ i) && decide (i < 0x30)
  | _, _ => false

end Sys2Proof.Machine
end

