-- ==== Sys2Proof/Machine/Catalogue.lean ====
section
/-!
DEFINITION. Reading and validating a Catalogue image: the layouts of R37 to R59 and the thirteen checks of R63,
in their order, each with its rejection code, section type, field offset and record index.
-/

namespace Sys2Proof.Machine

/-- The first failure of a validation, as SLOT_STATUS.REJECT, REJECT_WHERE and REJECT_RECORD report it (R63). -/
structure Reject where
  code : Nat
  sec : Nat
  off : Nat
  record : Nat
  deriving DecidableEq, Repr

/-- One entry of the section table (R38). -/
structure SecEntry where
  type : Nat
  flags : Nat
  offset : Nat
  length : Nat
  recSize : Nat
  recCount : Nat
  crc : Nat
  deriving DecidableEq, Repr

/-- Section-table entry `k` of an image (R38). -/
def secEntryAt (b : List Byte) (k : Nat) : SecEntry :=
  let e := 0x100 + 32 * k
  { type := leAt b e 2, flags := leAt b (e + 2) 2, offset := leAt b (e + 4) 4, length := leAt b (e + 8) 4,
    recSize := leAt b (e + 12) 4, recCount := leAt b (e + 16) 4, crc := leAt b (e + 0x18) 4 }

/-- The section table of an image. -/
def secTable (b : List Byte) : List SecEntry := (List.range (leAt b 0x28 2)).map (secEntryAt b)

/-- The section of a type, if the image has it. -/
def findSec (t : List SecEntry) (ty : Nat) : Option SecEntry := t.find? fun e => e.type == ty

/-- The LENGTH bytes of a section. -/
def secBytes (b : List Byte) (e : SecEntry) : List Byte := sliceOf b e.offset e.length

/-- The records of a fixed-size section: `recCount` records of `recSize` bytes. -/
def fixedRecs (b : List Byte) (e : SecEntry) : List (List Byte) :=
  (List.range e.recCount).map fun i => sliceOf b (e.offset + i * e.recSize) e.recSize

/-- The records of a variable-length section (R41): each begins with its 32-bit length, a multiple of 8. -/
def varRecs : Nat → List Byte → List (List Byte)
  | 0, _ => []
  | n + 1, b =>
    let l := leAt b 0 4
    if l < 8 ∨ b.length < l then [] else b.take l :: varRecs n (b.drop l)

/-- Whether a type is STRUCTURAL (R39). -/
def structuralType (ty : Nat) : Bool := [2, 3, 4, 5, 6, 0x10, 0x12, 0x13].contains ty

/-- The section types of this edition with their record size (0 variable) and record-count range (R44). -/
def sectionKinds : List (Nat × Nat × Nat × Nat) :=
  [(0x01, 64, 1, 1), (0x02, 64, 1, 1), (0x03, 32, 1, 256), (0x04, 32, 1, 256), (0x05, 16, 1, 10240),
   (0x06, 40, 0, 32), (0x07, 3808, 1, 4), (0x08, 64, 1, 257), (0x09, 32, 0, 64), (0x0A, 0, 1, 64),
   (0x0B, 16, 0, 65536), (0x0C, 0, 1, 1), (0x0D, 64, 0, 512), (0x0E, 32, 0, 448), (0x0F, 640, 0, 16),
   (0x10, 256, 1, 1), (0x11, 32, 0, 32), (0x12, 16, 0, 4096), (0x13, 16, 1, 1), (0x14, 132, 0, 64),
   (0x15, 64, 1, 4096)]

/-- The kind of a known section type. -/
def sectionKind (ty : Nat) : Option (Nat × Nat × Nat × Nat) := sectionKinds.find? fun k => k.1 == ty

/-! ### Steps 1 to 7: header, table, digests, signatures, CRCs, presence -/

/-- The trailer's offset (R42). -/
def trailerAt (b : List Byte) : Nat := leAt b 0x1C 4 - 256

/-- Step 1: MAGIC, FORMAT major, HEADER_CRC, IMAGE_LENGTH range and trailer MAGIC. -/
def checkHeader (b : List Byte) : Option Reject :=
  if leAt b 0 4 ≠ 0x54414347 then some ⟨0x01, 0, 0, 0⟩
  else if byteAt b 5 ≠ 1 then some ⟨0x02, 0, 4, 0⟩
  else if leAt b 0xFC 4 ≠ crc32c (b.take 0xFC) then some ⟨0x03, 0, 0xFC, 0⟩
  else if leAt b 0x1C 4 < 8192 ∨ 268435456 < leAt b 0x1C 4 ∨ leAt b (trailerAt b) 4 ≠ 0x47495347
    then some ⟨0x04, 0, 0x1C, 0⟩
  else none

/-- Step 2: DEVICE, and MIN_FW against the running firmware. -/
def checkDevice (b : List Byte) (fw : Nat) : Option Reject :=
  if leAt b 8 4 ≠ 0x00004750 then some ⟨0x05, 0, 8, 0⟩
  else if fw < leAt b 0xC 4 then some ⟨0x06, 0, 0xC, 0⟩
  else none

/-- Whether the entries stand in ascending TYPE and OFFSET order without overlap (R39). -/
def tableSorted : List SecEntry → Bool
  | a :: c :: t => decide (a.type < c.type) && decide (a.offset + a.length ≤ c.offset) && decide (a.offset < c.offset) &&
      tableSorted (c :: t)
  | _ => true

/-- Whether one entry's offset and flags follow R38 and R39. -/
def entryOk (b : List Byte) (n : Nat) (e : SecEntry) : Bool :=
  e.offset % 4096 == 0 && decide (0x100 + 32 * n ≤ e.offset) && decide (e.offset + e.length ≤ trailerAt b) &&
  (match sectionKind e.type with
   | some _ => e.flags == 2 * (structuralType e.type).toNat + 4 * (e.type == 0x15).toNat
   | none => decide (e.flags < 2))

/-- Step 3: the section table, then unknown types without OPTIONAL (R39, R40). An unknown type that carries
STRUCTURAL or SAFETY breaks "exactly the types" of R39 unless it is also not OPTIONAL. -/
def checkTable (b : List Byte) : Option Reject :=
  let n := leAt b 0x28 2
  let t := secTable b
  if n < 1 ∨ 64 < n ∨ leAt b 0x2C 4 ≠ 0x100 ∨ tableSorted t = false ∨ t.all (entryOk b n) = false
    then some ⟨0x07, 0, 0x100, 0⟩
  else match t.find? (fun e => (sectionKind e.type).isNone && e.flags % 2 == 0) with
    | some _ => some ⟨0x08, 0, 0x100, 0⟩
    | none => none

/-- SHA-384 of bytes as the 48-byte number kept, first byte lowest. -/
def digestAt (b : List Byte) (off : Nat) : Digest := BitVec.ofNat 384 (leAt b off 48)

/-- The bytes that STRUCT_DIGEST covers (R37). -/
def structBytes (b : List Byte) : List Byte :=
  (secTable b).flatMap fun e => if structuralType e.type then secBytes b e else []

/-- The value RETAIN_DIGEST must have (R37): zero where the section is absent. -/
def retainDigestOf (b : List Byte) : Digest :=
  match findSec (secTable b) 0x0B with
  | some e => Config.sha384 (secBytes b e)
  | none => 0

/-- Step 4: the three digests (R37, R42). -/
def checkDigests (b : List Byte) : Option Reject :=
  let tr := trailerAt b
  if digestAt b (tr + 0x10) ≠ Config.sha384 (b.take tr) then some ⟨0x09, 0, 0x10, 0⟩
  else if digestAt b 0x30 ≠ Config.sha384 (structBytes b) then some ⟨0x09, 0, 0x30, 0⟩
  else if digestAt b 0x60 ≠ retainDigestOf b then some ⟨0x09, 0, 0x60, 0⟩
  else none

/-- The first 8 bytes of the SHA-384 of a public key, as KEY_ID (R42, R613). -/
def keyIdOf (pub : List Byte) : Nat := (Config.sha384 pub).toNat % 2 ^ 64

/-- Step 5: the Catalogue key's identifier and the image signature (R43). -/
def checkSignature (b : List Byte) (key : Option (List Byte)) : Option Reject :=
  let tr := trailerAt b
  match key with
  | none => some ⟨0x0A, 0, 8, 0⟩
  | some k =>
    if leAt b (tr + 8) 8 ≠ keyIdOf k then some ⟨0x0A, 0, 8, 0⟩
    else if Config.ecdsaVerify k (b.take tr) (sliceOf b (tr + 0x40) 96) = false then some ⟨0x0B, 0, 0x40, 0⟩
    else none

/-- The bytes of the 64-byte records of a SAFETY section (R59). -/
def safetyRecBytes (b : List Byte) (e : SecEntry) : List Byte := sliceOf b e.offset (e.recCount * 64)

/-- Whether a safety trailer's MAGIC, KEY_ID and signature stand under a safety key (R59). -/
def safetyTrailerOk (b : List Byte) (e : SecEntry) (k : List Byte) : Bool :=
  let tr := e.offset + e.recCount * 64
  leAt b tr 4 == 0x46415347 && leAt b (tr + 8) 8 == keyIdOf k &&
    Config.ecdsaVerify k (safetyRecBytes b e) (sliceOf b (tr + 0x10) 96)

/-- Step 6: the safety signature with key slot 5; an absent section is left to step 7. -/
def checkSafetySig (b : List Byte) (key : Option (List Byte)) : Option Reject :=
  match findSec (secTable b) 0x15 with
  | none => none
  | some e =>
    match key with
    | none => some ⟨0x0A, 0x15, 8, 0⟩
    | some k => if safetyTrailerOk b e k then none else some ⟨0x0C, 0x15, 0x10, 0⟩

/-- The mandatory section types, given which others are present (R44). -/
def mandatoryTypes (t : List SecEntry) : List Nat :=
  [0x01, 0x02] ++ (if (findSec t 3).isSome then [0x04, 0x05, 0x07, 0x08] else []) ++
  (if (findSec t 9).isSome then [0x0A, 0x0C] else []) ++ [0x10, 0x13, 0x15]

/-- Step 7: section CRCs in table order, then mandatory sections. -/
def checkSections (b : List Byte) : Option Reject :=
  let t := secTable b
  match t.find? (fun e => e.crc != crc32c (secBytes b e)) with
  | some e => some ⟨0x0D, e.type, 0, 0⟩
  | none =>
    match (mandatoryTypes t).find? (fun ty => (findSec t ty).isNone) with
    | some ty => some ⟨0x0E, ty, 0, 0⟩
    | none => none

/-! ### Step 8: counts, keys, ranges -/

/-- The records of a section of a type, fixed or variable; none where the section is absent. -/
def recsOf (b : List Byte) (ty : Nat) : List (List Byte) :=
  match findSec (secTable b) ty with
  | none => []
  | some e =>
    match sectionKind ty with
    | some (_, 0, _, _) => varRecs e.recCount (secBytes b e)
    | _ => fixedRecs b e

/-- Whether record size, count and length of one entry follow R39, R41 and R44. -/
def countOk (b : List Byte) (e : SecEntry) : Bool :=
  match sectionKind e.type with
  | none => true
  | some (_, size, lo, hi) =>
    decide (lo ≤ e.recCount) && decide (e.recCount ≤ hi) && e.recSize == size &&
    (if size == 0 then
       let rs := recsOf b e.type
       rs.length == e.recCount && (rs.map List.length).sum == e.length && rs.all (fun r => r.length % 8 == 0)
     else if e.type == 0x15 then e.length == e.recCount * 64 + 160
     else e.length == e.recCount * size)

/-- Step 8, counts: R39, R44, one RINGS record per string, exactly one default THRESHOLDS record (R50), the task
class limits of R52 and exactly one global SAFETY record (R58). -/
def checkCounts (b : List Byte) : Option Reject :=
  let t := secTable b
  match t.find? (fun e => countOk b e == false) with
  | some e => some ⟨0x0F, e.type, 0, 0⟩
  | none =>
    if (recsOf b 4).length ≠ (recsOf b 3).length then some ⟨0x0F, 4, 0, 0⟩
    else if (findSec t 8).isSome ∧ ((recsOf b 8).filter fun r => leAt r 0 2 == 0xFFFF).length = 0
      then some ⟨0x0F, 8, 0, 0⟩
    else if 16 < ((recsOf b 9).filter fun r => byteAt r 1 == 0).length ∨
        48 < ((recsOf b 9).filter fun r => byteAt r 1 == 1).length then some ⟨0x0F, 9, 1, 0⟩
    else if ((recsOf b 0x15).filter fun r => byteAt r 0 == 1).length = 0 then some ⟨0x0F, 0x15, 0, 0⟩
    else none

/-- The index of the first record whose key repeats an earlier one. -/
def firstDup (key : List Byte → Option Nat) : List (List Byte) → Nat → List Nat → Option Nat
  | [], _, _ => none
  | r :: t, i, seen =>
    match key r with
    | none => firstDup key t (i + 1) seen
    | some k => if seen.contains k then some i else firstDup key t (i + 1) (k :: seen)

/-- The unique key of a record of a section type, with the offset of the key field. -/
def uniqueKeys : List (Nat × Nat × (List Byte → Option Nat)) :=
  [(0x03, 0, fun r => some (leAt r 0 2)), (0x04, 0, fun r => some (leAt r 0 2)), (0x06, 0, fun r => some (byteAt r 0)),
   (0x07, 0, fun r => some (byteAt r 0)), (0x08, 0, fun r => some (leAt r 0 2)), (0x09, 0, fun r => some (byteAt r 0)),
   (0x0B, 0, fun r => some (leAt r 0 4)), (0x0D, 0, fun r => some (leAt r 0 2)),
   (0x0E, 2, fun r => some (byteAt r 0 * 65536 + leAt r 2 2)), (0x0F, 0, fun r => some (byteAt r 0)),
   (0x11, 0, fun r => some (byteAt r 0)),
   (0x15, 2, fun r => match byteAt r 0 with
      | 1 => some 0
      | 2 => some (0x20000 + leAt r 2 2)
      | n => some (n * 0x10000 + byteAt r 2))]

/-- Step 8, unique keys. -/
def checkUnique (b : List Byte) : Option Reject :=
  uniqueKeys.findSome? fun (ty, off, key) =>
    (firstDup key (recsOf b ty) 0 []).map fun i => ⟨0x10, ty, off, i⟩

/-- A field of a record: offset, size and whether the record's value of it is in range. -/
abbrev FieldCheck := Nat × Nat × (List Byte → Nat → Bool)

/-- A field that lies in `lo`..`hi`. -/
def rng (off size lo hi : Nat) : FieldCheck := (off, size, fun _ v => decide (lo ≤ v) && decide (v ≤ hi))

/-- A field of any value. -/
def anyOf (off size : Nat) : FieldCheck := (off, size, fun _ _ => true)

/-- A field whose range depends on the record. -/
def dep (off size : Nat) (f : List Byte → Nat → Bool) : FieldCheck := (off, size, f)

/-- A finite binary32 pattern (exponent not all ones). -/
def f32Finite (v : Nat) : Bool := v / 2 ^ 23 % 256 != 255

/-- A finite binary32 value at or above 0. -/
def f32NonNeg (v : Nat) : Bool := f32Finite v && (decide (v < 2 ^ 31) || v == 2 ^ 31)

/-- A finite binary32 value above 0. -/
def f32Pos (v : Nat) : Bool := f32Finite v && decide (0 < v) && decide (v < 2 ^ 31)

/-- The order of finite binary32 values, by their sign and magnitude. -/
def f32Lt (a c : Nat) : Bool :=
  let key (v : Nat) : Int := if v < 2 ^ 31 then (v : Int) else -((v - 2 ^ 31 : Nat) : Int)
  decide (key a < key c)

/-- The fields of a record in offset order, by section type and record (R46 to R58). -/
def fieldChecks (ty : Nat) (r : List Byte) : List FieldCheck :=
  match ty with
  | 0x01 => [rng 0 1 0 1, rng 1 1 0 1, rng 2 2 10 300,
      dep 4 2 (fun _ v => decide (500 ≤ v) && decide (v ≤ 4000) && v % 100 == 0), rng 6 2 1 60]
  | 0x02 => [rng 0 1 0 3, rng 1 1 0 100, rng 2 2 500 10000,
      dep 4 1 (fun r v => if byteAt r 0 == 3 then decide (1 ≤ v) && decide (v ≤ 63) else v == 0),
      dep 5 1 (fun r v => if byteAt r 0 == 2 then decide (1 ≤ v) && decide (v ≤ 63) else v == 0),
      dep 8 4 (fun r v => if byteAt r 0 == 3 then decide (100 ≤ v) && decide (v ≤ 60000) else v == 0),
      dep 12 4 (fun r v => if byteAt r 0 == 2 then decide (v ≤ 11000000) else v == 0)]
  | 0x03 => [rng 0 2 0 255, rng 2 2 1 512, rng 4 1 0 3, rng 5 1 1 100,
      dep 6 1 (fun r v => decide (1 ≤ v) && decide (v ≤ byteAt r 5)), rng 7 1 0 1, rng 8 4 1000 4000000,
      dep 12 1 (fun r v => decide (byteAt r 5 ≤ v) && decide (v ≤ 100)), rng 13 1 0 1]
  | 0x04 => [rng 0 2 0 255, rng 2 1 1 40, rng 4 2 10 2000, rng 6 2 1 4000, rng 8 2 1 500, anyOf 10 2, anyOf 12 2,
      rng 16 4 0 100000]
  | 0x05 => [rng 0 2 0 65535, rng 2 1 1 40, rng 3 1 0 2,
      dep 4 2 (fun r v => if byteAt r 3 == 0 then decide (v ≤ 511) else v == 0xFFFF),
      dep 6 1 (fun r v => if byteAt r 3 == 0 then decide (1 ≤ v) && decide (v ≤ 16) else v == 0),
      dep 7 1 (fun r v => if byteAt r 3 == 0 then decide (v ≤ 8) else v == 0),
      dep 8 1 (fun r v => if byteAt r 3 == 2 then decide (1 ≤ v) && decide (v ≤ 4) else v == 0), anyOf 12 4]
  | 0x06 => [rng 0 1 0 31, anyOf 8 32]
  | 0x07 => [rng 0 1 0 3, dep 4 4 (fun _ v => f32NonNeg v), dep 8 4 (fun _ v => f32NonNeg v),
      dep 12 4 (fun _ v => f32NonNeg v), dep 16 4 (fun _ v => f32NonNeg v), dep 20 4 (fun _ v => f32NonNeg v)] ++
      (List.range 64).map (fun i => dep (0x20 + 2 * i) 2 fun r v =>
        if i == 0 then v == 0 else decide (leAt r (0x20 + 2 * (i - 1)) 2 < v) && (i != 63 || v == 10000)) ++
      (List.range 8).map (fun i => dep (0xA0 + 2 * i) 2 fun r v =>
        i == 0 || decide (signedOf 16 (leAt r (0xA0 + 2 * (i - 1)) 2) < signedOf 16 v)) ++
      (List.range 512).map (fun i => dep (0xB0 + 2 * i) 2 fun r v =>
        i % 64 == 0 || decide (leAt r (0xB0 + 2 * (i - 1)) 2 ≤ v)) ++
      (List.range 16).map (fun i => dep (0x4B0 + 2 * i) 2 fun r v =>
        if i == 0 then v == 0 else decide (leAt r (0x4B0 + 2 * (i - 1)) 2 < v) && (i != 15 || v == 10000)) ++
      [anyOf 0x4D0 512, anyOf 0x6D0 512] ++
      (List.range 128).map (fun i => dep (0x8D0 + 4 * i) 4 fun _ v => v != 0) ++ [anyOf 0xAD0 512] ++
      (List.range 128).map (fun i => dep (0xCD0 + 4 * i) 4 fun _ v => v != 0)
  | 0x08 => [anyOf 0 2] ++ (List.range 8).map (fun i => anyOf (2 + 2 * i) 2) ++
      [rng 0x12 2 1 65535, dep 0x14 2 (fun r v => decide (1 ≤ v) && decide (v ≤ leAt r 0x12 2)), rng 0x16 2 1 60,
       dep 0x18 4 (fun _ v => v != 0), dep 0x1C 4 (fun _ v => v != 0)]
  | 0x09 => [rng 0 1 0 63, rng 1 1 0 1, rng 2 1 0 1, rng 3 1 0 31, anyOf 4 4, dep 8 4 (fun _ v => v != 0),
      dep 12 4 (fun r v => if byteAt r 2 == 1 then decide (1 ≤ v / 2 ^ 24) && decide (v / 2 ^ 24 ≤ 4) else v == 0),
      anyOf 16 2,
      dep 18 1 (fun r v => v == 0xFF || (if byteAt r 1 == 0 then decide (v ≤ 1) else decide (v ≤ 3)))]
  | 0x0B => [anyOf 0 4, anyOf 4 4, rng 8 4 1 12582912, anyOf 12 2]
  | 0x0D => [rng 0 2 0 511, rng 2 1 0 63, dep 3 1 (fun _ v => decide (v < 16) && decide (v / 4 ≤ 2)),
      rng 4 4 1000 10000000, dep 8 2 (fun _ v => decide (v ≤ 511) || v == 0xFFFF), rng 10 2 1 1024,
      dep 12 4 (fun _ v => f32Finite v), dep 16 4 (fun _ v => f32NonNeg v), dep 20 4 (fun _ v => f32NonNeg v),
      dep 24 4 (fun _ v => f32Finite v), dep 28 4 (fun r v => f32Finite v && f32Lt (leAt r 24 4) v),
      dep 32 4 (fun _ v => f32Pos v), anyOf 36 4, anyOf 40 4]
  | 0x0E => [rng 0 1 0 2,
      dep 2 2 (fun r v => match byteAt r 0 with | 0 => decide (v ≤ 255) | 1 => decide (v ≤ 127) | _ => decide (v ≤ 63)),
      dep 4 2 (fun r v => if byteAt r 0 == 0 then decide (1 ≤ v) && decide (v ≤ 1023) else v == 0),
      dep 6 1 (fun r v => if byteAt r 0 == 1 then (v == 1 || v == 2 || v == 4) && leAt r 2 2 % v == 0 else v == 0),
      dep 7 1 (fun r v => if byteAt r 0 == 2 then decide (v ≤ 2) else v == 0),
      dep 8 2 (fun r v => match byteAt r 0 with
        | 0 => v == 0
        | 1 => decide (v ≤ 1)
        | _ => decide (3600 ≤ v) && decide (v ≤ 21000)),
      dep 10 1 (fun r v => if byteAt r 0 == 2 then decide (v ≤ 2) else v == 0),
      dep 11 1 (fun r v => if byteAt r 0 == 2 then decide (v ≤ 1) else v == 0),
      dep 12 1 (fun r v => if byteAt r 0 == 0 then decide (v ≤ 3) else v == 0),
      dep 13 1 (fun r v => byteAt r 10 == 2 || v == 0)]
  | 0x0F => [rng 0 1 0 15, rng 1 1 0 3, rng 2 2 10 1000,
      dep 4 2 (fun r v => decide (leAt r 2 2 ≤ v) && decide (v ≤ 8000)), rng 6 1 50 90, rng 7 1 50 90, rng 8 2 1 100,
      rng 10 1 0 1, rng 11 1 0 64, anyOf 12 24, anyOf 0x80 512]
  | 0x10 => [dep 0 1 (fun _ v => (List.range 4).all fun i => v / 4 ^ i % 4 == 0 || v / 4 ^ i % 4 == 3),
      dep 1 1 (fun _ v => (List.range 4).all fun i => v / 4 ^ i % 4 == 0 || v / 4 ^ i % 4 == 3), rng 2 1 0 1, rng 3 1 0 1,
      dep 4 2 (fun _ v => v % 256 != v / 256), anyOf 8 4, rng 12 1 8 30, anyOf 16 16, anyOf 0x20 4,
      dep 0x24 4 (fun _ v => decide (v < 65536) && v / 4096 % 2 == 0), anyOf 0x28 2, anyOf 0x2A 2, rng 0x2C 4 0 10000000,
      rng 0x30 2 1 64, anyOf 0x34 16]
  | 0x11 => [rng 0 1 1 32, rng 1 1 0 2, rng 2 1 0 4, rng 4 4 1 256000, anyOf 8 2, rng 10 2 0 40]
  | 0x12 => [rng 0 4 0 1048575, dep 4 4 (fun r v => decide (1 ≤ v) && decide (leAt r 0 4 + v ≤ 1048576)), rng 8 2 1 65535,
      rng 10 1 1 64, dep 11 1 (fun _ v => v % 128 < 4)]
  | 0x13 => [rng 0 2 16 4096, rng 2 2 16 4096, rng 4 2 16 4096, rng 6 2 16 4096]
  | 0x14 => (List.range 33).flatMap fun i =>
      [dep (4 * i) 2 (fun r v => decide (v ≤ 10000) && (i == 0 || decide (leAt r (4 * (i - 1)) 2 < v))),
       rng (4 * i + 2) 2 0 10000]
  | 0x15 => match byteAt r 0 with
      | 1 => [rng 0 1 1 1, rng 1 1 0 31, anyOf 4 4]
      | 2 => [rng 0 1 2 2, rng 2 2 0 255, dep 4 4 (fun _ v => v != 0), dep 8 4 (fun _ v => v != 0), anyOf 12 2,
          anyOf 14 2, anyOf 16 2, anyOf 18 2, rng 20 1 0 2, rng 21 1 0 31, anyOf 24 4]
      | 3 => [rng 0 1 3 3, rng 2 1 0 31, rng 3 1 0 1, rng 4 2 1 500]
      | _ => [rng 0 1 4 4, rng 2 1 0 31, rng 3 1 0 1, rng 4 2 100 1000, rng 6 2 10 1000]
  | _ => []

/-- The first field of a record out of range, reserved bytes between fields included (R45); `pos` is the next byte
not yet covered. -/
def badField (r : List Byte) : List FieldCheck → Nat → Option Nat
  | [], pos => ((List.range (r.length - pos)).find? fun i => byteAt r (pos + i) != 0).map (pos + ·)
  | (off, size, ok) :: t, pos =>
    match (List.range (off - pos)).find? (fun i => byteAt r (pos + i) != 0) with
    | some i => some (pos + i)
    | none => if ok r (leAt r off size) then badField r t (off + size) else some off

/-- The upper field of the first threshold pair out of order (R51): voltage, then temperature, from the low end. -/
def thresholdOrder (r : List Byte) : Option Nat :=
  let v (o : Nat) := leAt r o 2
  let t (o : Nat) := signedOf 16 (leAt r o 2)
  if v 0x06 ≤ v 0x08 then some 0x06
  else if v 0x02 ≤ v 0x06 then some 0x02
  else if v 0x04 ≤ v 0x02 then some 0x04
  else if t 0x0E ≤ t 0x10 then some 0x0E
  else if t 0x0A ≤ t 0x0E then some 0x0A
  else if t 0x0C ≤ t 0x0A then some 0x0C
  else none

/-- The first field of the records of one section out of range. -/
def badRecord (ty : Nat) : List (List Byte) → Nat → Option Reject
  | [], _ => none
  | r :: t, i =>
    match badField r (fieldChecks ty r) 0 with
    | some off => some ⟨0x11, ty, off, i⟩
    | none =>
      match (if ty == 8 then thresholdOrder r else none) with
      | some off => some ⟨0x11, ty, off, i⟩
      | none => badRecord ty t (i + 1)

/-- Step 8, ranges, reserved zero and orderings, section by section in ascending type. CODE and INITIAL hold no
ranged field but CODE's own, checked at step 12. Task periods depend on PROT_PERIOD (R52). -/
def checkRanges (b : List Byte) : Option Reject :=
  let secs := (secTable b).filterMap fun e => if e.type == 0x0A || e.type == 0x0C then none else some e.type
  match secs.findSome? (fun ty => badRecord ty (recsOf b ty) 0) with
  | some r => some r
  | none =>
    let prot := leAt ((recsOf b 1).headD []) 4 2
    let bad (r : List Byte) : Bool :=
      let p := leAt r 4 4
      if byteAt r 1 == 0 then p % prot != 0 || p / prot < 1 || 1000 < p / prot else p < 1000 || 10000000 < p
    ((recsOf b 9).findIdx? bad).map fun i => ⟨0x11, 9, 4, i⟩

/-! ### Decoding records -/

/-- The set bits of a bitmap, ascending. -/
def bitList (n width : Nat) : List Nat := (List.range width).filter fun i => n / 2 ^ i % 2 == 1

def decString (r : List Byte) : StringRec :=
  { string := leAt r 0 2, cells := leAt r 2 2, chem := byteAt r 4, scanHz := byteAt r 5, estHz := byteAt r 6,
    filter := byteAt r 7, ratedCap := leAt r 8 4, fastHz := byteAt r 12, balance := byteAt r 13 == 1 }

def decRing (r : List Byte) : RingRec :=
  { string := leAt r 0 2, nodes := byteAt r 2, hostLoss := leAt r 4 2, fibreM := leAt r 6 2, segMaxM := leAt r 8 2,
    asymW := signedOf 16 (leAt r 10 2), asymE := signedOf 16 (leAt r 12 2), txnTimeout := leAt r 16 4 }

def decNode (r : List Byte) : NodeRec :=
  { string := leAt r 0 2, p := byteAt r 2, kind := byteAt r 3, firstCell := leAt r 4 2, cells := byteAt r 6,
    temps := byteAt r 7, auxType := byteAt r 8, serial := leAt r 12 4 }

def decGroup (r : List Byte) : GroupRec := { group := byteAt r 0, members := bitList (leAt r 8 32) 256 }

def tab16 (r : List Byte) (off n : Nat) : List Nat := (List.range n).map fun i => leAt r (off + 2 * i) 2

def tab32 (r : List Byte) (off n : Nat) : List Nat := (List.range n).map fun i => leAt r (off + 4 * i) 4

def decChem (r : List Byte) : ChemRec :=
  { profile := byteAt r 0, qSoc := w32 (leAt r 4 4), qRc := w32 (leAt r 8 4), rMeas := w32 (leAt r 12 4),
    p0Soc := w32 (leAt r 16 4), p0Rc := w32 (leAt r 20 4), socOcv := tab16 r 0x20 64,
    temp := (tab16 r 0xA0 8).map (signedOf 16), ocv := tab16 r 0xB0 512, socRc := tab16 r 0x4B0 16,
    rsTab := tab32 r 0x4D0 128, raTab := tab32 r 0x6D0 128, caTab := tab32 r 0x8D0 128, rbTab := tab32 r 0xAD0 128,
    cbTab := tab32 r 0xCD0 128 }

def decThresh (r : List Byte) : ThreshRec :=
  { string := leAt r 0 2, vWarnHi := leAt r 2 2, vAlarmHi := leAt r 4 2, vWarnLo := leAt r 6 2, vAlarmLo := leAt r 8 2,
    tWarnHi := signedOf 16 (leAt r 10 2), tAlarmHi := signedOf 16 (leAt r 12 2), tWarnLo := signedOf 16 (leAt r 14 2),
    tAlarmLo := signedOf 16 (leAt r 16 2), ror10 := leAt r 0x12 2, ror60 := leAt r 0x14 2, grace := leAt r 0x16 2,
    iChgMax := leAt r 0x18 4, iDisMax := leAt r 0x1C 4 }

def decTask (r : List Byte) : TaskRec :=
  { task := byteAt r 0, cls := byteAt r 1, kind := byteAt r 2, priority := byteAt r 3, period := leAt r 4 4,
    wcet := leAt r 8 4, eventSrc := leAt r 12 4, codeIndex := leAt r 16 2, core := byteAt r 18 }

def decCode (r : List Byte) : CodeRec :=
  { isa := leAt r 4 2, entry := leAt r 8 4, imageCrc := leAt r 12 4, image := r.drop 16 }

def decRetained (r : List Byte) : RetainedRec :=
  { var := leAt r 0 4, offset := leAt r 4 4, size := leAt r 8 4, type := leAt r 12 2 }

def decLoop (r : List Byte) : LoopRec :=
  { slot := leAt r 0 2, task := byteAt r 2, reverse := byteAt r 3 % 2 == 1, dOnMeas := byteAt r 3 / 2 % 2 == 1,
    cascade := byteAt r 3 / 4, period := leAt r 4 4, outer := leAt r 8 2, cascadeN := leAt r 10 2,
    kp := w32 (leAt r 12 4), ti := w32 (leAt r 16 4), td := w32 (leAt r 20 4), outMin := w32 (leAt r 24 4),
    outMax := w32 (leAt r 28 4), ramp := w32 (leAt r 32 4), pvSrc := leAt r 36 4, outDst := leAt r 40 4 }

def decField (r : List Byte) : FieldRec :=
  { cls := byteAt r 0, channel := leAt r 2 2, filterN := leAt r 4 2, parallel := byteAt r 6, aoMode := byteAt r 7,
    stopValue := leAt r 8 2, aoChar := byteAt r 10, fsk := byteAt r 11 == 1, wake := byteAt r 12, curve := byteAt r 13 }

def decCurve (r : List Byte) : List (Nat × Nat) :=
  (List.range 33).map fun i => (leAt r (4 * i) 2, leAt r (4 * i + 2) 2)

def decCan (r : List Byte) : CanRec :=
  { bus := byteAt r 0, fd := byteAt r 1 % 2 == 1, brs := byteAt r 1 / 2 % 2 == 1, nominal := leAt r 2 2,
    data := leAt r 4 2, sampleNom := byteAt r 6, sampleData := byteAt r 7, wakeFilter := leAt r 8 2,
    wakeMode := byteAt r 10, wakeId := leAt r 12 4, wakeMask := leAt r 16 4, wakeData := sliceOf r 20 8,
    wakeDmask := sliceOf r 28 8,
    filters := (List.range (byteAt r 11)).map fun i => ⟨leAt r (0x80 + 8 * i) 4, leAt r (0x84 + 8 * i) 4⟩ }

def decNetwork (r : List Byte) : NetworkRec :=
  { ports := byteAt r 0, speed := byteAt r 1, ptpMode := byteAt r 2, ptpStep := byteAt r 3, domPrimary := byteAt r 4,
    domSecondary := byteAt r 5, ipv4 := leAt r 8 4, prefixLen := byteAt r 12, ipv6 := sliceOf r 16 16,
    gateway := leAt r 0x20 4, vlan := leAt r 0x24 4, exchPort := leAt r 0x28 2, modbusPort := leAt r 0x2A 2,
    reqDeadline := leAt r 0x2C 4, sessions := leAt r 0x30 2, ptpAsym := (tab16 r 0x34 8).map (signedOf 16) }

def decArchive (r : List Byte) : ArchiveRec :=
  { nsid := byteAt r 0, port := byteAt r 1, content := byteAt r 2, sizeGb := leAt r 4 4, interval := leAt r 8 2,
    retention := leAt r 10 2 }

def decRingAlloc (r : List Byte) : RingAllocRec :=
  { first := leAt r 0 4, count := leAt r 4 4, depth := leAt r 8 2, entry := byteAt r 10, cls := byteAt r 11 % 4,
    pin := byteAt r 11 / 128 == 1 }

def decSafetyString (r : List Byte) (i : Nat) : SafetyString :=
  { index := i, string := leAt r 2 2, iChgMax := leAt r 4 4, iDisMax := leAt r 8 4, vMin := leAt r 12 2, vMax := leAt r 14 2,
    tMin := signedOf 16 (leAt r 16 2), tMax := signedOf 16 (leAt r 18 2), direction := byteAt r 20, reset := byteAt r 21,
    outputs := leAt r 24 4 }

/-- Σ over the records of a list. -/
def sumBy {α : Type} (f : α → Nat) (l : List α) : Nat := (l.map f).sum

/-- Σ WCET / PERIOD of a list of tasks over a common denominator. -/
def loadOver (prod : Nat) (ts : List TaskRec) : Nat := sumBy (fun t => t.wcet * (prod / t.period)) ts

/-- The core pair of a class with the lowest load so far, the lower one of equals (R360). -/
def lowestCore (prod cls cores : Nat) (ts : List TaskRec) : Nat :=
  (List.range cores).foldl (fun b k =>
    if loadOver prod (ts.filter fun t => t.cls == cls && t.core == k) < loadOver prod (ts.filter fun t => t.cls == cls && t.core == b)
    then k else b) 0

/-- Insertion by TASK number. -/
def insertTask (x : TaskRec) : List TaskRec → List TaskRec
  | [] => [x]
  | y :: t => if x.task < y.task then x :: y :: t else y :: insertTask x t

/-- The tasks with every CORE 0xFF placed by R360. -/
def placeTasks (ts : List TaskRec) : List TaskRec :=
  let prod := (ts.map fun t => max 1 t.period).foldl (· * ·) 1
  let free := (ts.filter fun t => t.core == 0xFF).foldl (fun l t => insertTask t l) []
  free.foldl (fun l t =>
    let k := lowestCore prod t.cls (if t.cls = 0 then 2 else 4) l
    l.map fun x => if x.task = t.task then { x with core := k } else x) ts

/-- Every section of an image, decoded. Only the result for an image that passed R63 is put in force. -/
def decodeCatalogue (b : List Byte) : Catalogue :=
  let one (ty : Nat) := (recsOf b ty).headD []
  let saf := recsOf b 0x15
  let m := one 1
  let rd := one 2
  let vi := one 0x13
  let g := (saf.find? fun r => byteAt r 0 == 1).getD []
  let safEnd := match findSec (secTable b) 0x15 with | some e => e.offset + e.recCount * 64 | none => 0
  { head := { catalogueId := leAt b 0x10 8, revision := leAt b 0x18 4, imageLength := leAt b 0x1C 4,
              buildTime := leAt b 0x20 8, minFw := leAt b 0xC 4, structDigest := digestAt b 0x30,
              retainDigest := digestAt b 0x60, imageDigest := digestAt b (trailerAt b + 0x10),
              safetyCrc := leAt b (safEnd + 4) 4
              progDigest := Config.sha384 ([9, 0xA, 0xB, 0xC, 0xD].flatMap fun ty =>
                match findSec (secTable b) ty with | some e => secBytes b e | none => []) }
    module_ := { autoRun := byteAt m 0 == 1, startKind := byteAt m 1, partnerWait := leAt m 2 2,
                 protPeriod := leAt m 4 2, moduleGrace := leAt m 6 2 }
    redundancy := { role := byteAt rd 0, healthMin := byteAt rd 1, hbTimeout := leAt rd 2 2, pairIndex := byteAt rd 4,
                    workers := byteAt rd 5, dispatchHold := leAt rd 8 4, hierTimeout := leAt rd 12 4 }
    vitrine := { prot := leAt vi 0 2, plant := leAt vi 2 2, host := leAt vi 4 2, arch := leAt vi 6 2 }
    strings := (recsOf b 3).map decString
    rings := (recsOf b 4).map decRing
    nodes := (recsOf b 5).map decNode
    groups := (recsOf b 6).map decGroup
    chems := (recsOf b 7).map decChem
    thresholds := (recsOf b 8).map decThresh
    tasks := placeTasks ((recsOf b 9).map decTask)
    codes := (recsOf b 0xA).map decCode
    retained := (recsOf b 0xB).map decRetained
    initial := ((recsOf b 0xC).headD []).drop 4
    loops := (recsOf b 0xD).map decLoop
    fieldIo := (recsOf b 0xE).map decField
    can := (recsOf b 0xF).map decCan
    network := decNetwork (one 0x10)
    archive := (recsOf b 0x11).map decArchive
    ringAlloc := (recsOf b 0x12).map decRingAlloc
    curves := (recsOf b 0x14).map decCurve
    safetyGlobal := { lockoutReset := byteAt g 1, tripInputs := leAt g 4 4 }
    safetyStrings := (saf.zipIdx.filter fun x => byteAt x.1 0 == 2).map fun x => decSafetyString x.1 x.2
    safetySi := (saf.filter fun r => byteAt r 0 == 3).map fun r =>
      { channel := byteAt r 2, test := byteAt r 3 == 1, discrepancy := leAt r 4 2 }
    safetySq := (saf.filter fun r => byteAt r 0 == 4).map fun r =>
      { channel := byteAt r 2, test := byteAt r 3 == 1, pulse := leAt r 4 2, pulsePeriod := leAt r 6 2 }
    hasRetained := (findSec (secTable b) 0x0B).isSome }

/-! ### Steps 9 to 13 over the decoded records -/

/-- A string is configured. -/
def Catalogue.hasString (c : Catalogue) (s : Nat) : Bool := c.strings.any fun r => r.string == s

/-- The record of a string. -/
def Catalogue.stringRec (c : Catalogue) (s : Nat) : Option StringRec := c.strings.find? fun r => r.string == s

/-- The RINGS record of a string. -/
def Catalogue.ringRec (c : Catalogue) (s : Nat) : Option RingRec := c.rings.find? fun r => r.string == s

/-- The NODES records of a string. -/
def Catalogue.nodesOf (c : Catalogue) (s : Nat) : List NodeRec := c.nodes.filter fun r => r.string == s

/-- The NODES record at a position. -/
def Catalogue.nodeRec (c : Catalogue) (s p : Nat) : Option NodeRec := c.nodes.find? fun r => r.string == s && r.p == p

/-- The THRESHOLDS record in force for a string (R50): its own, otherwise the default. -/
def Catalogue.thresh (c : Catalogue) (s : Nat) : Option ThreshRec :=
  match c.thresholds.find? (fun r => r.string == s) with
  | some r => some r
  | none => c.thresholds.find? fun r => r.string == 0xFFFF

/-- The record of a task. -/
def Catalogue.taskRec (c : Catalogue) (t : Nat) : Option TaskRec := c.tasks.find? fun r => r.task == t

/-- The record of a loop slot. -/
def Catalogue.loopRec (c : Catalogue) (i : Nat) : Option LoopRec := c.loops.find? fun r => r.slot == i

/-- The index of the first element that fails a test, as a rejection. -/
def rejectAt {α : Type} (code ty off : Nat) (bad : α → Bool) (l : List α) : Option Reject :=
  (l.findIdx? bad).map fun i => ⟨code, ty, off, i⟩

/-- The first of several checks to fail. -/
def firstReject (l : List (Option Reject)) : Option Reject := l.findSome? id

/-- Whether following OUTER from a slot returns to it within `fuel` steps (R53: cascades form no cycle). -/
def cascadeLoops (c : Catalogue) : Nat → Nat → Nat → Bool
  | 0, _, _ => true
  | k + 1, start, cur =>
    match c.loopRec cur with
    | none => false
    | some r => if r.outer == 0xFFFF then false else r.outer == start || cascadeLoops c k start r.outer

/-- Whether a loop's OUTER, CASCADE_N, PERIOD, PV_SRC and OUT_DST agree with what they name (R52, R53, R401). -/
def loopRefOk (c : Catalogue) (r : LoopRec) : Bool :=
  (match c.taskRec r.task with
   | none => false
   | some t => t.period != 0 && r.period % t.period == 0) &&
  (if r.cascade == 1 then
     match c.loopRec r.outer with
     | none => false
     | some o => o.cascade == 2 && o.period == r.cascadeN * r.period && o.task == r.task
   else r.outer == 0xFFFF) && !cascadeLoops c 513 r.slot r.slot &&
  (r.pvSrc == 0 || (match objDefAt r.pvSrc with | some d => d.acc != .wo | none => false)) &&
  (r.outDst == 0 || (r.cascade != 2 && taskWritable r.outDst)) &&
  (r.cascade != 2 || (c.loops.filter fun q => q.cascade == 1 && q.outer == r.slot).length == 1)

/-- Whether an event task's source is configured (R52, R365). -/
def eventSrcOk (c : Catalogue) (r : TaskRec) : Bool :=
  let i := r.eventSrc % 2 ^ 24
  r.kind == 0 || (match r.eventSrc / 2 ^ 24 with
    | 1 => c.fieldIo.any fun f => f.cls == 0 && f.channel == i % 256
    | 2 => c.can.any fun b => b.bus == i / 2 % 16
    | 3 => decide (i < 512)
    | _ => (c.loopRec i).isSome)

/-- A record for a DO channel that is a later member of another record's gang (R432). -/
def gangMember (c : Catalogue) (r : FieldRec) : Bool :=
  r.cls == 1 && c.fieldIo.any fun g => g.cls == 1 && decide (g.channel < r.channel) && decide (r.channel < g.channel + g.parallel)

/-- Step 8, the ranges that look at more than one record or at derived figures (R362, R464, R475). -/
def checkDerived (c : Catalogue) : Option Reject :=
  firstReject
    [rejectAt 0x11 9 4 (fun (t : TaskRec) => t.kind == 0 &&
       (c.module_.protPeriod == 0 || t.period % c.module_.protPeriod != 0 ||
        (t.cls == 0 && !(decide (1 ≤ t.period / c.module_.protPeriod) && decide (t.period / c.module_.protPeriod ≤ 1000))) ||
        (t.cls == 1 && !(decide (1000 ≤ t.period) && decide (t.period ≤ 10000000))))) c.tasks,
     rejectAt 0x11 15 2 (fun (r : CanRec) => r.nominal == 0 || 80000 % r.nominal != 0) c.can,
     rejectAt 0x11 15 4 (fun (r : CanRec) => r.data == 0 || 80000 % r.data != 0) c.can,
     rejectAt 0x11 15 10 (fun (r : CanRec) => r.wakeMode == 1 && !(decide (125 ≤ r.nominal) && decide (r.nominal ≤ 1000))) c.can]

/-- Step 9, references between records and sections. -/
def checkRefs (c : Catalogue) : Option Reject :=
  firstReject
    [rejectAt 0x12 3 4 (fun (r : StringRec) => !c.chems.any fun k => k.profile == r.chem) c.strings,
     rejectAt 0x12 4 0 (fun (r : RingRec) => !c.hasString r.string) c.rings,
     rejectAt 0x12 5 0 (fun (r : NodeRec) => !c.hasString r.string) c.nodes,
     rejectAt 0x12 6 8 (fun (r : GroupRec) => !r.members.all c.hasString) c.groups,
     rejectAt 0x12 8 0 (fun (r : ThreshRec) => r.string != 0xFFFF && !c.hasString r.string) c.thresholds,
     rejectAt 0x12 9 12 (fun r => !eventSrcOk c r) c.tasks,
     rejectAt 0x12 9 16 (fun (r : TaskRec) => decide (c.codes.length ≤ r.codeIndex)) c.tasks,
     rejectAt 0x12 13 2 (fun r => !loopRefOk c r) c.loops,
     c.fieldIo.zipIdx.findSome? fun (r, i) => if gangMember c r then some ⟨0x12, 14, 2, i⟩ else none,
     rejectAt 0x12 14 13 (fun (r : FieldRec) => r.aoChar == 2 && decide (c.curves.length ≤ r.curve)) c.fieldIo,
     (c.safetyStrings.find? fun r => !c.hasString r.string).map fun r => ⟨0x12, 0x15, 2, r.index⟩,
     rejectAt 0x12 3 0 (fun (r : StringRec) => !c.safetyStrings.any fun k => k.string == r.string) c.strings]

/-- How often a cell position of a string is covered by TN16 ranges. -/
def coverCount (ns : List NodeRec) (pos : Nat) : Nat :=
  (ns.filter fun n => n.kind == 0 && decide (n.firstCell ≤ pos) && decide (pos < n.firstCell + n.cells)).length

/-- Step 9, cell coverage (R48). -/
def checkCoverage (c : Catalogue) : Option Reject :=
  c.strings.findSome? fun s =>
    let ns := c.nodesOf s.string
    let whole := (List.range s.cells).all (fun i => coverCount ns i == 1) &&
      ns.all fun n => n.kind != 0 || decide (n.firstCell + n.cells ≤ s.cells)
    if whole then none
    else some ⟨0x13, 5, 4, (c.nodes.findIdx? fun n => n.string == s.string && n.kind == 0).getD 0⟩

/-- Step 9, positions, node counts and fibre figures (R48). -/
def checkRings (c : Catalogue) : Option Reject :=
  let dupAt (i : Nat) (n : NodeRec) : Bool := (c.nodes.take i).any fun m => m.string == n.string && m.p == n.p
  let overKind (i : Nat) (n : NodeRec) : Bool :=
    let same := ((c.nodes.take (i + 1)).filter fun m => m.string == n.string && m.kind == n.kind).length
    decide ((match n.kind with | 0 => 32 | 1 => 1 | _ => 7) < same)
  firstReject
    [c.nodes.zipIdx.findSome? fun (n, i) =>
       if (match c.ringRec n.string with | some r => decide (r.nodes < n.p) | none => true) || dupAt i n
         then some ⟨0x14, 5, 2, i⟩
       else if overKind i n then some ⟨0x14, 5, 3, i⟩ else none,
     c.rings.zipIdx.findSome? fun (r, i) =>
       if (List.range r.nodes).all (fun k => (c.nodeRec r.string (k + 1)).isSome) = false then some ⟨0x14, 4, 2, i⟩
       else if r.fibreM < r.segMaxM then some ⟨0x14, 4, 8, i⟩ else none]

/-- The largest TXN_TIMEOUT of the rings. -/
def Catalogue.maxTxn (c : Catalogue) : Nat := (c.rings.map RingRec.txnTimeout).foldl max 0

/-- Step 10: the deadline nesting of R62. -/
def checkDeadlines (c : Catalogue) : Option Reject :=
  firstReject
    [rejectAt 0x15 4 0x10 (fun (r : RingRec) => decide (r.txnTimeout ≤ 1250)) c.rings,
     if c.network.reqDeadline ≤ c.maxTxn + 1000 then some ⟨0x15, 0x10, 0x2C, 0⟩ else none,
     if c.redundancy.role = 2 ∧ c.redundancy.hierTimeout ≤ c.network.reqDeadline + 1000 then some ⟨0x15, 2, 0xC, 0⟩
       else none]

/-- Whether two RINGALLOC ranges overlap. -/
def allocOverlap (a b : RingAllocRec) : Bool := decide (a.first < b.first + b.count) && decide (b.first < a.first + a.count)

/-- The load of one core in parts per 10^6 of its time: Σ WCET / PERIOD (R53). The protection bound
Σ WCET × PROT_PERIOD / PERIOD ≤ 0.75 × PROT_PERIOD is the same sum against 0.75. Exact, over the product of periods. -/
def coreLoadWithin (ts : List TaskRec) (num den : Nat) : Bool :=
  let prod := (ts.map TaskRec.period).foldl (· * ·) 1
  decide (sumBy (fun t => t.wcet * (prod / t.period)) ts * den ≤ num * prod)

/-- Step 11: pins and floors, naming the VITRINE section or the RINGALLOC record that exceeds the sum (R542), then the ring region, retained area, INITIAL and Archive sizes, then task load
(R53, R55, R57), with tasks of CORE 0xFF placed by R360. -/
def checkResources (c : Catalogue) (initLen : Nat) : Option Reject :=
  let pinsTo (i : Nat) : Nat := sumBy RingAllocRec.count ((c.ringAlloc.take (i + 1)).filter RingAllocRec.pin)
  let floors := c.vitrine.prot + c.vitrine.plant + c.vitrine.host + c.vitrine.arch
  let retBad (i : Nat) (r : RetainedRec) : Bool :=
    decide (12582912 < r.offset + r.size) ||
    (c.retained.take i).any fun q => decide (q.offset < r.offset + r.size) && decide (r.offset < q.offset + q.size)
  let core (cls k : Nat) := c.tasks.filter fun t => t.cls == cls && t.core == k
  firstReject
    [if 4096 < floors then some ⟨0x16, 0x13, 0, 0⟩ else none,
     ((List.range c.ringAlloc.length).find? fun i => decide (2048 < pinsTo i ∨ 4096 < pinsTo i + floors)).map fun i => ⟨0x16, 0x12, 0xB, i⟩,
     c.ringAlloc.zipIdx.findSome? fun (r, i) =>
       if (c.ringAlloc.take i).any (allocOverlap r) then some ⟨0x17, 0x12, 0, i⟩ else none,
     if 17179869184 < sumBy (fun r => r.count * r.depth * r.entry * 8) c.ringAlloc then some ⟨0x17, 0x12, 4, 0⟩ else none,
     c.retained.zipIdx.findSome? fun (r, i) => if retBad i r then some ⟨0x17, 0x0B, 4, i⟩ else none,
     if 4194304 < initLen then some ⟨0x17, 0x0C, 0, 0⟩ else none,
     if 256000 < sumBy (fun r => r.sizeGb * (if r.port == 2 then 2 else 1)) c.archive then some ⟨0x17, 0x11, 4, 0⟩ else none,
     if ((List.range 2).all fun k => coreLoadWithin (core 0 k) 75 100) &&
        ((List.range 4).all fun k => coreLoadWithin (core 1 k) 90 100) then none else some ⟨0x18, 9, 8, 0⟩]

/-- Step 12: CODE ISA and IMAGE_CRC (R52). -/
def checkCode (c : Catalogue) (isa : Nat) : Option Reject :=
  c.codes.zipIdx.findSome? fun (r, i) =>
    if isa < r.isa then some ⟨0x19, 0xA, 4, i⟩
    else if r.imageCrc ≠ crc32c r.image then some ⟨0x19, 0xA, 0xC, i⟩ else none

/-- Step 13: every protection alarm strictly inside its string's safety window (R60). -/
def checkSafetyOrder (c : Catalogue) : Option Reject :=
  c.safetyStrings.findSome? fun s =>
    let i := s.index
    match c.thresh s.string with
    | none => none
    | some t =>
      if t.iChgMax ≥ s.iChgMax then some ⟨0x1A, 0x15, 4, i⟩
      else if t.iDisMax ≥ s.iDisMax then some ⟨0x1A, 0x15, 8, i⟩
      else if s.vMin ≥ t.vAlarmLo then some ⟨0x1A, 0x15, 12, i⟩
      else if t.vAlarmHi ≥ s.vMax then some ⟨0x1A, 0x15, 14, i⟩
      else if s.tMin ≥ t.tAlarmLo then some ⟨0x1A, 0x15, 16, i⟩
      else if t.tAlarmHi ≥ s.tMax then some ⟨0x1A, 0x15, 18, i⟩ else none

/-- What the checks need beside the image: the running firmware's version and ISA, and the keys of slots 4 and 5. -/
structure CheckEnv where
  fw : Nat
  isa : Nat
  catKey : Option (List Byte)
  safetyKey : Option (List Byte)
  deriving DecidableEq, Repr

/-- The image check of R63: the first failure, or none for a valid image. -/
def validateImage (env : CheckEnv) (b : List Byte) : Option Reject :=
  let c := decodeCatalogue b
  firstReject
    [checkHeader b, checkDevice b env.fw, checkTable b, checkDigests b, checkSignature b env.catKey,
     checkSafetySig b env.safetyKey, checkSections b, checkCounts b, checkUnique b, checkRanges b, checkDerived c, checkRefs c,
     checkCoverage c, checkRings c, checkDeadlines c, checkResources c ((recsOf b 0xC).headD []).length,
     checkCode c env.isa, checkSafetyOrder c]

end Sys2Proof.Machine
end

