-- ==== Sys2Proof/Machine/B32.lean ====
section
/-!
DEFINITION. IEEE 754 binary32 as the estimation array and the loop engine compute it: round to nearest even, subnormal
results flushed to zero (R234), evaluated exactly on integers and rounded once per operation. The exponential and the
square root return a value within 1 ulp (R235).
-/

namespace Sys2Proof.Machine.B32

/-- Quiet not-a-number. -/
def nan : Word := 0x7FC00000

/-- The biased exponent field. -/
def expo (w : Word) : Nat := w.toNat / 2 ^ 23 % 256

/-- The fraction field. -/
def frac (w : Word) : Nat := w.toNat % 2 ^ 23

/-- The sign bit. -/
def neg (w : Word) : Bool := decide (2 ^ 31 ≤ w.toNat)

def isNan (w : Word) : Bool := expo w == 255 && frac w != 0
def isInf (w : Word) : Bool := expo w == 255 && frac w == 0
/-- Zero, or a subnormal taken as zero. -/
def isZero (w : Word) : Bool := expo w == 0
def finite (w : Word) : Bool := expo w != 255

/-- The magnitude of a finite value as a mantissa and a power of two. -/
def mant (w : Word) : Nat := if expo w = 0 then 0 else 2 ^ 23 + frac w
def pow (w : Word) : Int := (expo w : Int) - 150

/-- The signed zero, infinity. -/
def zero (s : Bool) : Word := if s then 0x80000000 else 0
def inf (s : Bool) : Word := if s then 0xFF800000 else 0x7F800000

/-- Rounds the value n × 2^e (a little more where `sticky`) to nearest even; subnormal results become zero, results
beyond the range infinity. With `sticky` set n carries at least 25 bits. -/
def round (s : Bool) (n : Nat) (e : Int) (sticky : Bool) : Word :=
  if n = 0 then zero s
  else
    let l := Nat.log2 n + 1
    let (q, e) :=
      if l ≤ 24 then (n * 2 ^ (24 - l), e - ((24 - l : Nat) : Int))
      else
        let k := l - 24
        let q := n / 2 ^ k
        let r := n % 2 ^ k
        let half := 2 ^ (k - 1)
        let up := decide (half < r) || (r == half && (sticky || q % 2 == 1))
        (if up then q + 1 else q, e + (k : Nat))
    let (q, e) := if q = 2 ^ 24 then (2 ^ 23, e + 1) else (q, e)
    let b := e + 150
    if b ≤ 0 then zero s
    else if 255 ≤ b then inf s
    else w32 (s.toNat * 2 ^ 31 + b.toNat * 2 ^ 23 + (q - 2 ^ 23))

/-- The sum of two signed multiples of powers of two, rounded. -/
def ofDyadic (m : Int) (e : Int) : Word := round (decide (m < 0)) m.natAbs e false

/-- A finite value as a signed integer times a power of two. -/
def signedMant (w : Word) : Int := if neg w then -(mant w : Int) else mant w

def flip (w : Word) : Word := w ^^^ 0x80000000
def abs (w : Word) : Word := w &&& 0x7FFFFFFF

def add (a b : Word) : Word :=
  if isNan a || isNan b then nan
  else if isInf a then (if isInf b && neg a != neg b then nan else a)
  else if isInf b then b
  else
    let e := min (pow a) (pow b)
    let m := signedMant a * 2 ^ (pow a - e).toNat + signedMant b * 2 ^ (pow b - e).toNat
    if m = 0 then zero (neg a && neg b) else ofDyadic m e

def sub (a b : Word) : Word := add a (flip b)

def mul (a b : Word) : Word :=
  let s := neg a != neg b
  if isNan a || isNan b then nan
  else if isInf a || isInf b then (if isZero a || isZero b then nan else inf s)
  else round s (mant a * mant b) (pow a + pow b) false

def div (a b : Word) : Word :=
  let s := neg a != neg b
  if isNan a || isNan b then nan
  else if isInf a then (if isInf b then nan else inf s)
  else if isInf b then zero s
  else if isZero b then (if isZero a then nan else inf s)
  else
    let n := mant a * 2 ^ 64
    round s (n / mant b) (pow a - pow b - 64) (n % mant b != 0)

/-- Comparison: false where either is not a number. -/
def lt (a b : Word) : Bool :=
  if isNan a || isNan b then false
  else
    let key (w : Word) : Int := if isZero w then 0 else if neg w then -(w.toNat % 2 ^ 31 : Nat) else w.toNat
    decide (key a < key b)

def le (a b : Word) : Bool := !isNan a && !isNan b && !lt b a
def min32 (a b : Word) : Word := if lt b a then b else a
def max32 (a b : Word) : Word := if lt a b then b else a

/-- An integer, rounded. -/
def ofInt (i : Int) : Word := ofDyadic i 0

/-- The quotient of two integers, rounded once. -/
def ofRatio (n : Int) (d : Nat) : Word :=
  if d = 0 then nan
  else
    let m := n.natAbs * 2 ^ 96
    round (decide (n < 0)) (m / d) (-96) (m % d != 0)

/-- A finite value times `k`, rounded down to an integer; 0 where not finite. -/
def floorMul (w : Word) (k : Nat) : Int :=
  if finite w then
    let m := signedMant w * (k : Int)
    if 0 ≤ pow w then m * 2 ^ (pow w).toNat else m / 2 ^ (-pow w).toNat
  else 0

/-- A finite value times `k`, rounded to the nearest integer, halves up. -/
def nearMul (w : Word) (k : Nat) : Int :=
  if finite w then
    let m := 2 * signedMant w * (k : Int)
    let d := (-pow w).toNat
    if 0 ≤ pow w then signedMant w * (k : Int) * 2 ^ (pow w).toNat else (m + 2 ^ d) / 2 ^ (d + 1)
  else 0

/-- The square root within 1 ulp (R235); not a number below zero. -/
def sqrt (w : Word) : Word :=
  if isNan w then nan
  else if isZero w then zero (neg w)
  else if neg w then nan
  else if isInf w then w
  else
    let odd := (pow w) % 2 = 1
    let n := if odd then 2 * mant w else mant w
    let e := if odd then pow w - 1 else pow w
    let r := Nat.sqrt (n * 2 ^ 40)
    let b := round false (r / 2 ^ (Nat.log2 r - 23)) (e / 2 - 20 + ((Nat.log2 r - 23 : Nat) : Int)) false
    let exact := r * r == n * 2 ^ 40 && r % 2 ^ (Nat.log2 r - 23) == 0
    match Config.sqrtPick w with
    | 0 => if exact then b - 1 else b
    | 1 => b
    | 2 => b + 1

/-- exp(−x) for x = n / 2^192, scaled by 2^192: the series on x / 256, squared eight times. -/
def expFix (n : Nat) : Nat :=
  let one : Nat := 2 ^ 192
  let y := n / 256
  let rec term (k : Nat) (i : Nat) (t : Nat) (acc : Int) : Int :=
    match k with
    | 0 => acc
    | k + 1 =>
      let t' := t * y / one / i
      term k (i + 1) t' (if i % 2 = 1 then acc - (t' : Int) else acc + (t' : Int))
  let rec squares (k v : Nat) : Nat := match k with | 0 => v | k + 1 => squares k (v * v / one)
  squares 8 (term 60 1 one (one : Int)).toNat

/-- exp(−x) for x ≥ 0, within 1 ulp (R235); 1 at 0, and zero where the result is subnormal. -/
def expNeg (x : Word) : Word :=
  if isNan x then nan
  else if isZero x then 0x3F800000
  else if neg x then nan
  else if isInf x || decide (100 ≤ floorMul x 1) then 0
  else
    let n := if 0 ≤ pow x + 192 then mant x * 2 ^ (pow x + 192).toNat else mant x / 2 ^ (-(pow x + 192)).toNat
    let v := expFix n
    let l := Nat.log2 v
    if v = 0 then 0
    else
      let b := round false (v / 2 ^ (l - 23)) (((l - 23 : Nat) : Int) - 192) false
      if Config.expPick x && b != 0x3F800000 then b + 1 else b

abbrev one : Word := 0x3F800000

end Sys2Proof.Machine.B32
end

