-- ==== Sys2Proof/Machine/PartsArc.lean ====
section
/-!
DEFINITION. State of the Archive (R568 to R580).
-/

namespace Sys2Proof.Machine

/-- An entry of a namespace: its Module Time, its source as Q_SELECT names it (ring identifier; event
code + 512 × source instance; string), the node position of a capture sample, and the bytes a retrieval returns. -/
structure ArcEntry where
  time : Nat
  source : Nat
  /-- The block of its segment that holds it. -/
  block : Nat
  data : List Byte
  deriving DecidableEq, Repr

/-- A segment (R572): SEG_NO, FIRST_TIME, LAST_TIME once closed, BLOCKS, USED, and its entries, oldest first. -/
structure Segment where
  no : Nat
  firstTime : Nat
  lastTime : Option Nat
  blocks : Nat
  used : Nat
  entries : List ArcEntry
  deriving DecidableEq, Repr

/-- A namespace (R569, R574, R576): its size in GB, its state, its segments newest first. -/
structure NsX where
  gb : Nat
  mounted : Bool
  short : Bool
  full : Bool
  degraded : Bool
  /-- SEG_NOs that the degraded copy lacks, and the number of segments that a running resilver copies. -/
  lacks : List Nat
  resilver : Option Nat
  nextSeg : Nat
  segs : List Segment
  deriving DecidableEq, Repr

/-- A storage port (R569, R575): a drive answers, its capacity in GB and the namespaces on it by NSID, each with whether its
label is this module's and its size in GB; the reason of a retirement, in MRAM. -/
structure StPort where
  present : Bool
  capacity : Nat
  spaces : List (Nat × Bool × Nat)
  retired : Option Nat
  testing : Bool
  deriving DecidableEq, Repr

/-- An NVMe write in progress (R571): what it drains, where to, and how far. -/
structure ArcWrite where
  src : DrainSrc
  nsid : Nat
  entries : List ArcEntry
  /-- The sequence or record number up to which the source is released. -/
  upTo : Nat
  deriving DecidableEq, Repr

/-- A session's query (R577): its entries once read and not yet delivered. -/
structure QueryX where
  nsid : Nat
  ring : Nat
  left : Option (List ArcEntry)
  deriving DecidableEq, Repr

structure ArcUnit where
  ports : List (Nat × StPort)
  nss : List (Nat × NsX)
  writes : List ArcWrite
  /-- Rings reported by event 0x1DE since the last mount. -/
  unrouted : List Nat
  queries : List (Nat × QueryX)
  /-- Entries of closed capture records not yet written. -/
  captures : List ArcEntry
  deriving DecidableEq, Repr

def NsX.initial : NsX :=
  { gb := 0, mounted := false, short := false, full := false, degraded := false, lacks := [], resilver := none, nextSeg := 0, segs := [] }
def StPort.initial : StPort := { present := false, capacity := 0, spaces := [], retired := none, testing := false }
def ArcUnit.initial : ArcUnit := { ports := [], nss := [], writes := [], unrouted := [], queries := [], captures := [] }

end Sys2Proof.Machine
end

