-- ==== Sys2Proof/Machine/PartsExch.lean ====
section
/-!
DEFINITION. State of the plant network: sessions, requests, the duplicate-result cache, exchange rings, the Vitrine,
subscriptions and PRP (R517 to R550).
-/

namespace Sys2Proof.Machine

/-- An exchange session beside its objects (R520 to R522). Sessions 64 to 67 are those of SV. -/
structure SessX where
  /-- Plant port 0 to 7, or 8 for SV. -/
  port : Nat
  identity : Bool
  /-- Rights that the certificate grants, and the key slots its chain ended at. -/
  granted : Nat
  anchors : List Nat
  client : Nat
  /-- Run time of the last message. -/
  lastAt : Nat
  deriving DecidableEq, Repr

/-- Where an answer goes: an exchange session, or a Modbus connection with transaction identifier, unit identifier,
function code, the register named first and the value or count that the answer echoes. -/
inductive ReplyTo where
  | session (s : Nat)
  | modbus (conn tid unit function register value : Nat)
  /-- The connection has gone. -/
  | gone
  deriving DecidableEq, Repr

/-- A request in progress (R529 to R531). -/
structure HostReq where
  id : Nat
  dest : ReplyTo
  client : Nat
  no : Nat
  /-- TYPE, with bit 8 set where the answer is not stored (PEEK, INFO). -/
  type : Nat
  /-- Run time at which its last byte arrived. -/
  at_ : Nat
  /-- The address of a WRITE, for event 0x1CA. -/
  addr : Nat
  multi : Bool
  pairAgreed : Bool
  committed : Bool
  discarded : Bool
  /-- Parts still awaited: targets, ring transactions, ring operations. -/
  left : Nat
  accepted : Nat
  refused : Nat
  /-- The lowest refused instance and its status. -/
  first : Option (Nat × Nat)
  /-- The reply is ready and waits for RESULT_ACK (R494): status and payload. -/
  ready : Option (Nat × List Byte)
  /-- Sessions that sent the same number again and receive the same reply. -/
  waiters : List Nat
  deriving DecidableEq, Repr

/-- Who asked for a ring operation (R536). -/
inductive RingUser where
  | host (req : Nat)
  | task (cls : Nat)
  | module_
  deriving DecidableEq, Repr

/-- A ring operation holding a Vitrine entry or waiting for one (R540). -/
structure VitOp where
  ring : Nat
  cls : Nat
  op : RingOp
  user : RingUser
  /-- What the operation answers, once it holds its entry: STATUS and payload. -/
  result : Option (Nat × List Byte)
  /-- Run time of arrival. -/
  at_ : Nat
  deriving DecidableEq, Repr

structure Vitrine where
  held : List VitOp
  /-- Waiting operations, oldest first. -/
  waiting : List VitOp
  /-- Unpinned rings whose state is cached in a free entry, most recently used first. -/
  cached : List Nat
  /-- Run time of the last event 0x1C9 of a class. -/
  warnedAt : List (Nat × Nat)
  deriving DecidableEq, Repr

/-- A committed or staged write by a host; `req` is the request it belongs to. -/
structure HostStaged where
  session : Nat
  /-- Run time of acceptance; the write applies at the first boundary at least 50 µs later (R490). -/
  at_ : Nat
  /-- The CYCLE_NO of the boundary at which the active module's agreement applies it (R490). -/
  cycle : Option Nat
  req : Option Nat
  write : HostWrite
  deriving DecidableEq, Repr

/-- A request forwarded to a worker (R532). -/
structure Forwarded where
  worker : Nat
  no : Nat
  req : Nat
  /-- The inner request: TYPE, CLIENT_ID, REQ_NO. -/
  type : Nat
  innerClient : Nat
  innerNo : Nat
  deriving DecidableEq, Repr

/-- An entry of the PRP node table (R517): the last sequence numbers of a source, its attachment, and the run time of its
last frame. -/
structure PrpNode where
  mac : Nat
  seqs : List Nat
  attachment : Nat
  at_ : Nat
  deriving DecidableEq, Repr

structure NetUnit where
  sessions : List (Nat × SessX)
  reqs : List HostReq
  nextReq : Nat
  /-- Clients in order of their newest record, newest first. -/
  cache : List CacheClient
  rings : List (Nat × XRing)
  vit : Vitrine
  subs : List SubX
  nextSub : Nat
  /-- Ring operations of tasks committed at the present boundary: class, ring and operation. -/
  taskOps : List (Nat × Nat × RingOp)
  forwards : List Forwarded
  /-- The manager's own request numbers towards its workers. -/
  workerNo : Nat
  modbus : List Nat
  prp : List PrpNode
  /-- PRP sequence counters of the publication, identity and unit addresses. -/
  prpPub : Nat
  prpIdentity : Nat
  prpUnit : Nat
  /-- Run times of recent wrong-LAN frames by port, newest first, and of the last event 0x1C8. -/
  wrongLan : List (Nat × List Nat)
  wrongLanAt : List (Nat × Nat)
  deriving DecidableEq, Repr

def Vitrine.initial : Vitrine := { held := [], waiting := [], cached := [], warnedAt := [] }
def NetUnit.initial : NetUnit :=
  { sessions := [], reqs := [], nextReq := 0, cache := [], rings := [], vit := .initial, subs := [], nextSub := 0, taskOps := []
    forwards := [], workerNo := 0, modbus := [], prp := [], prpPub := 0, prpIdentity := 0, prpUnit := 0, wrongLan := []
    wrongLanAt := [] }

end Sys2Proof.Machine
end

