-- ==== Sys2Proof/Machine/PartsIo.lean ====
section
/-!
DEFINITION. State of the field I/O (R421 to R462) and of the CAN controllers (R463 to R480) beside their objects.
-/

namespace Sys2Proof.Machine

/-- One DI: filter counter, its own filtered value, the edge FIFO oldest first, the present run of drops, and since when
its own value differs from the agreed one (run time; `true` once counted) (R424 to R427). -/
structure DiX where
  counter : Nat
  own : Bool
  fifo : List Nat
  drops : Nat
  differs : Option (Nat × Bool)
  /-- Isolator frame errors, run times of the last second. -/
  errs : List Nat
  deriving DecidableEq, Repr

/-- One DO stage: switched off by its own protection, 1 current limit, 2 over-temperature (R434); holding nothing after
the refresh was lost (R457). -/
structure DoX where
  cut : Nat
  lost : Bool
  deriving DecidableEq, Repr

/-- One AO channel: FSK buffers, oldest first, receive entries with their error mark; fold-back run time; the partner
drives the loop (R446). -/
structure AoX where
  tx : List Byte
  rx : List (Byte × Bool)
  foldAt : Nat
  lost : Bool
  deriving DecidableEq, Repr

/-- The field I/O. -/
structure IoUnit where
  dis : List (Nat × DiX)
  dos : List (Nat × DoX)
  aos : List (Nat × AoX)
  /-- Run time at which each field supply was lost. -/
  lostAt : List (Nat × Nat)
  /-- Run time at which each channel self-test began, by instance. -/
  tests : List (Nat × Nat)
  /-- A detached standby has switched every DO off until its next commit (R491). -/
  shut : Bool
  /-- What the active module's next agreement carries: edge entries and FSK bytes since the last boundary (R427, R444). -/
  newEdges : List (Nat × Nat)
  newFsk : List (Nat × (Byte × Bool))
  deriving DecidableEq, Repr

/-- A receive-queue entry (R469). -/
structure RxEntry where
  time : Nat
  frame : CanFrame
  filter : Nat
  deriving DecidableEq, Repr

/-- A transmit buffer (R465, R467, R474): the frame, filling order, a shadow, and whether its start-of-frame was sent. -/
structure TxBuf where
  frame : CanFrame
  order : Nat
  shadow : Bool
  started : Bool
  deriving DecidableEq, Repr

/-- One bus. -/
structure BusX where
  bufs : List (Nat × TxBuf)
  nextOrder : Nat
  rx0 : List RxEntry
  rx1 : List RxEntry
  /-- The present run of drops of each queue. -/
  drops0 : Nat
  drops1 : Nat
  busOffAt : Nat
  recovering : Bool
  testing : Option Nat
  /-- Frames its own receiver queued in this cycle: a standby compares them with the agreement, the active module's agreement
  carries them (R470). -/
  ownRx : List RxEntry
  deriving DecidableEq, Repr

structure CanUnit where
  buses : List (Nat × BusX)
  deriving DecidableEq, Repr

def DiX.initial : DiX := { counter := 0, own := false, fifo := [], drops := 0, differs := none, errs := [] }
def DoX.initial : DoX := { cut := 0, lost := false }
def AoX.initial : AoX := { tx := [], rx := [], foldAt := 0, lost := false }
def IoUnit.initial : IoUnit := { dis := [], dos := [], aos := [], lostAt := [], tests := [], shut := false, newEdges := [], newFsk := [] }
def BusX.initial : BusX :=
  { bufs := [], nextOrder := 0, rx0 := [], rx1 := [], drops0 := 0, drops1 := 0, busOffAt := 0, recovering := false
    testing := none, ownRx := [] }
def CanUnit.initial : CanUnit := { buses := [] }

end Sys2Proof.Machine
end

