-- ==== Sys2Proof/Machine/PartsOut.lean ====
section
/-!
DEFINITION. What the module sends: one record per frame, ordered set, message or reply, in the order sent.
-/

namespace Sys2Proof.Machine

/-- The ordered sets the module originates (R81). -/
inductive OsKind where
  | heartbeat | time | train
  deriving DecidableEq, Repr

/-- A command frame on a ring (R113, R114). -/
structure RingFrame where
  prio : Nat
  scope : Nat
  retry : Bool
  opcode : Nat
  target : Nat
  seq : Word
  payload : List Byte
  deriving DecidableEq, Repr

/-- The PTP messages the module sends (R167). -/
inductive PtpKind where
  | pdelayReq | pdelayResp | pdelayRespFollowUp | sync | followUp | announce
  deriving DecidableEq, Repr

/-- One thing sent. -/
inductive Out where
  /-- An ordered set on a ring port, with its data octet. -/
  | orderedSet (port : Nat) (kind : OsKind) (data : Nat)
  /-- A command frame on a ring port. -/
  | ringFrame (port : Nat) (f : RingFrame)
  /-- A PTP message on a plant port, with its sequence number and timestamp. -/
  | ptp (port : Nat) (kind : PtpKind) (seq stamp : Nat)
  /-- The TO pulse of a whole second and its time-of-day line (R192). -/
  | timeOutput (second : Nat) (line : List Byte)
  /-- An off-pulse of an SQ channel on one of its two switches (R451). -/
  | sqPulse (channel : Nat) (second : Bool)
  /-- The island's reports to its partner over X0 and X1 (R332, R337): (string, (STATE, cause, present)), and the lockout
  notice (recorded causes, causes present). -/
  | islandReport (funcs : List (Nat × (Nat × Nat × Bool))) (lockout : Option (Nat × Nat))
  /-- Bytes queued for FSK transmission on an AO channel (R444). -/
  | fsk (channel : Nat) (bytes : List Byte)
  /-- A reply on an exchange session (R523): client, request number, type, status, flags, payload. -/
  | reply (session client no type status flags : Nat) (payload : List Byte)
  /-- A cross-link message (R482): MSG_SEQ, CYCLE_NO and content, sent on both links. -/
  | xMsg (seq cycle : Nat) (m : XMsg)
  /-- An exchange or Modbus connection closed by the module. -/
  | closed (conn : Connection)
  /-- A Modbus answer (R546): connection, transaction, unit, function with bit 7 for an exception, data. -/
  | modbus (conn tid unit function : Nat) (data : List Byte)
  /-- A publication datagram (R538) with its PRP sequence number; `identity` where it leaves from IDENTITY_MAC (R539). -/
  | publication (sub attachment prp : Nat) (identity : Bool) (datagram : List Byte)
  /-- A PRP supervision frame on a plant port, for the identity MAC or the unit MAC (R517). -/
  | supervision (port : Nat) (identity : Bool)
  /-- An answer to ARP, neighbour discovery or ICMP echo (0, 1, 2), for the identity or the unit address (R518). -/
  | netAnswer (port kind : Nat) (identity : Bool)
  /-- Gratuitous ARP and unsolicited neighbour advertisement of the identity (R498). -/
  | announce (port : Nat)
  /-- A library operation's answer to a job (R594, R596): task, operation, code, bytes. -/
  | library (task op code : Nat) (bytes : List Byte)
  /-- A segment header written to a namespace (R572): NSID and its 4,096 bytes. -/
  | segment (nsid : Nat) (header : List Byte)
  /-- A message of a manager to a worker (R509, R511, R532): worker, type, request number, payload. -/
  | worker (k type no : Nat) (payload : List Byte)
  deriving DecidableEq, Repr

end Sys2Proof.Machine
end

