-- ==== Sys2Proof/Machine/PartsPow.lean ====
section
/-!
DEFINITION. State of the power unit beside its objects (R632 to R649).
-/

namespace Sys2Proof.Machine

structure PwrUnit where
  /-- Run time since which input A or B is absent (event 0x1F1). -/
  absentA : Option Nat
  absentB : Option Nat
  /-- A hold-up measurement runs; true where a host asked for it (R641). -/
  measuring : Option Bool
  /-- The clock of a clock-monitor fault, in MRAM until the next start reports it (R634). -/
  clockFault : Option Nat
  /-- Run time of the last event 0x1F6 of each crossing (R636). -/
  xingAt : List (Nat × Nat)
  /-- Run time at which a sensor's side left NORMAL, by 2 × sensor + side (event 0x1F9). -/
  sensSince : List (Nat × Nat)
  deriving DecidableEq, Repr

def PwrUnit.initial : PwrUnit :=
  { absentA := none, absentB := none, measuring := none, clockFault := none, xingAt := [], sensSince := [] }

end Sys2Proof.Machine
end

