-- ==== Sys2Proof/Machine/PartsProg.lean ====
section
/-!
DEFINITION. State of task execution (R359 to R395).
-/

namespace Sys2Proof.Machine

/-- A provisional value a job read (R220): a node's sample. -/
structure ReadRef where
  string : Nat
  no : Nat
  p : Nat
  deriving DecidableEq, Repr

/-- One job (R220, R362, R363). Times are task time in µs. -/
structure Job where
  release : Nat
  commitAt : Nat
  /-- Run time of the release. -/
  startedAt : Nat
  /-- Its commit point has moved once (R374). -/
  moved : Bool
  finished : Bool
  exec : Nat
  writes : List JobWrite
  reads : List ReadRef
  deriving DecidableEq, Repr

/-- One task beside its objects. -/
structure TaskX where
  job : Option Job
  /-- The next release is skipped (R374). -/
  skipNext : Bool
  /-- Triggers since the previous release (R364). -/
  triggers : Nat
  /-- RN of the first record an event-code task has not looked at (R365). -/
  lastRn : Nat
  /-- Consecutive faulted releases (R377), and the run time of suspension. -/
  faultRun : Nat
  suspendedAt : Nat
  /-- Why a release last gave no commit: 1 skipped, 2 aborted, 3 squash without time, 4 lapse (R420, event 0x15B). -/
  missCause : Nat
  deriving DecidableEq, Repr

/-- A journal in MRAM (R381): the changes of a commit, whether complete, and the task time. -/
structure Journal where
  vars : List (Nat × List Byte)
  complete : Bool
  /-- Task time of the commit, and the run time at which it was written. -/
  time : Nat
  at_ : Nat
  deriving DecidableEq, Repr

/-- The scheduler and program data. -/
structure SchedUnit where
  tasks : List (Nat × TaskX)
  /-- Committed values of program variables that differ from INITIAL, by VAR. -/
  vars : List (Nat × List Byte)
  hostStaged : List HostStaged
  /-- Withdrawals whose readers are squashed (R221). -/
  withdrawn : List ReadRef
  /-- RETAIN_DIGEST of the image that last wrote the retained area, and whether every page CRC passes (R382). -/
  retainDigest : Digest
  pagesOk : Bool
  /-- The retained area's committed variables, in MRAM. -/
  retained : List (Nat × List Byte)
  journal : Option Journal
  /-- The bytes of the program-variable writes applied at the present boundary, for CYCLE_DIGEST (R384). -/
  applied : List Byte
  /-- Plant tasks have not been released since the last initialisation (event 0x148). -/
  startDue : Bool
  /-- Plant tasks are loaded and released, or draining into DORMANT. -/
  loaded : Bool
  draining : Bool
  /-- Outputs stand at stop values until the first plant commit after entering a running mode (R25). -/
  outHold : Bool
  /-- Writes of this commit's jobs to pair-agreed objects other than outputs, for AGREE_COMMIT (R383). -/
  objs : List (Nat × Word)
  resync : Bool
  deriving DecidableEq, Repr

def TaskX.initial : TaskX :=
  { job := none, skipNext := false, triggers := 0, lastRn := 0, faultRun := 0, suspendedAt := 0, missCause := 1 }
def SchedUnit.initial : SchedUnit :=
  { tasks := [], vars := [], hostStaged := [], withdrawn := [], retainDigest := 0, pagesOk := false, retained := []
    journal := none, applied := [], startDue := false, loaded := false, draining := false, outHold := true, objs := [], resync := false }
end Sys2Proof.Machine
end

