-- ==== Sys2Proof/Machine/PartsRec.lean ====
section
/-!
DEFINITION. State of the event recorder and the Archive (R552 to R581).
-/

namespace Sys2Proof.Machine

/-- An event record (R552, R553). `lastAt` is the Module Time of the last occurrence; LAST derives from it. -/
structure EvRecord where
  code : Nat
  powerFail : Bool
  prevLost : Bool
  seqSat : Bool
  unitB : Bool
  untraceable : Bool
  sealed_ : Bool
  repeat_ : Nat
  inst : Nat
  lastAt : Nat
  gen : Nat
  seq : Nat
  time : Nat
  p1 : Word
  p2 : Word
  p3 : Word
  /-- Record number (R560). -/
  rn : Nat
  deriving DecidableEq, Repr

/-- A programmed page of the store: up to 16 records, and whether its CRC passes (R560, R563). -/
structure StorePage where
  block : Nat
  recs : List EvRecord
  crcOk : Bool
  deriving DecidableEq, Repr

/-- The event recorder. -/
structure Recorder where
  /-- Records in the volatile buffer, newest first (R558). -/
  buffer : List EvRecord
  /-- Counters of sources that raised a record since the last start: ((class, instance), next SEQ) (R555). -/
  seqs : List ((Nat × Nat) × Nat)
  /-- The value at which every other source's counter stands: SEQ_FLOOR at the last start. -/
  seqBase : Nat
  /-- SEQ_FLOOR, in MRAM. -/
  seqFloor : Nat
  /-- RN of the next record to be appended, in MRAM (R560). -/
  nextRn : Nat
  /-- RN of the next record to be flushed. -/
  flushedRn : Nat
  /-- Programmed pages, newest first. -/
  pages : List StorePage
  /-- Erase block and page within it that the next flush programs. -/
  block : Nat
  page : Nat
  /-- The block ahead of the write point is erased (R560). -/
  aheadErased : Bool
  wrapped : Bool
  retired : List Nat
  /-- Records dropped since the last append (R558). -/
  lostRun : Nat
  flushing : Bool
  flushDue : Bool
  lastFlush : Nat
  /-- The last-words area of MRAM, newest first (R562). -/
  lastWords : List EvRecord
  /-- A power-fail flush was begun, and its completion mark is present (R563). -/
  pfBegun : Bool
  pfMark : Bool
  /-- RN of the next record to be put into REC_RING (R566), and to be written to the Archive (R571). -/
  ringRn : Nat
  archRn : Nat
  deriving DecidableEq, Repr

end Sys2Proof.Machine
end

