-- ==== Sys2Proof/Machine/PartsRed.lean ====
section
/-!
DEFINITION. State of the pair and the hierarchy beside their objects (R481 to R516).
-/

namespace Sys2Proof.Machine

/-- A worker as its manager sees it (R511): consecutive failed polls, and the run time at which it was marked silent. -/
structure WorkerX where
  fails : Nat
  silentAt : Option Nat
  deriving DecidableEq, Repr

/-- A state transfer or rejoin in progress (R492, R505): its cause (0 a join, else as event 0x1AB), its start in run time,
and what has arrived. -/
structure JoinX where
  cause : Nat
  at_ : Nat
  gotModule : Bool
  strings : List Nat
  deriving DecidableEq, Repr

/-- The redundancy unit. Times are run times. -/
structure RedUnit where
  /-- Last good message on X0 or X1, and last toggle edge, if any. -/
  xAt : Option Nat
  ilAt : Option Nat
  /-- Path faults standing: the run time at which the path fell silent (R485). -/
  xFault : Option Nat
  ilFault : Option Nat
  /-- The partner was heard and has not been declared failed since. -/
  found : Bool
  /-- A partner heartbeat has arrived since BOOTED (R663). -/
  heardBooted : Bool
  partner : Option PartnerBeat
  /-- MSG_SEQ of the next message sent, in MRAM (R482). -/
  msgSeq : Nat
  /-- MSG_SEQ after the highest heard from the partner, and the ranges below it still missing: first, and one past the last. -/
  rxNext : Option Nat
  rxMissing : List (Nat × Nat)
  /-- A standby's boundary awaits its AGREE_COMMIT (R491). -/
  commitDue : Bool
  /-- Detached cycles in the present run, and whether one occurred since the last rejoin (R491). -/
  detachedRun : Nat
  detached : Bool
  join : Option JoinX
  /-- A rejoin that starts at the next boundary, with its cause. -/
  rejoinDue : Option Nat
  digestBad : Bool
  /-- The last commit point up to which every agreement message was held (R499). -/
  agreedAt : Option Nat
  /-- Ring-command digest of the last commit (R493). -/
  cmdDigest : Nat
  /-- Last standby self-test failure (R501). -/
  testFailedAt : Option Nat
  /-- Corrected DRAM errors of the last scrub passes: time and count. -/
  dramErrs : List (Nat × Nat)
  healthLow : Bool
  /-- A module that is to assert OWN waits since (R487). -/
  ownWaitAt : Option Nat
  /-- A run command that asked the partner for OWN, accepted at (R662). -/
  ownAskAt : Option Nat
  /-- Replies sent without acknowledgement in the present run (R494). -/
  unrepRun : Nat
  /-- Last dispatch accepted (R510). -/
  dispAt : Option Nat
  dispSeq : Option Nat
  /-- RANDOM bytes of the active module's agreement, by task, oldest first (R595). -/
  randoms : List (Nat × List Byte)
  workers : List (Nat × WorkerX)
  /-- The active's own sending of a state transfer: strings still to send (R505), 256 standing for the module-wide copy before them. -/
  sending : Option (List Nat)
  /-- State records that replace a standby's own at its next commit (R255, R296). -/
  refresh : List RefreshPart
  /-- Capture outcomes of the active module that await this module's own (R280). -/
  captures : List (Nat × Nat × Nat × Nat)
  /-- The mode the active has decided for the next boundary, and whether OWN passes there, with its end in STOP. -/
  modeAgreed : Option Nat
  switchAgreed : Option Bool
  /-- Command frames sent and returned on each string at the last loopback check (R501). -/
  loopBase : List (Nat × (Nat × Nat))
  /-- The pair key (R597), not readable. -/
  pairKey : Option (List Byte)
  /-- Synced or unsynced takeover decided at PARTNER_LOST (R499). -/
  takeoverSynced : Bool
  /-- Dispatches and poll results accepted since the last boundary, where they apply (R490, R510, R511). -/
  due : List AgreeInput
  /-- MSG_SEQ of this module's last identity exchange (R597). -/
  idSeq : Nat
  /-- What the cycle leaves for AGREE_DIGESTS: strings estimated, capture records closed (string, first sample, CRC, outcome), and CRCs
  of the BALANCE payloads committed at the last commit point, by string (R255, R280, R296). -/
  estDone : List Nat
  capsDone : List (Nat × Nat × Nat × Nat)
  balDone : List (Nat × Nat)
  /-- What the boundary met for which a standby awaits AGREE_COMMIT. -/
  seen : CycleSeen
  deriving DecidableEq, Repr

def WorkerX.initial : WorkerX := { fails := 0, silentAt := none }
def RedUnit.initial : RedUnit :=
  { xAt := none, ilAt := none, xFault := none, ilFault := none, found := false, heardBooted := false, partner := none, msgSeq := 0, rxNext := none
    rxMissing := [], commitDue := false, detachedRun := 0, detached := false, join := none, rejoinDue := none, digestBad := false
    agreedAt := none, cmdDigest := 0, testFailedAt := none, dramErrs := [], healthLow := false, ownWaitAt := none, ownAskAt := none
    unrepRun := 0, dispAt := none, dispSeq := none, randoms := [], workers := [], sending := none, refresh := [], captures := []
    modeAgreed := none, switchAgreed := none, loopBase := [], pairKey := none, takeoverSynced := false, due := []
    idSeq := 0, estDone := [], capsDone := [], balDone := []
    seen := { coresAgree := true, builtInDone := true, peerOwn := false, peerAfter := false, idleLow := [], partnerAo := [] } }

end Sys2Proof.Machine
end

