-- ==== Sys2Proof/Machine/PartsRing.lean ====
section
/-!
DEFINITION. State of the string rings: ports and links (R76 to R111), ring states, transactions and nodes
(R112 to R162).
-/

namespace Sys2Proof.Machine

/-- A HEARTBEAT as received: ORIGIN (true: node) and HOPS (R81). -/
structure HbSeen where
  node : Bool
  hops : Nat
  deriving DecidableEq, Repr

/-- What a ring port keeps beside its objects (R86 to R106). Times are Module Time in ns. -/
structure PortX where
  /-- The last HEARTBEAT received. -/
  hb : Option HbSeen
  /-- The HEARTBEAT whose reach is in force (R94); none: silent, dark or retired. -/
  reach : Option HbSeen
  /-- A HEARTBEAT arrived since the last 100 µs tick (HB_MISSED). -/
  hbTick : Bool
  silentAt : Nat
  /-- Time of the first FAULT of the present FAULT_ACTIVE episode. -/
  faultAt : Nat
  losAt : Nat
  /-- Start of the present training: return of light or last exit from UP (R93). -/
  trainAt : Nat
  /-- Cause of the retrain in progress: 1 LOS, 2 alignment, 3 error burst; 0 first training. -/
  downCause : Nat
  /-- Symbol numbers of the last three errors, newest first (R91). -/
  errSyms : List Nat
  /-- Time of the last retrain and CRC failures since (R104 reason 0x03). -/
  retrainAt : Option Nat
  crcSince : Nat
  /-- Times at which a retrain was followed by 16 CRC failures, newest first. -/
  episodes : List Nat
  /-- OPTICAL_LOW stands (R111). -/
  opticalLow : Bool
  /-- Module Time at which the self-test began. -/
  testAt : Nat
  /-- Commands of the module seen back at this port (R126). -/
  loopbacks : Nat
  /-- Commands sent through this port. -/
  sent : Nat
  /-- DELAY_REQs sent (R180), and the last 64 round trips and turnarounds of the side in 100 ps, newest first (R182). -/
  reqs : Nat
  rtts : List Nat
  turns : List Nat
  deriving DecidableEq, Repr

/-- What a configured ring keeps beside RING (R96, R98). -/
structure RingX where
  /-- Declared state, 0 to 5 (R95), as the scan scheduler and the Weir use it from the last boundary. -/
  eff : Nat
  effReachW : Nat
  effReachE : Nat
  deriving DecidableEq, Repr

/-- The scopes of a command (R114). -/
inductive Scope where
  | single | kind | all
  deriving DecidableEq, Repr

/-- Who asked for a transaction, and is told of its end. -/
inductive TxnOwner where
  /-- A NODE_CMD write (R160): the command code. -/
  | nodeCmd (code : Nat)
  /-- The module's own CONFIGURE of an UNCONFIGURED node (R145). -/
  | autoConfig
  /-- Protection's CONTACTOR of the string (R321). -/
  | contactor (close : Bool)
  /-- A calibration pass reading a node's delays (R187). -/
  | calibration (param : Nat)
  /-- A library call of a task (R368). -/
  | task (t : Nat)
  /-- The module itself. -/
  | module_
  deriving DecidableEq, Repr

/-- A command to be sent on one string's ring (R113, R135). `target` is the position in single scope and the kind
mask in kind scope. -/
structure RingReq where
  id : Nat
  string : Nat
  opcode : Nat
  prio : Nat
  scope : Scope
  target : Nat
  payload : List Byte
  owner : TxnOwner
  /-- The ports it is bound for (R124, R150). -/
  ports : List Nat
  /-- Host request waiting for the end, as session instance and request number (R531). -/
  host : Option (Nat × Nat)
  deriving DecidableEq, Repr

/-- An outstanding transaction (R150, R151). -/
structure Txn where
  req : RingReq
  seq : Word
  /-- Ports on which it holds an entry. -/
  ports : List Nat
  sentAt : Nat
  attempts : Nat
  /-- Positions expected to reply and positions that replied. -/
  expect : List Nat
  got : List Nat
  /-- The first non-OK status received. -/
  bad : Nat
  deriving DecidableEq, Repr

/-- A transaction that ended without completing, kept to recognise late replies (R153). -/
structure EndedTxn where
  string : Nat
  seq : Word
  opcode : Nat
  deriving DecidableEq, Repr

/-- How a transaction ended (R151, R153, R124). -/
inductive TxnEnd where
  | ok | status (code : Nat) | failed | unreachable | discarded
  deriving DecidableEq, Repr

/-- The end of a transaction, for its owner: the words are those of DATA. -/
structure TxnResult where
  req : RingReq
  outcome : TxnEnd
  data : List Word
  deriving DecidableEq, Repr

/-- What a configured node keeps beside its objects. -/
structure NodeX where
  /-- A matching IDENT has been received since the node's last reset (R144, R145). -/
  identOk : Bool
  /-- The last IDENT disagreed with the NODES record (R144). -/
  mismatched : Bool
  /-- ALERT counters already seen from the node (R149). -/
  alerts : List Nat
  /-- A RESET_NODE was sent to the node and its reset is therefore bidden. -/
  bidden : Bool
  /-- DETAIL of the last ALERT 0x07: the reset cause (R149). -/
  resetCause : Nat
  /-- The cause to report at the next contactor change (event 0x06D). -/
  contactCause : Nat
  /-- TIME_LOCKED as the last confirmed MEAS reported it (R140). -/
  timeLocked : Bool
  deriving DecidableEq, Repr

/-- The ring engine. Lists keyed by number are sparse: an absent key holds the default. -/
structure RingUnit where
  ports : List (Nat × PortX)
  rings : List (Nat × RingX)
  nodes : List (Nat × NodeX)
  /-- Requests waiting in port queues, in order of request (R150). -/
  queue : List RingReq
  /-- Requests held because a queue is full, in order of request (R150). -/
  held : List RingReq
  txns : List Txn
  ended : List EndedTxn
  /-- Ends of transactions their owners have not yet taken, oldest first. -/
  results : List TxnResult
  nextId : Nat
  /-- Local-space COUNT, continuing across restarts (R127). -/
  localCount : Nat
  /-- Commands committed on each string in the present cycle (R128). -/
  indexUsed : List (Nat × Nat)
  /-- Commands for the present cycle that take no entry: BALANCE, SAMPLE, CAPTURE, in order. -/
  staged : List RingReq
  /-- The pair-space commands of the present commit, for the ring-command digest (R493). -/
  cmdBytes : List Byte
  deriving DecidableEq, Repr

end Sys2Proof.Machine
end

