-- ==== Sys2Proof/Machine/PartsSys.lean ====
section
/-!
DEFINITION. State of the module as a whole: modes, transitions, triggers (R19 to R34, R661 to R663) and the Catalogue
slots (R35 to R75).
-/

namespace Sys2Proof.Machine

/-- The eight modes, in the order of their codes (R19). -/
inductive Mode where
  | boot | stop | solo | active | standby | service | lockout | dormant
  deriving DecidableEq, Repr

/-- MODE.TRANS (R31), in the order of its codes. -/
inductive Trans where
  | none | boot | resync | switchOver | toStop | warmRestart | fwPause | park | wake | catActivation | serviceOp
  deriving DecidableEq, Repr

/-- The triggers of R22, in the order of their codes from 0x01. -/
inductive Trigger where
  | powerUp | booted | cmdRun | cmdStop | cmdService | serviceDone | cmdSwitch | partnerLost | safetyTrip | resetEdge
  | cmdPark | wake | restart | fatal | supplyLost
  deriving DecidableEq, Repr

/-- A MODE_CMD word waiting for its boundary (R32), with the session that wrote it and the request it belongs to. -/
structure ModeCmdReq where
  word : Word
  session : Nat
  req : Option Nat
  deriving DecidableEq, Repr

/-- How a restart in progress began and ends (R28, condition (l) of R23). -/
structure RestartPlan where
  cold : Bool
  endRun : Bool
  cause : Nat
  deriving DecidableEq, Repr

/-- Module-wide state that is no object of its own. -/
structure Sys where
  /-- Energised: false from the end of a power-fail flush to the next POWER_UP (R23 (m)). -/
  powered : Bool
  mode : Mode
  prev : Mode
  trans : Trans
  /-- Unit identity: true for unit B (R15). -/
  unitB : Bool
  /-- An interlock cable is detected (R16, R656). -/
  cable : Bool
  /-- The module asserts OWN (R17). -/
  own : Bool
  /-- The peer's OWN line reads asserted (R17). -/
  peerOwn : Bool
  /-- Per-cycle input agreement with the partner holds (MODE.LOCKSTEP). -/
  lockstep : Bool
  /-- Auto-run suppressed by a role mismatch (R16). -/
  mismatchHold : Bool
  /-- Auto-run awaits the next boundary (R23 (a)). -/
  autoRun : Bool
  /-- Waiting for a partner heartbeat under R663. -/
  partnerWait : Bool
  /-- A partner loss was recorded during BOOT (R23 (g)). -/
  bootPartnerLost : Bool
  /-- The lockout latch, in MRAM (R20). -/
  lockoutLatch : Bool
  /-- A SAFETY_TRIP waits for its protection-cycle boundary (R25, R26). -/
  tripPending : Bool
  /-- A valid reset edge with every cause absent takes effect at the next boundary (R23 (i)). -/
  resetDue : Bool
  /-- A wake source waits for its boundary (R23 (k)). -/
  wakeDue : Bool
  /-- A PARTNER_LOST waits for its protection-cycle boundary. -/
  lossPending : Bool
  /-- OWN passes at the next boundary (R497). -/
  switchDue : Bool
  /-- The switch-over ends in STOP (R23 (c)). -/
  switchToStop : Bool
  /-- Mode from which SERVICE was entered (R23 (e)). -/
  serviceFrom : Mode
  /-- Mode held when parked (R23 (k)). -/
  parkedFrom : Mode
  /-- Latched triggers, oldest first (R27), each with its source (a WAKE) or safety input (a RESET_EDGE) and its channel. -/
  latched : List (Trigger × Nat × Nat)
  /-- MODE_CMD writes waiting for the boundary, oldest first (R32). -/
  modeCmds : List ModeCmdReq
  /-- The trigger behind the transition in progress, kept for event 0x000 (R22). -/
  transTrig : Trigger
  /-- CYCLE_PHASE in force, in ns (R315). -/
  phase : Nat
  /-- The restart in progress. -/
  restart : RestartPlan
  /-- The start in progress initialises program data as a cold restart (R28). -/
  bootCold : Bool
  /-- Run time of BOOTED (R663). -/
  bootedAt : Nat
  /-- Three FATAL triggers have fallen within 10 min: the next BOOT ends under R29 (MRAM). -/
  limitDue : Bool
  /-- Module Time of the last three FATAL triggers, newest first, in MRAM (R29). -/
  fatals : List Nat
  /-- The shutdown before this start began with SUPPLY_LOST, in MRAM (R33). -/
  brownOut : Bool
  /-- BOOT waits for the hold-up bank (R640). -/
  chargeWait : Bool
  /-- The boot ROM holds the module in recovery (R606). -/
  recovery : Bool
  deriving DecidableEq, Repr

/-- A Catalogue slot's content: the pages written since the last erase, by page index (R64). -/
structure SlotImage where
  pages : List (Nat × List Byte)
  deriving DecidableEq, Repr

/-- One copy of the MRAM selection record (R36). -/
structure SelCopy where
  slot : Nat
  count : Nat
  valid : Bool
  deriving DecidableEq, Repr

/-- An activation in progress (R67): the step reached, the options of CAT_CMD and the user behind it. -/
structure CatActivation where
  step : Nat
  cold : Bool
  endRun : Bool
  user : Nat
  deriving DecidableEq, Repr

/-- The Catalogue unit. -/
structure CatUnit where
  /-- The two physical slots. -/
  slot0 : SlotImage
  slot1 : SlotImage
  selA : SelCopy
  selB : SelCopy
  /-- The running copy, or none while no valid Catalogue is held (R35, R70). -/
  cat : Option Catalogue
  activation : Option CatActivation
  /-- The header of the image that ran before, for RETAINED comparison (R67 step 5, R382). -/
  oldRevision : Nat
  deriving DecidableEq, Repr

end Sys2Proof.Machine
end

