-- ==== Sys2Proof/Machine/PartsSec.lean ====
section
/-!
DEFINITION. State of the security core and of the update unit (R582 to R616) beside their objects.
-/

namespace Sys2Proof.Machine

/-- An entry of the measurement log (R585). -/
structure MeasEntry where
  reg : Nat
  kind : Nat
  time : Nat
  digest : Digest
  deriving DecidableEq, Repr

/-- The security core. KIND, RIGHTS, KEY_ID, GCM_COUNT and PUBLIC of slots 1 and 4 to 31 stand in their objects. -/
structure SecUnit where
  /-- MR0 to MR7 (R584). -/
  mrs : List Digest
  /-- The measurement log, oldest first, and whether an extension went unlogged. -/
  log : List MeasEntry
  logFull : Bool
  /-- Private material by slot: a scalar of 48 bytes or an AES key of 32 (R589). -/
  secrets : List (Nat × List Byte)
  /-- The slot 1 certificate (R612). -/
  cert : Option (List Byte)
  /-- Staged certificates by session: CERT_SIZE bytes from selection 3. -/
  staged : List (Nat × List Byte)
  /-- Quotes that run, by session: MASK (R586). -/
  quotes : List (Nat × Nat)
  /-- QUOTE_SEQ of the next quote, in MRAM. -/
  quoteSeq : Nat
  /-- The activation shadow of slot 4, and the island's copy of it (R590). -/
  shadow : Option (List Byte)
  islandShadow : Option (List Byte)
  /-- ENCRYPTs of jobs not yet committed: task, release, slot and number (R594). -/
  gcmStaged : List (Nat × Nat × Nat × Nat)
  /-- Run times of rejections within 1 s by slot, newest first, and of the last event 0x1EF (R596). -/
  rejects : List (Nat × List Nat)
  rejectAt : List (Nat × Nat)
  /-- Trust-anchor slots rewritten or erased since the last commit point (R593). -/
  anchorsGone : List Nat
  deriving DecidableEq, Repr

/-- The header and trailer fields of a firmware image that the module shows (R599, R615). -/
structure FwHead where
  version : Nat
  svn : Nat
  isa : Nat
  length : Nat
  buildTime : Nat
  keyId : Nat
  digest : Digest
  deriving DecidableEq, Repr

/-- A firmware slot (R599, R616): the image shipped, or the pages written since the last erase; STATE; REJECT; the
header of a checked image. -/
structure FwSlot where
  factory : Bool
  pages : List (Nat × List Byte)
  state : Nat
  reject : Nat
  previous : Bool
  head : Option FwHead
  deriving DecidableEq, Repr

/-- An activation in progress (R603): the step reached, and the mode it began in. -/
structure FwActivation where
  step : Nat
  oldVersion : Nat
  /-- It began in SERVICE. -/
  inService : Bool
  /-- CYCLEs with QUIET still to send before the pause (R155, R603 step 3). -/
  quiet : Nat
  /-- The firmware pause began at this run time. -/
  pauseAt : Nat
  deriving DecidableEq, Repr

/-- The update unit. -/
structure UpdUnit where
  slotA : FwSlot
  slotB : FwSlot
  selA : SelCopy
  selB : SelCopy
  /-- SVN_FLOOR (R607). -/
  floor : Nat
  trial : Bool
  /-- Powered time of the trial up to the last start, and the run time at which it counts on (R605). -/
  trialUsed : Nat
  trialAt : Nat
  activation : Option FwActivation
  deriving DecidableEq, Repr

/-- The image as shipped: every header field that the spec does not give is 0 (log 7). -/
def FwHead.factory : FwHead := { version := 0, svn := 0, isa := 0, length := 0, buildTime := 0, keyId := 0, digest := 0 }

def SecUnit.initial : SecUnit :=
  { mrs := List.replicate 8 0, log := [], logFull := false, secrets := [], cert := none, staged := [], quotes := [], quoteSeq := 0
    shadow := none, islandShadow := none, gcmStaged := [], rejects := [], rejectAt := [], anchorsGone := [] }

def UpdUnit.initial : UpdUnit :=
  { slotA := { factory := true, pages := [], state := 6, reject := 0, previous := false, head := some .factory }
    slotB := { factory := true, pages := [], state := 3, reject := 0, previous := false, head := some .factory }
    selA := ⟨0, 0, true⟩, selB := ⟨0, 0, false⟩, floor := 0, trial := false, trialUsed := 0, trialAt := 0, activation := none }

end Sys2Proof.Machine
end

