-- ==== Sys2Proof/Machine/PartsTime.lean ====
section
/-!
DEFINITION. State of the time unit (R163 to R197) beside its objects.
-/

namespace Sys2Proof.Machine

/-- What an Announce says of a grandmaster, as the best master clock algorithm compares it (R167). -/
structure Foreign where
  port : Nat
  prio1 : Nat
  clockClass : Nat
  accuracy : Nat
  variance : Nat
  prio2 : Nat
  gm : Nat
  steps : Nat
  sender : Nat
  utc : Nat
  deriving DecidableEq, Repr

/-- One PTP domain. -/
structure DomX where
  /-- Offset from Module Time in ns, unsaturated, and whether one has been measured. -/
  offset : Int
  heard : Bool
  /-- Announce data in force, one per port that hears the domain. -/
  foreign : List Foreign
  /-- Announce messages arrive within announceReceiptTimeout (R169). -/
  announced : Bool
  /-- Run time since which the domain has been usable. -/
  usableSince : Option Nat
  deriving DecidableEq, Repr

/-- A two-step message waiting for its Follow_Up. -/
structure SyncWait where
  domain : Nat
  seq : Nat
  rxTime : Nat
  correction : Int
  deriving DecidableEq, Repr

/-- One PTP port. Times are Module Time in ns. -/
structure PtpPort where
  /-- Peer delay in ns, once measured. -/
  delay : Option Int
  reqSeq : Nat
  reqSent : Option Nat
  /-- Two-step Pdelay_Resp waiting: request sent, response received, t2 and correction. -/
  respWait : Option (Nat × Nat × Nat × Int)
  syncWait : Option SyncWait
  deriving DecidableEq, Repr

/-- The calibration of one ring (R187). -/
structure CalX where
  running : Bool
  /-- Time parameters 0x0030 to 0x003F as read, by position. -/
  reads : List (Nat × List Word)
  /-- Positions whose WRITE has been acknowledged. -/
  written : List Nat
  /-- The writes have been committed. -/
  wrote : Bool
  /-- Cause and position of a failure. -/
  fail : Option (Nat × Nat)
  maxChange : Nat
  /-- CAL_STALE was found by the pass's own background check. -/
  retryDue : Bool
  deriving DecidableEq, Repr

/-- The time unit. -/
structure TimeUnit where
  primary : DomX
  secondary : DomX
  ports : List (Nat × PtpPort)
  /-- Offset still to be slewed out, and the run time not yet turned into slew, in units of 10 fs (R171). -/
  slewLeft : Int
  slewCredit : Nat
  /-- TIME_CMD STEP waits for its boundary (R178). -/
  stepDue : Bool
  /-- Steering of the last 1,000 s of lock: (run time, FREQ), newest first (R176). -/
  freqs : List (Nat × Int)
  /-- Module Time as saved in MRAM (R194). -/
  saved : Nat
  /-- The last TI edge waiting for its line, and whether TI is usable (R193). -/
  tiEdge : Option Nat
  tiUsable : Bool
  /-- Rings in calibration, and the follower's port means over the cross-link: (port, (RTT, TURN)) (R187). -/
  cals : List (Nat × CalX)
  partnerMeans : List (Nat × (Nat × Nat))
  /-- The last measurement of the pair link, and whether the link was lost with the partner alive (R175). -/
  pairLast : Int
  pairLost : Bool
  deriving DecidableEq, Repr

def DomX.initial : DomX := { offset := 0, heard := false, foreign := [], announced := false, usableSince := none }
def PtpPort.initial : PtpPort :=
  { delay := none, reqSeq := 0, reqSent := none, respWait := none, syncWait := none }
def CalX.initial : CalX :=
  { running := false, reads := [], written := [], wrote := false, fail := none, maxChange := 0, retryDue := false }

/-- The time unit at reset. -/
def TimeUnit.initial : TimeUnit where
  primary := .initial
  secondary := .initial
  ports := []
  slewLeft := 0
  slewCredit := 0
  stepDue := false
  freqs := []
  saved := 0
  tiEdge := none
  tiUsable := false
  cals := []
  partnerMeans := []
  pairLast := 0
  pairLost := false

end Sys2Proof.Machine
end

