-- ==== Sys2Proof/Machine/State.lean ====
section
/-!
DEFINITION. The state of the module, its faults and refusals, and the state right after reset.
-/

namespace Sys2Proof.Machine

/-- The ways a step could stop with a fault. The model has none: every command of the spec is given an effect.
The one constructor is raised by nothing. -/
inductive Fault where
  /-- Raised by no step (safe: it would only stop the machine). -/
  | none_
  deriving DecidableEq, Repr

/-- The ways a step could be refused. -/
inductive Refusal where
  /-- An arm without a meaning; raised by no arm of the finished model (safe). -/
  | notModelled (mnemonic : String)
  deriving DecidableEq, Repr

/-- Everything the spec gives the machine, as plain data. -/
structure State where
  /-- Commands waiting, first in first out. -/
  pending : List Instr
  /-- Module Time in ns (R1). -/
  now : Nat
  /-- Run time in ns, which no step of Module Time moves; timers and durations are kept in it (R178, the model's own). -/
  up : Nat
  /-- The model's own counter from which free values are drawn. -/
  free : Nat
  /-- The host objects whose value differs from the reset value of their table, by address, strictly rising. Objects
  kept per exchange session stand at 2^32 × (session + 1) + address. -/
  regs : List (Nat × Word)
  /-- What the module has sent, newest first. -/
  out : List Out
  sys : Sys
  cat : CatUnit
  ring : RingUnit
  time : TimeUnit
  scan : ScanUnit
  est : EstUnit
  learn : LearnUnit
  therm : ThermUnit
  prot : ProtUnit
  island : Island
  sched : SchedUnit
  loops : LoopUnit
  io : IoUnit
  can : CanUnit
  pwr : PwrUnit
  net : NetUnit
  red : RedUnit
  arc : ArcUnit
  sec : SecUnit
  upd : UpdUnit
  rcd : Recorder
  deriving DecidableEq, Repr

/-- The module right after reset: the reset values of the object tables, and what is kept as shipped (logs 10, 11, 13). -/
def State.reset : State where
  pending := []
  now := 0
  up := 0
  free := 0
  regs := []
  out := []
  sys :=
    { powered := true, mode := .boot, prev := .boot, trans := .boot, unitB := false, cable := false, own := false, peerOwn := false,
      lockstep := false, mismatchHold := false, autoRun := false, partnerWait := false, bootPartnerLost := false,
      lockoutLatch := false, tripPending := false, resetDue := false, wakeDue := false, lossPending := false, switchDue := false,
      switchToStop := false, serviceFrom := .stop, parkedFrom := .stop, latched := [], modeCmds := [],
      transTrig := .powerUp, phase := 100000,
      restart := ⟨false, false, 0⟩, bootCold := false, bootedAt := 0, limitDue := false, fatals := [], brownOut := false, chargeWait := false, recovery := false }
  cat :=
    { slot0 := ⟨[]⟩, slot1 := ⟨[]⟩, selA := ⟨0, 0, true⟩, selB := ⟨0, 0, false⟩, cat := none, activation := none,
      oldRevision := 0 }
  ring :=
    { ports := [], rings := [], nodes := [], queue := [], held := [], txns := [], ended := [], results := [], nextId := 0,
      localCount := 0, indexUsed := [], staged := [], cmdBytes := [] }
  time := .initial
  scan := .initial
  est := .initial
  learn := .initial
  therm := .initial
  prot := .initial
  island := .initial
  sched := .initial
  loops := .initial
  io := .initial
  can := .initial
  pwr := .initial
  net := .initial
  red := .initial
  arc := .initial
  sec := .initial
  upd := .initial
  rcd :=
    { buffer := [], seqs := [], seqBase := 0, seqFloor := 0, nextRn := 0, flushedRn := 0, pages := [], block := 0,
      page := 0, aheadErased := true, wrapped := false, retired := [], lostRun := 0, flushing := false,
      flushDue := false, lastFlush := 0, lastWords := [], pfBegun := false, pfMark := false, ringRn := 0, archRn := 0 }

end Sys2Proof.Machine
end

