-- ==== Sys2Proof/Machine/Ops.lean ====
section
/-!
DEFINITION. The named operations over the state: sparse tables, host objects, counters and flags, command status
(R661), events and their records (R552 to R558), outputs and free values.
-/

namespace Sys2Proof.Machine

/-! ### Sparse tables keyed by number, keys strictly rising -/

/-- The entry of a key, or a default. -/
def lookupD {α : Type} (d : α) : List (Nat × α) → Nat → α
  | [], _ => d
  | (k, v) :: t, a => if k == a then v else lookupD d t a

/-- The table with an entry set. -/
def upsert {α : Type} (a : Nat) (v : α) : List (Nat × α) → List (Nat × α)
  | [] => [(a, v)]
  | (k, w) :: t => if a < k then (a, v) :: (k, w) :: t else if k == a then (a, v) :: t else (k, w) :: upsert a v t

/-- The table without a key. -/
def eraseKey {α : Type} (a : Nat) : List (Nat × α) → List (Nat × α)
  | [] => []
  | (k, w) :: t => if k == a then t else (k, w) :: eraseKey a t

/-- Whether a table has a key. -/
def hasKey {α : Type} (a : Nat) (l : List (Nat × α)) : Bool := l.any fun x => x.1 == a

/-! ### Host objects -/

/-- SENS_LIMITS of the 16 sensors (R643): WARN_HI, ALARM_HI, WARN_LO, ALARM_LO in °C. -/
def sensorLimits (i : Nat) : Int × Int × Int × Int :=
  if i ≤ 4 then (100, 110, -35, -40)
  else if i ≤ 7 then (85, 95, -35, -40)
  else if i ≤ 12 then (70, 80, -35, -40)
  else if i == 13 then (100, 115, -35, -40)
  else if i == 14 then (75, 85, -35, -40)
  else (55, 60, -35, -40)

/-- The items that the factory sets: SERIAL, UNIT_MAC, SALT. -/
def factoryItem (a : Nat) : Bool :=
  (decide (Obj.mod.serial ≤ a) && decide (a < Obj.mod.serial + 4)) || a == Obj.net.unitMac || a == Obj.net.unitMac + 1 ||
    (decide (Obj.safe.salt ≤ a) && decide (a < Obj.safe.salt + 4))

/-- The value an object has where nothing else is listed: its table's reset value (R30 and following), for a key with
or without a session part. The value words of SNAPSHOT stand at no sample (R225). -/
def objReset (key : Nat) : Word :=
  let a := key % 2 ^ 32
  if a / 2 ^ 24 == 0x16 && a % 128 == 2 && decide (16 ≤ a / 128 % 2 ^ 17) && decide (a / 128 % 2 ^ 17 < 32) then
    let (wh, ah, wl, al) := sensorLimits (a / 128 % 2 ^ 17 - 16)
    w32 (bitsOfInt 8 wh * 2 ^ 24 + bitsOfInt 8 ah * 2 ^ 16 + bitsOfInt 8 wl * 2 ^ 8 + bitsOfInt 8 al)
  else if a / 2 ^ 24 == 0x05 && decide (0x0A ≤ a % 128) && decide (a % 128 ≤ 0x11) then w32 0x80000000
  else if factoryItem a then Config.factoryWord a
  else match objDefAt a with
    | some d => w32 d.reset
    | none => 0

/-- The listed value of a key. -/
def regFind : List (Nat × Word) → Nat → Option Word
  | [], _ => none
  | (k, v) :: t, a => if k == a then some v else regFind t a

/-- The list with a key's entry put in front of the first greater key. -/
def regInsert (a : Nat) (v : Word) : List (Nat × Word) → List (Nat × Word)
  | [] => [(a, v)]
  | (k, w) :: t => if a < k then (a, v) :: (k, w) :: t else (k, w) :: regInsert a v t

/-- The list with a key's entry inserted, replaced or, for `none`, removed. -/
def regPut (a : Nat) (v : Option Word) (l : List (Nat × Word)) : List (Nat × Word) :=
  let t := l.filter fun x => x.1 != a
  match v with
  | some w => regInsert a w t
  | none => t

/-- The canonical form of the object store: keys strictly rising, no entry equal to its reset value. -/
def regsWf : List (Nat × Word) → Bool
  | [] => true
  | [(k, v)] => v != objReset k
  | (k, v) :: (k', v') :: t => decide (k < k') && v != objReset k && regsWf ((k', v') :: t)

/-- The value of an object item. -/
def State.rd (s : State) (a : Nat) : Word := (regFind s.regs a).getD (objReset a)

/-- The state with an object item set. -/
def State.wr (a : Nat) (v : Word) (s : State) : State :=
  { s with regs := regPut a (if v = objReset a then none else some v) s.regs }

/-- The key of an object item that is kept per exchange session. -/
def sessKey (session a : Nat) : Nat := 2 ^ 32 * (session + 1) + a

/-- The state without the items kept for a session. -/
def State.dropSession (session : Nat) (s : State) : State :=
  { s with regs := s.regs.filter fun x => x.1 / 2 ^ 32 != session + 1 }

/-- A field of an object item, as a number. -/
def State.bits (s : State) (a hi lo : Nat) : Nat := bitsOf hi lo (s.rd a)

/-- The state with a field of an object item set. -/
def State.wrBits (a hi lo v : Nat) (s : State) : State := s.wr a (putBits hi lo v (s.rd a))

/-- A single bit of an object item. -/
def State.bit (s : State) (a i : Nat) : Bool := bitAt i (s.rd a)

/-- The state with a bit of an object item set to a value. -/
def State.wrBit (a i : Nat) (b : Bool) (s : State) : State := s.wrBits a i i b.toNat

/-- The state with a sticky flag set. -/
def State.flag (a i : Nat) (s : State) : State := s.wrBit a i true

/-- The state with a 32-bit counter advanced, saturating at 0xFFFF_FFFF. -/
def State.count (a : Nat) (d : Nat) (s : State) : State := s.wr a (w32 (satAdd 0xFFFFFFFF (s.rd a).toNat d))

/-- A 64-bit object, low word first. -/
def State.rd64 (s : State) (a : Nat) : Nat := (s.rd a).toNat + 2 ^ 32 * (s.rd (a + 1)).toNat

/-- The state with a 64-bit object set, low word first. -/
def State.wr64 (a v : Nat) (s : State) : State := (s.wr a (w32 v)).wr (a + 1) (w32 (v / 2 ^ 32))

/-- The state with consecutive items set. -/
def State.wrList (a : Nat) : List Word → State → State
  | [], s => s
  | w :: t, s => State.wrList (a + 1) t (s.wr a w)

/-- Consecutive items of an object. -/
def State.rdList (s : State) (a n : Nat) : List Word := (List.range n).map fun i => s.rd (a + i)

/-- The state with each of a list of items back at its reset value. -/
def State.clearAll : List Nat → State → State
  | [], s => s
  | a :: t, s => State.clearAll t (s.wr a (objReset a))

/-! ### Command status (R661) -/

/-- OUTCOME codes of status items (R33 and the additions the status items name). -/
abbrev Oc.done : Nat := 0x00
abbrev Oc.inProgress : Nat := 0x01
abbrev Oc.wrongMode : Nat := 0x02
abbrev Oc.busy : Nat := 0x03
abbrev Oc.notReady : Nat := 0x04
abbrev Oc.badValue : Nat := 0x05
abbrev Oc.aborted : Nat := 0x06
abbrev Oc.rejected : Nat := 0x07
abbrev Oc.notAuthorised : Nat := 0x08
abbrev Oc.selfTestFailed : Nat := 0x09
abbrev Oc.failed : Nat := 0x0A
abbrev Oc.unreachable : Nat := 0x0B
abbrev Oc.discarded : Nat := 0x0C
abbrev Oc.nodeStatus : Nat := 0x0D

/-- A status item after an accepted command: its count, its outcome and its code (R661). -/
def State.accept (status code outcome : Nat) (s : State) : State :=
  s.wr status (w32 ((s.bits status 31 16 + 1) % 65536 * 65536 + outcome * 256 + code))

/-- A status item after a refused command: outcome and code, the count unchanged (R661). -/
def State.refuse (status code outcome : Nat) (s : State) : State :=
  s.wr status (w32 (s.bits status 31 16 * 65536 + outcome * 256 + code))

/-- The outcome of the command in progress, its code and count unchanged. -/
def State.setOutcome (status outcome : Nat) (s : State) : State := s.wrBits status 15 8 outcome

/-! ### Outputs and free values -/

/-- The state after sending one thing. -/
def State.emit (o : Out) (s : State) : State := { s with out := o :: s.out }

/-- The next free value (R12 and wherever the spec states no value), and the state that has drawn it. -/
def State.fresh (s : State) : Word × State := (Config.freeWord s.free, { s with free := s.free + 1 })

/-! ### Events and records (R552 to R558) -/

/-- The class of an event code (R11). -/
def classOf (code : Nat) : Nat := code / 32 * 32

/-- Records of classes 0x000, 0x100 and 0x120 may use every entry of the buffer (R558). -/
def reservedClass (code : Nat) : Bool := [0x000, 0x100, 0x120].contains (classOf code)

/-- The newest record of a source. -/
def newestOf (cls inst : Nat) (l : List EvRecord) : Option EvRecord :=
  l.find? fun r => classOf r.code == cls && r.inst == inst

/-- Whether an event merges into a record (R556). -/
def mergesInto (code inst : Nat) (p1 p2 p3 : Word) (now : Nat) (r : EvRecord) : Bool :=
  r.code == code && r.inst == inst && r.p1 == p1 && r.p2 == p2 && r.p3 == p3 && !r.sealed_ &&
    decide (now ≤ r.lastAt + 1000000000)

/-- A record after one merge (R556, R557). -/
def EvRecord.merged (r : EvRecord) (now : Nat) : EvRecord :=
  let n := satAdd 65535 r.repeat_ 1
  { r with repeat_ := n, lastAt := now, gen := (r.gen + 1) % 256, sealed_ := n == 65535 }

/-- The list with its newest record of a source replaced. -/
def updateNewest (cls inst : Nat) (f : EvRecord → EvRecord) : List EvRecord → List EvRecord
  | [] => []
  | r :: t => if classOf r.code == cls && r.inst == inst then f r :: t else r :: updateNewest cls inst f t

/-- A record appended to a buffer held newest first. Records of equal TIME stand in ascending class, source instance
and SEQ (R554); a flushed record and a TIME_STEP record (0x088) are never passed. -/
def appendRec (flushed : Nat) (r : EvRecord) : List EvRecord → List EvRecord
  | [] => [r]
  | h :: t =>
    if h.time == r.time && decide (flushed ≤ h.rn) && h.code != 0x088 &&
        (decide (classOf r.code < classOf h.code) || (classOf r.code == classOf h.code && decide (r.inst < h.inst))) then
      { h with rn := r.rn } :: appendRec flushed { r with rn := h.rn } t
    else r :: h :: t

/-- The counter of a source (R555). -/
def Recorder.seqOf (r : Recorder) (cls inst : Nat) : Nat :=
  match r.seqs.find? (fun x => x.1 == (cls, inst)) with
  | some x => x.2
  | none => r.seqBase

/-- The recorder with a source's counter set. -/
def Recorder.setSeq (r : Recorder) (cls inst v : Nat) : Recorder :=
  { r with seqs := ((cls, inst), v) :: r.seqs.filter fun x => x.1 != (cls, inst) }

/-- Records not yet flushed. -/
def Recorder.unflushed (r : Recorder) : Nat := r.nextRn - r.flushedRn

/-- Appends a record for an event whose source and parameters are given, or drops it where no entry is open to its
class (R555, R557, R558). The flush triggers of R559 that an append sets are noted. -/
def State.appendEvent (code inst : Nat) (p1 p2 p3 : Word) (s : State) : State :=
  let r := s.rcd
  let cap := if reservedClass code then 65536 else 64512
  if cap ≤ r.unflushed then
    ({ s with rcd := { r with lostRun := r.lostRun + 1 } }.count Obj.rcd.lost 1).flag Obj.rcd.recFlags 0
  else
    let cls := classOf code
    let seq := r.seqOf cls inst
    let e : EvRecord :=
      { code := code, powerFail := r.pfBegun, prevLost := r.lostRun != 0, seqSat := seq == 0xFFFFFFFF,
        unitB := s.sys.unitB, untraceable := !s.bit Obj.time.timeStatus 5, sealed_ := false, repeat_ := 0, inst := inst,
        lastAt := s.now, gen := 0, seq := seq, time := s.now, p1 := p1, p2 := p2, p3 := p3, rn := r.nextRn }
    let buf := updateNewest cls inst (fun x => { x with sealed_ := true }) r.buffer
    let r' := (r.setSeq cls inst (satAdd 0xFFFFFFFF seq 1))
    { s with rcd :=
        { r' with
          buffer := (appendRec r.flushedRn e buf).take 65536
          nextRn := r.nextRn + 1
          seqFloor := max r.seqFloor (seq + 1)
          lostRun := 0
          flushDue := r.flushDue || cls == 0x100 || cls == 0x120 || decide (49152 ≤ r.unflushed + 1) } }.count
      Obj.rcd.appended 1

/-- Whether the recorder runs: not de-energised, and not in recovery, which raises no events (R606). -/
def State.recording (s : State) : Bool := s.sys.powered && !s.sys.recovery

/-- Raises an event: merged into the newest record of its source, or appended (R556). A counter that reaches
0xFFFF_FFFF raises 0x1D1 once (R555), and records lost before an append raise 0x1D0 (R558). -/
def State.raise (code inst p1 p2 p3 : Nat) (s : State) : State :=
  if s.recording then
    let r := s.rcd
    let cls := classOf code
    match newestOf cls inst r.buffer with
    | some x =>
      if mergesInto code inst (w32 p1) (w32 p2) (w32 p3) s.now x then
        { s with rcd := { r with buffer := updateNewest cls inst (fun y => y.merged s.now) r.buffer } }.count
          Obj.rcd.merged 1
      else after (s.appendEvent code inst (w32 p1) (w32 p2) (w32 p3))
    | none => after (s.appendEvent code inst (w32 p1) (w32 p2) (w32 p3))
  else s
where
  /-- The events an append itself raises. -/
  after (t : State) : State :=
    let cls := classOf code
    let t := if s.rcd.lostRun != 0 && t.rcd.lostRun == 0 then
        t.appendEvent 0x1D0 0 (w32 s.rcd.lostRun) (w32 (t.rcd.unflushed * 100 / 65536)) 0 else t
    if s.rcd.seqOf cls inst == 0xFFFFFFFE && t.rcd.seqOf cls inst == 0xFFFFFFFF then
      (t.appendEvent 0x1D1 0 (w32 cls) (w32 inst) 0).flag Obj.rcd.recFlags 2
    else t

/-! ### The shape of every meaning -/

/-- A de-energised module asserts no OWN and holds nothing that lives in RAM alone: no session, no ring command under way, no staged host
write (R17, R23 (m)). -/
def State.dark (s : State) : State :=
  if s.sys.powered then s
  else
    { s with
      sys := { s.sys with own := false }
      net := { s.net with sessions := [], reqs := [], modbus := [] }
      ring := { s.ring with txns := [], queue := [], held := [], staged := [], results := [] }
      sched := { s.sched with hostStaged := [] } }

/-- A meaning: the effect of a command on a powered module that runs its firmware. A de-energised module takes nothing but
POWER_UP and HOLDUP_CHARGED (R23 (m), R640), and in recovery the boot ROM serves only what R606 lists. -/
def State.live (f : State → State) (s : State) : Host.Outcome State Fault Refusal :=
  .next (if s.sys.powered && !s.sys.recovery then (f s).dark else s)

/-- A meaning that the boot ROM serves as well (R606). -/
def State.liveRom (f : State → State) (s : State) : Host.Outcome State Fault Refusal :=
  .next (if s.sys.powered then (f s).dark else s)

/-- Ring commands have stopped for a warm restart, a firmware pause or the restart of an activation (R25, R67). -/
def State.restarting (s : State) : Bool :=
  s.sys.trans == .warmRestart || s.sys.trans == .fwPause ||
    (s.sys.trans == .catActivation && (match s.cat.activation with | some a => decide (4 < a.step) | none => false))

/-- The Catalogue in force (R35). -/
def State.catOf (s : State) : Option Catalogue := s.cat.cat

/-- Whether a string is configured. -/
def State.hasString (s : State) (n : Nat) : Bool :=
  match s.catOf with
  | some c => c.strings.any fun r => r.string == n
  | none => false

/-- The module's role (R14): solo with no valid Catalogue. -/
def State.role (s : State) : Nat := match s.catOf with | some c => c.redundancy.role | none => 0

/-- A role other than solo. -/
def State.pairRole (s : State) : Bool := s.role != 0

/-- The running modes (R19). -/
def Mode.running : Mode → Bool
  | .solo | .active | .standby => true
  | _ => false

/-- The code of a mode (R19). -/
def Mode.code : Mode → Nat
  | .boot => 0 | .stop => 1 | .solo => 2 | .active => 3 | .standby => 4 | .service => 5 | .lockout => 6 | .dormant => 7

/-- The code of MODE.TRANS (R31). -/
def Trans.code : Trans → Nat
  | .none => 0 | .boot => 1 | .resync => 2 | .switchOver => 3 | .toStop => 4 | .warmRestart => 5 | .fwPause => 6
  | .park => 7 | .wake => 8 | .catActivation => 9 | .serviceOp => 10

/-- The code of a trigger (R22). -/
def Trigger.code : Trigger → Nat
  | .powerUp => 1 | .booted => 2 | .cmdRun => 3 | .cmdStop => 4 | .cmdService => 5 | .serviceDone => 6 | .cmdSwitch => 7
  | .partnerLost => 8 | .safetyTrip => 9 | .resetEdge => 0xA | .cmdPark => 0xB | .wake => 0xC | .restart => 0xD
  | .fatal => 0xE | .supplyLost => 0xF

/-- The owner of the single-ended outputs: holding OWN, or in the solo role (R17, R21). -/
def State.owner (s : State) : Bool := s.sys.own || !s.pairRole

/-- The ring commander (R18). -/
def State.commander (s : State) : Bool :=
  match s.sys.mode with
  | .solo | .active | .standby => true
  | .boot => false
  | _ => s.owner && s.catOf.isSome

/-- The source instance of the module's own events: 0 for unit A, 1 for unit B (R34). -/
def State.unit (s : State) : Nat := s.sys.unitB.toNat

/-- The protection period in ns (R46), the default where no Catalogue is held. -/
def State.protPeriod (s : State) : Nat :=
  1000 * (match s.catOf with | some c => c.module_.protPeriod | none => 1000)

/-- Time to the next protection-cycle boundary after now (R315), in ns. -/
def State.toBoundary (s : State) : Nat :=
  let p := s.protPeriod
  p - (s.now + p - s.sys.phase % p) % p

/-- Applies a function to the state for each element of a list, in order. -/
def State.each {α : Type} (l : List α) (f : α → State → State) (s : State) : State := l.foldl (fun t x => f x t) s

/-! ### Cross-link messages (R482, R490) -/

/-- A cross-link message with its MSG_SEQ (R482), sent on both links. -/
def State.xSend (m : XMsg) (s : State) : State :=
  let q := s.red.msgSeq
  { s with red := { s.red with msgSeq := q + 1 } }.emit (.xMsg q (s.rd Obj.prot.cycleNo).toNat m)

/-- CYCLE_NO of the first boundary at least 50 µs after now, as AGREE_INPUT tags a write (R490). -/
def State.applyCycle (s : State) : Nat :=
  let left := s.toBoundary
  (s.rd Obj.prot.cycleNo).toNat + (if 50000 ≤ left then 1 else 2)

end Sys2Proof.Machine
end

