-- ==== Sys2Proof/Machine/RingLink.lean ====
section
/-!
DEFINITION. Ring ports and ring state: HEARTBEAT, reach, the six ring states, training, scores (R79 to R111).
The operations a port's events use; what touches transactions stands in RingTxn.
-/

namespace Sys2Proof.Machine

/-- A port after reset. -/
def PortX.initial : PortX :=
  { hb := none, reach := none, hbTick := false, silentAt := 0, faultAt := 0, losAt := 0, trainAt := 0, downCause := 0,
    errSyms := [], retrainAt := none, crcSince := 0, episodes := [], opticalLow := false, testAt := 0, loopbacks := 0, sent := 0,
    reqs := 0, rtts := [], turns := [] }

/-- A ring after reset. -/
def RingX.initial : RingX := { eff := 0, effReachW := 0, effReachE := 0 }

/-- A node after reset. -/
def NodeX.initial : NodeX :=
  { identOk := false, mismatched := false, alerts := [], bidden := false, resetCause := 0, contactCause := 0,
    timeLocked := false }

def State.portX (s : State) (i : Nat) : PortX := lookupD .initial s.ring.ports i
def State.setPortX (i : Nat) (f : PortX → PortX) (s : State) : State :=
  { s with ring := { s.ring with ports := upsert i (f (s.portX i)) s.ring.ports } }
def State.ringX (s : State) (n : Nat) : RingX := lookupD .initial s.ring.rings n
def State.setRingX (n : Nat) (f : RingX → RingX) (s : State) : State :=
  { s with ring := { s.ring with rings := upsert n (f (s.ringX n)) s.ring.rings } }
def State.nodeX (s : State) (i : Nat) : NodeX := lookupD .initial s.ring.nodes i
def State.setNodeX (i : Nat) (f : NodeX → NodeX) (s : State) : State :=
  { s with ring := { s.ring with nodes := upsert i (f (s.nodeX i)) s.ring.nodes } }

/-- LINK codes of PORT_STATUS (R109). -/
abbrev Link.disabled : Nat := 0
abbrev Link.dark : Nat := 1
abbrev Link.training : Nat := 2
abbrev Link.up : Nat := 3
abbrev Link.retired : Nat := 4
abbrev Link.selfTest : Nat := 5

/-- Ring states (R95). -/
abbrev Rs.unconfigured : Nat := 0
abbrev Rs.closed : Nat := 1
abbrev Rs.open_ : Nat := 2
abbrev Rs.segmented : Nat := 3
abbrev Rs.down : Nat := 4
abbrev Rs.miswired : Nat := 5

def State.link (s : State) (i : Nat) : Nat := s.bits (Obj.port.portStatus i) 3 0

/-- A port that is retired, its self-test included (R625). -/
def State.portRetired (s : State) (i : Nat) : Bool := s.link i == Link.retired || s.link i == Link.selfTest

/-- Ports of unconfigured strings are DISABLED; all 512 are enabled while no valid Catalogue is held (R107, R70). -/
def State.portEnabled (s : State) (i : Nat) : Bool := s.catOf.isNone || s.hasString (i % 256)

/-- N of a string's ring; 0 where the string is not configured. -/
def State.ringN (s : State) (n : Nat) : Nat :=
  match s.catOf with
  | some c => match c.rings.find? (fun r => r.string == n) with | some r => r.nodes | none => 0
  | none => 0

/-- A change of LINK with its LINK_TIME (R108). -/
def State.setLink (i l : Nat) (s : State) : State :=
  (s.wrBits (Obj.port.portStatus i) 3 0 l).wr64 (Obj.port.linkTime i) s.now

/-- REACH_W of a port W.n (R94). -/
def reachWOf (n : Nat) : Option HbSeen → Nat
  | none => 0
  | some h => if h.node then min (h.hops + 1) n else n

/-- REACH_E of a port E.n (R94). -/
def reachEOf (n : Nat) : Option HbSeen → Nat
  | none => n + 1
  | some h => if h.node then max (n - h.hops) 1 else 1

/-- A HEARTBEAT that disagrees with N (R95, MISWIRED). -/
def hbMiswired (n : Nat) : Option HbSeen → Bool
  | none => false
  | some h => if h.node then decide (n ≤ h.hops) else h.hops != n

/-- The ring state of two reaches, apart from CLOSED and MISWIRED (R95). -/
def openStateOf (n rw re : Nat) : Nat :=
  if rw = 0 ∧ re = n + 1 then Rs.down else if re ≤ rw + 1 then Rs.open_ else Rs.segmented

/-- Both ports receive ORIGIN 0 with HOPS = N. -/
def bothClosed (n : Nat) (w e : Option HbSeen) : Bool := w == some ⟨false, n⟩ && e == some ⟨false, n⟩

/-- The declared state of a ring: RING.STATE of its string. -/
def State.ringState (s : State) (n : Nat) : Nat := s.bits (Obj.port.ring n) 3 0

def State.reachW (s : State) (n : Nat) : Nat := s.bits (Obj.port.ring n) 13 8
def State.reachE (s : State) (n : Nat) : Nat := s.bits (Obj.port.ring n) 21 16

/-- Sets CAL_STALE of a ring, in RING and in CAL_STATUS (R98, R195). -/
def State.calStale (n : Nat) (s : State) : State := (s.flag (Obj.port.ring n) 24).flag (Obj.cal.calStatus n) 0

/-- Declares a ring state where STATE or a reach changes: event 0x045, CAL_STALE on leaving CLOSED, and MISWIRED with
its event and flags (R96 to R98). `port` is the port that made it so. -/
def State.declareRing (n port st rw re : Nat) (s : State) : State :=
  let old := s.ringState n
  if old = st ∧ s.reachW n = rw ∧ s.reachE n = re then s
  else
    let w := s.rd (Obj.port.ring n)
    let w := putBits 21 16 re (putBits 13 8 rw (putBits 7 4 old (putBits 3 0 st w)))
    let s := (s.wr (Obj.port.ring n) w).raise 0x045 n old st (rw + 256 * re)
    let s := if old = Rs.closed ∧ st ≠ Rs.closed then s.calStale n else s
    if st = Rs.miswired ∧ old ≠ Rs.miswired then
      ((s.raise 0x046 n (s.ringN n) (s.rd (Obj.port.hbLast port)).toNat port).flag (Obj.port.portFlags n) 7).flag
        (Obj.port.portFlags (256 + n)) 7
    else s

/-- Re-derives the state of a string's ring from the reaches in force. CLOSED is held while both ports stay closed and
entered only through RING_RETURN_CLOSED; MISWIRED is left only through MISWIRED_LEFT (R95 to R97). -/
def State.deriveRing (n port : Nat) (s : State) : State :=
  if s.hasString n then
    let len := s.ringN n
    let w := (s.portX n).reach
    let e := (s.portX (256 + n)).reach
    let rw := reachWOf len w
    let re := reachEOf len e
    let st :=
      if hbMiswired len w || hbMiswired len e || s.ringState n == Rs.miswired then Rs.miswired
      else if bothClosed len w e && s.ringState n == Rs.closed then Rs.closed
      else openStateOf len rw re
    s.declareRing n port st rw re
  else s

/-- Takes up a reach at a port (R94). -/
def State.takeReach (i : Nat) (h : Option HbSeen) (s : State) : State :=
  if (s.portX i).reach = h then s
  else
    let s := s.setPortX i fun x => { x with reach := h }
    let s := s.wrBit (Obj.port.portStatus i) 5 (match h with | some x => x.node | none => false)
    s.deriveRing (i % 256) i

/-- Adds points to a port's score: peak, warning at 512 (R103). Retirement above 1,024 is the caller's. -/
def State.portScore (i d : Nat) (s : State) : State :=
  let a := Obj.port.score i
  let old := s.bits a 15 0
  let new := satAdd 65535 old d
  let s := s.wr a (w32 (max (s.bits a 31 16) new * 65536 + new))
  if old < 512 ∧ 512 ≤ new then (s.flag (Obj.port.portFlags i) 6).raise 0x04A i new 0 0 else s

/-- A counted retrain of a port (R91, R98, R103). -/
def State.countRetrain (i cause : Nat) (s : State) : State :=
  let s := (s.count (Obj.port.retrains i) 1).flag (Obj.port.portFlags i) 2
  let s := s.setPortX i fun x =>
    { x with
      downCause := cause, retrainAt := some s.up, crcSince := 0, errSyms := [], trainAt := s.up
      rtts := [], turns := [] }
  ((s.raise 0x041 i cause (s.bits (Obj.port.score i) 15 0) 0).calStale (i % 256)).portScore i 32

/-- An UP interface drops to step 2 of training (R91). -/
def State.dropToTraining (i cause : Nat) (s : State) : State :=
  if s.link i = Link.up then (s.countRetrain i cause).setLink i Link.training else s

/-- The indices of all ports. -/
def allPorts : List Nat := List.range 512

/-! ### Meanings that reach no transaction -/

/-- HEARTBEAT_SEND (R85): every UP port that is enabled sends HEARTBEAT with ORIGIN 0, HOPS 0; a port that received
none since the last period counts it in HB_MISSED (R108). -/
def heartbeatPort (i : Nat) (s : State) : State :=
  if s.portEnabled i && !s.portRetired i then
    let s := if (s.portX i).hbTick then s else s.count (Obj.port.hbMissed i) 1
    let s := s.setPortX i fun x => { x with hbTick := false }
    if s.link i = Link.up then s.emit (.orderedSet i .heartbeat 0) else s
  else s

def execHeartbeatSend (s : State) : Host.Outcome State Fault Refusal := s.live (State.each allPorts heartbeatPort)

/-- HEARTBEAT_RECEIVE (R86, R94): HB_LAST, the end of silence, and the reach once two agree. A port that is not UP
loses it (R91); a port in self-test takes it for its test only. -/
def heartbeatReceive (i : Nat) (node : Bool) (hops : Nat) (s : State) : State :=
  if s.link i = Link.up then
    let a := Obj.port.hbLast i
    let s := s.wr a (w32 ((s.bits a 31 16 + 1) % 65536 * 65536 + node.toNat * 128 + hops))
    let x := s.portX i
    let s := if s.bit (Obj.port.portStatus i) 7 then
        (s.wrBit (Obj.port.portStatus i) 7 false).raise 0x044 i (s.rd a).toNat ((s.up - x.silentAt) / 1000) 0 else s
    let h : HbSeen := ⟨node, hops⟩
    let s := s.setPortX i fun y => { y with hb := some h, hbTick := true }
    if x.hb = some h then s.takeReach i (some h) else s
  else s

def execHeartbeatReceive (port : Fin 512) (node : Bool) (hops : Fin 64) (s : State) : Host.Outcome State Fault Refusal :=
  s.live (heartbeatReceive port node hops)

/-- PORT_SILENT (R86): SILENT, its flag and event 0x043. -/
def portSilent (i : Nat) (s : State) : State :=
  if s.bit (Obj.port.portStatus i) 7 then s
  else
    let s := (s.flag (Obj.port.portStatus i) 7).flag (Obj.port.portFlags i) 4
    (s.setPortX i fun x => { x with silentAt := s.up, hb := none }).raise 0x043 i (s.rd (Obj.port.hbLast i)).toNat 0 0

def execPortSilent (port : Fin 512) (s : State) : Host.Outcome State Fault Refusal := s.live (portSilent port)

/-- SILENT_REACH_EXPIRY (R94): a port silent for 200 µs takes reach 0 or N + 1. -/
def execSilentReachExpiry (port : Fin 512) (s : State) : Host.Outcome State Fault Refusal :=
  s.live fun s => if s.bit (Obj.port.portStatus port) 7 then s.takeReach port none else s

/-- RING_RETURN_CLOSED (R96): CLOSED after 1 ms of ORIGIN 0 with HOPS = N at both ports. -/
def ringReturnClosed (n : Nat) (s : State) : State :=
  let len := s.ringN n
  if s.hasString n && bothClosed len (s.portX n).reach (s.portX (256 + n)).reach && s.ringState n != Rs.miswired then
    s.declareRing n n Rs.closed len 1
  else s

def execRingReturnClosed (string : Fin 256) (s : State) : Host.Outcome State Fault Refusal :=
  s.live (ringReturnClosed string)

/-- MISWIRED_LEFT (R97): every HEARTBEAT for 1 ms consistent with N. -/
def miswiredLeft (n : Nat) (s : State) : State :=
  let len := s.ringN n
  let w := (s.portX n).reach
  let e := (s.portX (256 + n)).reach
  if s.ringState n = Rs.miswired ∧ hbMiswired len w = false ∧ hbMiswired len e = false then
    let rw := reachWOf len w
    let re := reachEOf len e
    s.declareRing n n (if bothClosed len w e then Rs.closed else openStateOf len rw re) rw re
  else s

def execMiswiredLeft (string : Fin 256) (s : State) : Host.Outcome State Fault Refusal := s.live (miswiredLeft string)

/-- The originating position of a FAULT (R88): HOPS + 1 at W.n, N − HOPS at E.n, 0 outside 1 to N. -/
def faultPosition (i n hops : Nat) : Nat :=
  if i < 256 then (if hops + 1 ≤ n then hops + 1 else 0) else (if hops < n then n - hops else 0)

/-- The port's part of FAULT_RECEIVE (R88): FAULT_ACTIVE, FAULT_LAST, its flag and, at the start of an episode, event
0x047. -/
def portFault (i cause hops : Nat) (s : State) : State :=
  let pos := faultPosition i (s.ringN (i % 256)) hops
  let a := Obj.port.faultLast i
  let active := s.bit (Obj.port.portStatus i) 8
  let s := s.wr a (w32 ((s.bits a 31 16 + 1) % 65536 * 65536 + pos * 256 + cause * 64 + hops))
  let s := (s.flag (Obj.port.portStatus i) 8).flag (Obj.port.portFlags i) 5
  if active then s else (s.setPortX i fun x => { x with faultAt := s.up }).raise 0x047 i cause pos hops

/-- FAULT_ACTIVE_CLEAR (R88): 32 µs after the last FAULT; event 0x048 with the episode's duration. -/
def faultActiveClear (i : Nat) (s : State) : State :=
  if s.bit (Obj.port.portStatus i) 8 then
    let a := Obj.port.faultLast i
    (s.wrBit (Obj.port.portStatus i) 8 false).raise 0x048 i (s.bits a 7 6) (s.bits a 15 8)
      ((s.up - (s.portX i).faultAt) / 1000)
  else s

def execFaultActiveClear (port : Fin 512) (s : State) : Host.Outcome State Fault Refusal := s.live (faultActiveClear port)

/-- LOS_DEASSERT (R90, R103): light returns; an episode shorter than 1 s scores 64; alignment and training proceed. -/
def losDeassert (i : Nat) (s : State) : State :=
  if s.bit (Obj.port.portStatus i) 6 then
    let brief := decide (s.up < (s.portX i).losAt + 1000000000)
    let s := s.wrBit (Obj.port.portStatus i) 6 false
    let s := if brief then s.portScore i 64 else s
    if s.link i = Link.dark then (s.setPortX i fun x => { x with trainAt := s.up }).setLink i Link.training else s
  else s

/-- LINK_UP (R90): UP after 8 TRAIN_ACK each way; event 0x040, and 0x042 where a retrain ends. -/
def linkUp (i : Nat) (s : State) : State :=
  if s.link i = Link.training then
    let x := s.portX i
    let us := (s.up - x.trainAt) / 1000
    let s := (s.setLink i Link.up).raise 0x040 i us (s.rd (Obj.port.retrains i)).toNat 0
    let s := if x.downCause = 0 then s else s.raise 0x042 i x.downCause us 0
    s.setPortX i fun y => { y with downCause := 0, errSyms := [] }
  else s

def execLinkUp (port : Fin 512) (s : State) : Host.Outcome State Fault Refusal := s.live (linkUp port)

/-- OPTICAL_MEASURE (R108, R111): the powers, and OPTICAL_LOW below −15 dBm on an UP port, once until above −14. -/
def opticalMeasure (i : Nat) (launch received : BitVec 16) (s : State) : State :=
  let s := s.wr (Obj.port.optical i) (w32 (launch.toNat * 65536 + received.toNat))
  let r := received.toInt
  if s.link i = Link.up ∧ r < -1500 ∧ (s.portX i).opticalLow = false then
    (s.setPortX i fun x => { x with opticalLow := true }).raise 0x04E i (bitsOfInt 32 r) (bitsOfInt 32 launch.toInt) 0
  else if -1400 < r then s.setPortX i fun x => { x with opticalLow := false }
  else s

def execOpticalMeasure (port : Fin 512) (launch received : BitVec 16) (s : State) : Host.Outcome State Fault Refusal :=
  s.live (opticalMeasure port launch received)

/-- PORT_SCORE_DECAY (R103): every port's score falls by 1, to 0 at least. -/
def scoreDecay (a : Nat) (s : State) : State := s.wrBits a 15 0 (s.bits a 15 0 - 1)

def execPortScoreDecay (s : State) : Host.Outcome State Fault Refusal :=
  s.live (State.each allPorts fun i => scoreDecay (Obj.port.score i))

/-- The codes of PORT_CMD (R108). -/
abbrev PortCmd.retire : Nat := 1
abbrev PortCmd.reinstate : Nat := 2
abbrev PortCmd.retrain : Nat := 3
abbrev PortCmd.clear : Nat := 4

/-- PORT_CMD reaching a port: refused with NOT_READY on a port of an unconfigured string (R108). -/
def portCmd (code i : Nat) (f : State → State) (s : State) : State :=
  if s.hasString (i % 256) then f s else s.refuse (Obj.port.cmdStatus i) code Oc.notReady

/-- The counters of a ring port. -/
def portCounters (i : Nat) : List Nat :=
  [Obj.port.codeErrors i, Obj.port.crcErrors i, Obj.port.retrains i, Obj.port.losEvents i, Obj.port.hbMissed i,
   Obj.port.overruns i, Obj.port.osDiscarded i]

/-- PORT_CLEAR_COUNTERS (R108): counters to 0, the score's peak to its current value. -/
def portClearCounters (i : Nat) : State → State := portCmd PortCmd.clear i fun s =>
  let s := State.clearAll (portCounters i) s
  let c := s.bits (Obj.port.score i) 15 0
  (s.wr (Obj.port.score i) (w32 (c * 65536 + c))).accept (Obj.port.cmdStatus i) PortCmd.clear Oc.done

def execPortClearCounters (port : Fin 512) (s : State) : Host.Outcome State Fault Refusal :=
  s.live (portClearCounters port)

/-- PORT_RETRAIN (R101): the crossing is reset and an UP link retrains; refused with NOT_READY while retired. -/
def portRetrain (i : Nat) : State → State := portCmd PortCmd.retrain i fun s =>
  if s.portRetired i then s.refuse (Obj.port.cmdStatus i) PortCmd.retrain Oc.notReady
  else (s.dropToTraining i 2).accept (Obj.port.cmdStatus i) PortCmd.retrain Oc.done

/-- PORT_REINSTATE (R106, R625): a retired port begins its self-test; NOT_READY where not retired, BUSY in a test. -/
def portReinstate (i : Nat) : State → State := portCmd PortCmd.reinstate i fun s =>
  if s.link i = Link.selfTest then s.refuse (Obj.port.cmdStatus i) PortCmd.reinstate Oc.busy
  else if s.link i = Link.retired then
    ((s.setPortX i fun x => { x with testAt := s.up }).setLink i Link.selfTest).accept (Obj.port.cmdStatus i)
      PortCmd.reinstate Oc.inProgress
  else s.refuse (Obj.port.cmdStatus i) PortCmd.reinstate Oc.notReady

def execPortReinstate (port : Fin 512) (s : State) : Host.Outcome State Fault Refusal := s.live (portReinstate port)

/-- PORT_SELF_TEST_DONE (R106): on a pass UP with score 0 and event 0x04C; on a fail RETIRED, event 0x04D and
SELF_TEST_FAILED. `failedStep` 0 is a pass. -/
def portSelfTestDone (i failedStep : Nat) (s : State) : State :=
  if s.link i = Link.selfTest then
    let st := Obj.port.cmdStatus i
    if failedStep = 0 then
      let s := (s.wrBits (Obj.port.portStatus i) 23 16 0).setLink i Link.up
      let s := s.wrBits (Obj.port.score i) 15 0 0
      (s.setOutcome st Oc.done).raise 0x04C i ((s.up - (s.portX i).testAt) / 1000000) 0 0
    else ((s.setLink i Link.retired).setOutcome st Oc.selfTestFailed).raise 0x04D i failedStep 0 0
  else s

def execPortSelfTestDone (port : Fin 512) (failedStep : Fin 4) (s : State) : Host.Outcome State Fault Refusal :=
  s.live (portSelfTestDone port failedStep)

end Sys2Proof.Machine
end

