-- ==== Sys2Proof/Machine/RingTxn.lean ====
section
/-!
DEFINITION. Frames and transactions at the module: sender identification, addressing, sequence numbers, queues,
retries, failures, discards, retirement of ports (R104, R105, R112 to R162, R619, R627, R631).
-/

namespace Sys2Proof.Machine

/-- The instance of a node in space 0x04 (R7). -/
abbrev nodeInst (string p : Nat) : Nat := string * 64 + p

/-- The NODES record of a node. -/
def State.nodeRec (s : State) (string p : Nat) : Option NodeRec :=
  match s.catOf with
  | some c => c.nodes.find? fun r => r.string == string && r.p == p
  | none => none

/-- Opcodes of R135. -/
abbrev Op.identify : Nat := 0x01
abbrev Op.configure : Nat := 0x02
abbrev Op.cycle : Nat := 0x03
abbrev Op.sample : Nat := 0x04
abbrev Op.capture : Nat := 0x05
abbrev Op.balance : Nat := 0x06
abbrev Op.contactor : Nat := 0x07
abbrev Op.read : Nat := 0x08
abbrev Op.write : Nat := 0x09
abbrev Op.clear : Nat := 0x0A
abbrev Op.resetNode : Nat := 0x0B

/-- The priority of an opcode's frame (R135). -/
def opPrio (op : Nat) : Nat :=
  match op with
  | 0x03 | 0x07 => 1
  | 0x04 | 0x05 | 0x06 | 0x0A => 2
  | _ => 3

/-- Whether an opcode is a transaction (R135). -/
def opTransaction (op : Nat) : Bool := [0x01, 0x02, 0x07, 0x08, 0x09, 0x0A, 0x0B].contains op

/-- The state-setting commands (R131). -/
def opStateSetting (op : Nat) : Bool := [0x02, 0x03, 0x06, 0x07, 0x09, 0x0A, 0x0B].contains op

/-- Local space carries only IDENTIFY and READ (R128). -/
def opLocal (op : Nat) : Bool := op == 0x01 || op == 0x08

/-- The code of a scope (R114). -/
def Scope.code : Scope → Nat
  | .single => 0 | .kind => 1 | .all => 2

/-- TARGET of a command on a port (R124). -/
def targetOn (n port : Nat) (scope : Scope) (target : Nat) : Nat :=
  match scope with
  | .single => if port < 256 then target else n + 1 - target
  | .kind => target
  | .all => 0

/-- Whether a node reaches the module at a port of its string (R94). -/
def State.reaches (s : State) (port p : Nat) : Bool :=
  let n := port % 256
  if port < 256 then decide (p ≤ s.reachW n) else decide (s.reachE n ≤ p)

/-- The ports through which a command leaves (R124): none on a MISWIRED ring (R97) and none from a listener (R18). -/
def State.portsFor (s : State) (string : Nat) (scope : Scope) (target : Nat) : List Nat :=
  if s.commander && s.ringState string != Rs.miswired then
    [string, 256 + string].filter fun i =>
      s.link i == Link.up && (match scope with | .single => s.reaches i target | _ => true)
  else []

/-- The configured nodes a command addresses and whose reply is awaited (R151): those that reach a port. -/
def State.expected (s : State) (r : RingReq) : List Nat :=
  match r.scope with
  | .single => [r.target]
  | sc =>
    match s.catOf with
    | none => []
    | some c => ((c.nodes.filter fun n => n.string == r.string &&
        (sc == .all || r.target / 2 ^ n.kind % 2 == 1) &&
        (s.reaches r.string n.p || s.reaches (256 + r.string) n.p)).map NodeRec.p)

/-- The instance that a transaction's events name: its node, or the string's instance 0 in kind and all scope. -/
def RingReq.inst (r : RingReq) : Nat := nodeInst r.string (match r.scope with | .single => r.target | _ => 0)

/-- Hands the end of a transaction to its owner, and to CMD_STATUS where a NODE_CMD asked (R160). -/
def State.txnResult (r : RingReq) (e : TxnEnd) (data : List Word) (s : State) : State :=
  let s := { s with ring := { s.ring with results := s.ring.results ++ [⟨r, e, data⟩] } }
  let s := match e with
    | .failed | .discarded =>
      (s.count (Obj.node.txnFailed r.inst) 1).flag (Obj.node.nodeFlags r.inst) 1
    | .ok | .status _ => s.count (Obj.node.txns r.inst) 1
    | .unreachable => s
  match r.owner with
  | .nodeCmd code =>
    let st := Obj.node.cmdStatus r.inst
    if s.bits st 7 0 = code then
      s.setOutcome st (match e with
        | .ok => Oc.done | .status _ => Oc.nodeStatus | .failed => Oc.failed | .unreachable => Oc.unreachable
        | .discarded => Oc.discarded)
    else s
  | _ => s

/-- A transaction that can leave through no port (R124): event 0x06F. -/
def State.txnUnreachable (r : RingReq) (s : State) : State :=
  (s.raise 0x06F r.inst r.opcode (s.reachW r.string) (s.reachE r.string)).txnResult r .unreachable []

/-- Requests standing in the queue of a port. -/
def State.queuedOn (s : State) (port : Nat) : Nat := (s.ring.queue.filter fun r => r.ports.contains port).length

/-- A request enters the queues of its ports, or is held where one of them is full, with event 0x070 (R150). -/
def State.enqueue (r : RingReq) (s : State) : State :=
  match r.ports.find? (fun i => decide (256 ≤ s.queuedOn i)) with
  | some i => { s with ring := { s.ring with held := s.ring.held ++ [r] } }.raise 0x070 i (s.queuedOn i) 0 0
  | none => { s with ring := { s.ring with queue := s.ring.queue ++ [r] } }

/-- Requests a command of the ring protocol as a transaction (R124, R150). -/
def State.request (string op : Nat) (scope : Scope) (target : Nat) (payload : List Byte) (owner : TxnOwner)
    (host : Option (Nat × Nat)) (s : State) : State :=
  let ports := s.portsFor string scope target
  let r : RingReq :=
    { id := s.ring.nextId, string := string, opcode := op, prio := opPrio op, scope := scope
      target := target, payload := payload, owner := owner, ports := ports, host := host }
  let s := { s with ring := { s.ring with nextId := s.ring.nextId + 1 } }
  if ports = [] then s.txnUnreachable r else s.enqueue r

/-- Entries in use on a port (R150). -/
def State.entriesOn (s : State) (port : Nat) : Nat := (s.ring.txns.filter fun t => t.ports.contains port).length

/-- Whether a state-setting request is held behind an outstanding one that addresses a node of it (R152). -/
def State.heldBack (s : State) (r : RingReq) : Bool :=
  opStateSetting r.opcode && s.ring.txns.any fun t => t.req.string == r.string && opStateSetting t.req.opcode &&
    (t.req.scope != .single || r.scope != .single || t.req.target == r.target)

/-- Pair-space commands committed on a string in this cycle (R128). -/
def State.indexOf (s : State) (string : Nat) : Nat := lookupD 0 s.ring.indexUsed string

/-- The next SEQ of a command (R127), and the state that has used it: local space for IDENTIFY and READ, pair space
with the committing cycle and INDEX for the rest. -/
def State.takeSeq (string op : Nat) (s : State) : Word × State :=
  if opLocal op then
    (w32 (2 ^ 31 + s.sys.unitB.toNat * 2 ^ 30 + s.ring.localCount % 2 ^ 30),
     { s with ring := { s.ring with localCount := s.ring.localCount + 1 } })
  else
    let i := s.indexOf string
    (w32 ((s.rd Obj.prot.cycleNo).toNat % 2 ^ 25 * 64 + i % 64),
     { s with ring := { s.ring with indexUsed := upsert string (i + 1) s.ring.indexUsed } })

/-- Sends a command frame on ports of its string (R113, R124); a pair-space command counts for the digest of R493. -/
def State.sendOn (r : RingReq) (seq : Word) (retry : Bool) (ports : List Nat) (s : State) : State :=
  let s := if retry || opLocal r.opcode then s
    else
      let b := leBytes r.string 2 ++ leBytes r.opcode 1 ++ leBytes r.scope.code 1 ++ leBytes r.target 2 ++ leBytes seq.toNat 4 ++ r.payload
      { s with ring := { s.ring with cmdBytes := s.ring.cmdBytes ++ b } }
  s.each ports fun i t => (t.setPortX i fun x => { x with sent := x.sent + 1 }).emit (.ringFrame i
    { prio := r.prio, scope := r.scope.code, retry := retry, opcode := r.opcode,
      target := targetOn (t.ringN r.string) i r.scope r.target, seq := seq, payload := r.payload })

/-- Sends a transaction at a commit, taking its entries (R150, R151). -/
def State.sendTxn (r : RingReq) (s : State) : State :=
  let ports := r.ports.filter (s.portsFor r.string r.scope r.target).contains
  if ports = [] then s.txnUnreachable r
  else
    let (seq, s) := s.takeSeq r.string r.opcode
    let t : Txn :=
      { req := { r with ports := ports }, seq := seq, ports := ports, sentAt := s.up, attempts := 1
        expect := s.expected r, got := [], bad := 0 }
    let s := { s with ring := { s.ring with txns := s.ring.txns ++ [t] } }
    s.sendOn r seq false ports

/-- One pass over the queued requests in order of priority: a request is sent where it heads all its queues, every
port has a free entry and nothing holds it back; otherwise it stays and holds back those behind it (R150, R152). -/
def commitQueue : List RingReq → List Nat → State → State
  | [], _, s => s
  | r :: t, blocked, s =>
    let stays := r.ports.any blocked.contains || r.ports.any (fun i => decide (8 ≤ s.entriesOn i)) || s.heldBack r ||
      (!opLocal r.opcode && decide (64 ≤ s.indexOf r.string))
    if stays then commitQueue t (blocked ++ r.ports) s
    else
      let s := { s with ring := { s.ring with queue := s.ring.queue.filter (fun q => q.id != r.id) } }
      commitQueue t blocked (s.sendTxn r)

/-- Requests held by a full queue enter it as space frees, in order (R150). -/
def admitHeld : List RingReq → State → State
  | [], s => s
  | r :: t, s =>
    if r.ports.any fun i => decide (256 ≤ s.queuedOn i) then admitHeld t s
    else
      admitHeld t { s with ring := { s.ring with
        queue := s.ring.queue ++ [r], held := s.ring.held.filter (fun q => q.id != r.id) } }

/-- The transactions a commit sends (R150, R151). -/
def State.commitTxns (s : State) : State :=
  let q := s.ring.queue
  let order := (q.filter fun r => r.prio == 1) ++ (q.filter fun r => r.prio == 2) ++ (q.filter fun r => r.prio == 3)
  let s := commitQueue order [] s
  admitHeld s.ring.held s

/-- Commits a command that takes no entry: CYCLE, SAMPLE, CAPTURE, BALANCE. One that can leave through no port is not
sent and reports nothing (R124). -/
def State.commitPlain (string op : Nat) (scope : Scope) (target : Nat) (payload : List Byte) (s : State) : State :=
  let ports := s.portsFor string scope target
  if ports = [] then s
  else
    let (seq, s) := s.takeSeq string op
    s.sendOn
      { id := 0, string := string, opcode := op, prio := opPrio op, scope := scope, target := target
        payload := payload, owner := .module_, ports := ports, host := none }
      seq false ports

/-- Removes a transaction from the table. -/
def State.dropTxn (id : Nat) (s : State) : State :=
  { s with ring := { s.ring with txns := s.ring.txns.filter (fun t => t.req.id != id) } }

/-- Marks a transaction as one whose replies are late from now on (R153). -/
def State.markEnded (t : Txn) (s : State) : State :=
  { s with ring := { s.ring with ended := ⟨t.req.string, t.seq, t.req.opcode⟩ :: s.ring.ended } }

/-- Discards a transaction: outcome DISCARDED and event 0x066 with its cause (R153, R619, R627). -/
def State.discardTxn (cause : Nat) (t : Txn) (s : State) : State :=
  (((s.dropTxn t.req.id).markEnded t).raise 0x066 t.req.inst t.req.opcode t.seq.toNat cause).txnResult t.req .discarded []

/-- Discards a request that was never sent, the same way (R619, R628). -/
def State.discardReq (cause : Nat) (r : RingReq) (s : State) : State :=
  let s := { s with ring := { s.ring with
    queue := s.ring.queue.filter (fun q => q.id != r.id), held := s.ring.held.filter (fun q => q.id != r.id) } }
  (s.raise 0x066 r.inst r.opcode 0 cause).txnResult r .discarded []

/-- Discards every transaction that has not ended, sent or queued (R619). -/
def State.discardAllTxns (cause : Nat) (s : State) : State :=
  let s := s.each s.ring.txns (State.discardTxn cause)
  s.each (s.ring.queue ++ s.ring.held) (State.discardReq cause)

/-- Ends a transaction that all addressed nodes answered: OK, or the first other status (R151). -/
def State.completeTxn (t : Txn) (data : List Word) (s : State) : State :=
  (s.dropTxn t.req.id).txnResult t.req (if t.bad = 0 then .ok else .status t.bad) data

/-- The transaction of an identifier. -/
def State.txn (s : State) (id : Nat) : Option Txn := s.ring.txns.find? fun t => t.req.id == id

/-- TXN_RETRY (R151, R631): the same frame with RETRY 1 through the ports that still reach the node, at most 3 times;
where none reaches it the transaction fails with UNREACHABLE. -/
def txnRetry (id : Nat) (s : State) : State :=
  match s.txn id with
  | none => s
  | some t =>
    if 4 ≤ t.attempts then s
    else
      let ports := t.ports.filter (s.portsFor t.req.string t.req.scope t.req.target).contains
      if ports = [] then ((s.dropTxn id).markEnded t).txnUnreachable t.req
      else
        let s := { s with ring := { s.ring with txns := s.ring.txns.map (fun (x : Txn) =>
          if x.req.id == id then { x with attempts := x.attempts + 1 } else x) } }
        let s := s.each (t.expect.filter fun p => !t.got.contains p) fun p u =>
          u.count (Obj.node.retries (nodeInst t.req.string p)) 1
        s.sendOn t.req t.seq true ports

/-- TXN_FAILED (R151): 250 µs after the first transmission; event 0x065. -/
def txnFailed (id : Nat) (s : State) : State :=
  match s.txn id with
  | none => s
  | some t =>
    (((s.dropTxn id).markEnded t).raise 0x065 t.req.inst t.req.opcode t.seq.toNat t.attempts).txnResult t.req .failed []

/-- TXN_DISCARDED (R153): the upper deadline TXN_TIMEOUT. -/
def txnDiscarded (id : Nat) (s : State) : State :=
  match s.txn id with
  | none => s
  | some t => s.discardTxn 1 t

/-! ### Node frames -/

/-- The sender's position of a node frame on a ring of N nodes (R125). -/
def senderOf (n : Nat) (f : NodeFrame) : Nat :=
  if f.srcW.toNat = 0 then n + 1 - f.srcE.toNat else f.srcW.toNat

/-- Whether a node frame's hop indices agree with N and with the reach of the port it arrived at (R125). -/
def State.frameLocated (s : State) (f : NodeFrame) : Bool :=
  let str := f.port.val % 256
  let n := s.ringN str
  let w := f.srcW.toNat
  let e := f.srcE.toNat
  let p := senderOf n f
  (w == 0 || e == 0 || w + e == n + 1) && decide (1 ≤ p) && decide (p ≤ n) && s.reaches f.port.val p

/-- Receives a good node frame (R125): an UP port of a configured string; a position mismatch is discarded with its
flag and event 0x069; otherwise HOPS and LAST_SEEN are noted and `k` continues with string and position. -/
def State.nodeFrame (f : NodeFrame) (k : Nat → Nat → State → State) (s : State) : State :=
  let i := f.port.val
  let str := i % 256
  let n := s.ringN str
  if s.hasString str && s.link i == Link.up then
    let p := senderOf n f
    if s.frameLocated f then
      let a := nodeInst str p
      let s := (s.wr (Obj.node.hops a) (w32 (f.srcE.toNat * 256 + f.srcW.toNat))).wr64 (Obj.node.lastSeen a) s.now
      k str p s
    else
      let s := if 1 ≤ p ∧ p ≤ n then s.flag (Obj.node.nodeFlags (nodeInst str p)) 3 else s
      s.raise 0x069 i f.srcW.toNat f.srcE.toNat n
  else s

/-- The field in which an IDENT disagrees with the NODES record, with the values expected and found (R144): 1 serial,
2 kind, 3 cells, 4 temps, 5 protocol. -/
def identMismatch (r : NodeRec) (b : List Byte) : Option (Nat × Nat × Nat) :=
  let low := leAt b 0 4
  if r.serial ≠ 0 ∧ r.serial ≠ low then some (1, r.serial, low)
  else if byteAt b 8 ≠ r.kind then some (2, r.kind, byteAt b 8)
  else if byteAt b 9 ≠ r.cells then some (3, r.cells, byteAt b 9)
  else if byteAt b 10 ≠ r.temps then some (4, r.temps, byteAt b 10)
  else if byteAt b 18 ≠ 1 then some (5, 1, byteAt b 18)
  else none

/-- Uses a good IDENT (R144): SERIAL, FW_VERSION, event 0x060, and the comparison that allows or blocks
configuration. -/
def useIdent (str p : Nat) (b : List Byte) (s : State) : State :=
  match s.nodeRec str p with
  | none => s
  | some r =>
    let a := nodeInst str p
    let s := (s.wr64 (Obj.node.serial a) (leAt b 0 8)).wr (Obj.node.fwVersion a) (w32 (leAt b 14 4))
    let s := s.raise 0x060 a (leAt b 0 4) (byteAt b 8 + 256 * byteAt b 9 + 65536 * byteAt b 10) (leAt b 14 4)
    match identMismatch r b with
    | none => s.setNodeX a fun x => { x with identOk := true, mismatched := false }
    | some (field, want, found) =>
      ((s.setNodeX a fun x => { x with identOk := false, mismatched := true }).flag (Obj.node.nodeFlags a) 2).raise
        0x061 a field want found

/-- Whether a reply belongs to a transaction: same string, same SEQ, the command's opcode with bit 7 set (R129, R135),
from a position it expects. -/
def replyMatches (str p : Nat) (f : NodeFrame) (t : Txn) : Bool :=
  t.req.string == str && t.seq == f.seq && f.opcode.toNat == t.req.opcode + 0x80 && t.expect.contains p

/-- The effects of an ACK OK on what the module keeps of a node: CONFIGURE raises 0x062; RESET_NODE is bidden (R145,
R148). -/
def ackEffects (t : Txn) (p status : Nat) (s : State) : State :=
  let a := nodeInst t.req.string p
  if status = 0 ∧ t.req.opcode = Op.configure then
    s.raise 0x062 a (leAt t.req.payload 4 2) (byteAt t.req.payload 3) (byteAt t.req.payload 2)
  else if status = 0 ∧ t.req.opcode = Op.resetNode then s.setNodeX a fun x => { x with bidden := true, identOk := false }
  else s

/-- REPLY_RECEIVE (R151, R153): a reply completes its transaction when every addressed node has answered; a reply for
a discarded or failed transaction is dropped, counted and reported (event 0x067). -/
def replyReceive (f : NodeFrame) : State → State := State.nodeFrame f fun str p s =>
  let a := nodeInst str p
  let st := f.status.toNat
  match s.ring.txns.find? (replyMatches str p f) with
  | some t =>
    let s := s.wrBits (Obj.node.nodeStatus a) 23 16 st
    let s := if st = 0 then s else s.raise 0x068 a t.req.opcode st t.seq.toNat
    let s := if f.opcode = 0x81 ∧ st = 0 then useIdent str p f.payload s else s
    let s := if t.got.contains p then s else ackEffects t p st s
    let t' := { t with got := if t.got.contains p then t.got else p :: t.got, bad := if t.bad = 0 then st else t.bad }
    if t'.expect.all t'.got.contains then
      s.completeTxn t' (if f.opcode = 0x88 then wordsOfBytes f.payload (f.payload.length / 4) else [])
    else
      { s with ring := { s.ring with txns := s.ring.txns.map (fun x => if x.req.id == t.req.id then t' else x) } }
  | none =>
    if s.ring.ended.any fun e => e.string == str && e.seq == f.seq && f.opcode.toNat == e.opcode + 0x80 then
      (s.count (Obj.node.lateReplies a) 1).raise 0x067 a (f.opcode.toNat - 0x80) f.seq.toNat 0
    else s

/-- IDENT_RECEIVE (R144): any good IDENT, a reply to the partner's IDENTIFY included. -/
def identReceive (f : NodeFrame) : State → State :=
  State.nodeFrame f fun str p s => useIdent str p f.payload s

/-- ALERT_RECEIVE (R149): repeated copies are removed by position and SEQ; event 0x06C. -/
def alertReceive (f : NodeFrame) : State → State := State.nodeFrame f fun str p s =>
  let a := nodeInst str p
  let n := f.seq.toNat
  if (s.nodeX a).alerts.contains n then s
  else
    let code := byteAt f.payload 0
    let detail := byteAt f.payload 1
    let value := leAt f.payload 2 2
    let s := s.setNodeX a fun x =>
      { x with alerts := n :: (if code = 7 then [] else x.alerts)
               resetCause := if code = 7 then detail else x.resetCause
               contactCause := if code = 4 then 1 else if code = 5 then 3 else x.contactCause }
    ((s.wr (Obj.node.alertLast a) (w32 (value * 65536 + detail * 256 + code))).flag (Obj.node.nodeFlags a) 0).raise
      0x06C a code detail value

/-- COMMAND_LOOPBACK (R126): a command back at the opposite port of its string counts as a loopback; a SEQ the module
never sent on the string raises 0x06A. -/
def commandLoopback (i : Nat) (seq : Word) (opcode : Nat) (s : State) : State :=
  let sentOn (port : Nat) : Bool := s.out.any fun o => match o with
    | .ringFrame j f => j == port && f.seq == seq && f.opcode == opcode
    | _ => false
  let opp := if i < 256 then i + 256 else i - 256
  if s.link i ≠ Link.up then s
  else if sentOn opp then s.setPortX i fun x => { x with loopbacks := x.loopbacks + 1 }
  else if sentOn i then s
  else s.raise 0x06A i seq.toNat opcode 0

/-! ### Retirement of ports (R104, R105, R619) -/

/-- Releases a retired port's entries and queue places: a transaction left with no entry, and a request left with no
port, is discarded with cause 4 (R619). -/
def State.releasePort (i : Nat) (s : State) : State :=
  let s := s.each (s.ring.txns.filter fun t => t.ports.contains i) fun t u =>
    let rest := t.ports.filter (· != i)
    if rest = [] then u.discardTxn 4 t
    else { u with ring := { u.ring with txns := u.ring.txns.map (fun (x : Txn) =>
      if x.req.id == t.req.id then { x with ports := rest } else x) } }
  s.each ((s.ring.queue ++ s.ring.held).filter fun r => r.ports.contains i) fun r u =>
    let rest := r.ports.filter (· != i)
    if rest = [] then u.discardReq 4 r
    else
      let f (x : RingReq) := if x.id == r.id then { x with ports := rest } else x
      { u with ring := { u.ring with queue := u.ring.queue.map f, held := u.ring.held.map f } }

/-- Retires a port (R104, R105): reason, LINK RETIRED, event 0x04B, reach as a silent port, work released. -/
def State.retirePort (i reason : Nat) (s : State) : State :=
  let s := (s.wrBits (Obj.port.portStatus i) 23 16 reason).setLink i Link.retired
  let s := s.setPortX i fun x => { x with hb := none, errSyms := [], downCause := 0 }
  let s := (s.raise 0x04B i reason (s.bits (Obj.port.score i) 15 0) 0).releasePort i
  s.takeReach i none

/-- Retires a port whose score stands above 1,024 (R104, reason 0x04). -/
def State.checkScore (i : Nat) (s : State) : State :=
  if 1024 < s.bits (Obj.port.score i) 15 0 ∧ s.portRetired i = false then s.retirePort i 4 else s

/-- SYMBOL_ERROR (R84, R91, R103): counts and scores; an ordered set is discarded; 4 errors within 256 symbols, or a
comma off its alignment, retrain an UP port. -/
def symbolError (i symbol : Nat) (place : SymbolPlace) (s : State) : State :=
  if s.link i = Link.up then
    match place with
    | .misaligned => (s.dropToTraining i 2).checkScore i
    | _ =>
      let s := ((s.count (Obj.port.codeErrors i) 1).flag (Obj.port.portFlags i) 3).portScore i 1
      let s := if place = .orderedSet then (s.count (Obj.port.osDiscarded i) 1).portScore i 1 else s
      let burst := match (s.portX i).errSyms with
        | [_, _, c] => decide (symbol < c + 256)
        | _ => false
      let s := if burst then s.dropToTraining i 3
        else s.setPortX i fun x => { x with errSyms := (symbol :: x.errSyms).take 3 }
      s.checkScore i
  else s

/-- LOS_ASSERT (R90, R91, R94): DARK, reach as a silent port; an UP interface counts one retrain. -/
def losAssert (i : Nat) (s : State) : State :=
  if s.bit (Obj.port.portStatus i) 6 then s
  else
    let up := s.link i = Link.up
    let s := ((s.flag (Obj.port.portStatus i) 6).flag (Obj.port.portFlags i) 1).count (Obj.port.losEvents i) 1
    let s := s.setPortX i fun x => { x with losAt := s.up, rtts := [], turns := [] }
    let s := if up then s.countRetrain i 1 else s
    let s := if s.portRetired i || s.link i == Link.disabled then s else s.setLink i Link.dark
    (s.takeReach i none).checkScore i

/-- PORT_OVERRUN (R100, R103): OVERRUN, OVERRUNS, event 0x049 and 16 points; a dropped ordered set is counted. -/
def portOverrun (i : Nat) (os : Bool) (s : State) : State :=
  let s := (s.flag (Obj.port.portFlags i) 0).count (Obj.port.overruns i) 1
  let s := s.raise 0x049 i (s.rd (Obj.port.overruns i)).toNat 0 0
  let s := if os then (s.count (Obj.port.osDiscarded i) 1).portScore i 1 else s
  (s.portScore i 16).checkScore i

/-- A CRC failure after a retrain (R104, reason 0x03): the 16th within 10 s of a retrain is an episode; the third
episode within 60 s retires the port. -/
def crcAfterRetrain (i : Nat) (s : State) : State :=
  let x := s.portX i
  match x.retrainAt with
  | none => s
  | some t =>
    if t + 10000000000 < s.up then s
    else
      let n := x.crcSince + 1
      let s := s.setPortX i fun y => { y with crcSince := n }
      if n = 16 then
        let eps := s.up :: (x.episodes.filter fun e => decide (s.up ≤ e + 60000000000))
        let s := s.setPortX i fun y => { y with episodes := eps }
        if 3 ≤ eps.length ∧ s.portRetired i = false then s.retirePort i 3 else s
      else s

/-- BAD_FRAME (R116, R103, R121): CRC_ERRORS and 4 points; a broken pre-emption rule raises 0x06B. -/
def badFrame (i : Nat) (why : BadFrame) (s : State) : State :=
  if s.link i = Link.up then
    let s := match why with
      | .preemption k => s.raise 0x06B i k.val 0 0
      | _ => s
    ((crcAfterRetrain i ((s.count (Obj.port.crcErrors i) 1).portScore i 4))).checkScore i
  else s

end Sys2Proof.Machine
end

