-- ==== Sys2Proof/Machine/Time.lean ====
section
/-!
DEFINITION. The time unit: PTP, domains, source selection, steps and slews, ring TIME and hop-delay calibration, time
input and output (R163 to R197, R633).
-/

namespace Sys2Proof.Machine

/-- The state with its time unit changed. -/
def State.modTime (f : TimeUnit → TimeUnit) (s : State) : State := { s with time := f s.time }

/-- TIME_STATUS.STATE codes (R196). -/
abbrev Ts.freerun : Nat := 0
abbrev Ts.primary : Nat := 1
abbrev Ts.secondary : Nat := 2
abbrev Ts.holdover : Nat := 3
abbrev Ts.pair : Nat := 4
abbrev Ts.ti : Nat := 5

/-- DOM_STATUS.SERVO codes (R196). -/
abbrev Sv.off : Nat := 0
abbrev Sv.acquiring : Nat := 1
abbrev Sv.locked : Nat := 2
abbrev Sv.lost : Nat := 3

def State.timeState (s : State) : Nat := s.bits Obj.time.timeStatus 3 0
def State.setTimeState (v : Nat) (s : State) : State := s.wrBits Obj.time.timeStatus 3 0 v

/-- The time leader (R173): the holder of OWN, unit A where neither holds it, a solo module itself. -/
def State.leader (s : State) : Bool := !s.pairRole || s.sys.own || (!s.sys.peerOwn && !s.sys.unitB)

/-- Short Time of a Module Time (R164). -/
def shortOf (t : Nat) : Nat := t / 4 % 2 ^ 32

/-- The difference of two Short Times in ticks, read as a signed 32-bit integer (R165). -/
def shortDiff (a b : Nat) : Int := signedOf 32 (a + 2 ^ 32 - b % 2 ^ 32)

/-- WINDOW_ERROR with event 0x091 (R165, R166). -/
def State.windowError (short who : Nat) (s : State) : State :=
  (s.flag Obj.time.timeFlags 5).raise 0x091 0 short (shortOf s.now) who

/-- Whether a commanded instant lies within the 2,000,000,000 ticks that Short Time comparison allows (R165). -/
def State.inWindow (s : State) (t : Nat) : Bool :=
  decide (t ≤ s.now + 8000000000) && decide (s.now ≤ t + 8000000000)

/-- The Module Time of a received Short Time: the nearest instant that carries it (R166). -/
def State.longOf (s : State) (short : Nat) : Int := (s.now / 4 * 4 : Nat) + shortDiff short (shortOf s.now) * 4

/-- A received Short Time converted; more than 1 s from the receive time it is replaced by it and reported (R166). -/
def State.convertShort (short who : Nat) (s : State) : Nat × State :=
  let t := s.longOf short
  if (t - s.now).natAbs ≤ 1000000000 then (t.toNat, s) else (s.now, s.windowError short who)

/-! ### Advance, slew and step -/

/-- Module Time advances; an offset being slewed out shrinks by 10 µs per s (R163, R171). -/
def State.advance (d : Nat) (s : State) : State :=
  let s := { s with now := s.now + d, up := s.up + d }
  let u := s.time
  if u.slewLeft = 0 then s
  else
    let c := u.slewCredit + d
    let m := min (c / 100000) u.slewLeft.natAbs
    let left := if 0 < u.slewLeft then u.slewLeft - m else u.slewLeft + m
    let s := s.modTime fun v => { v with slewLeft := left, slewCredit := if left = 0 then 0 else c - m * 100000 }
    if left = 0 then s.wrBit Obj.time.timeStatus 6 false else s

/-- Starts slewing an offset out (R171): SLEWING and event 0x089. -/
def State.startSlew (off : Int) (src : Nat) (s : State) : State :=
  if off = 0 then s
  else
    ((s.modTime fun u => { u with slewLeft := off, slewCredit := 0 }).wrBit Obj.time.timeStatus 6 true).raise 0x089 0
      (bitsOfInt 32 (clampInt (-2147483648) 2147483647 off)) src 0

def State.dom (s : State) (d : Nat) : DomX := if d = 0 then s.time.primary else s.time.secondary
def State.setDom (d : Nat) (f : DomX → DomX) (s : State) : State :=
  s.modTime fun u => if d = 0 then { u with primary := f u.primary } else { u with secondary := f u.secondary }

/-- A domain's offset, in DomX and in OFFSET (R195). -/
def State.setOffset (d : Nat) (off : Int) (s : State) : State :=
  (s.setDom d fun x => { x with offset := off, heard := true }).wr (Obj.dom.offset d)
    (w32 (bitsOfInt 32 (clampInt (-2147483648) 2147483647 off)))

/-- Steps Module Time (R178, R179): STEPPED, event 0x088, and the domains' offsets with it. -/
def State.stepTime (by_ : Int) (cause : Nat) (s : State) : State :=
  let s := { s with now := (s.now + by_).toNat }
  let s := s.each [0, 1] fun d t => if (t.dom d).heard = true then t.setOffset d ((t.dom d).offset - by_) else t
  let n := bitsOfInt 64 by_
  (s.flag Obj.time.timeFlags 3).raise 0x088 0 (n % 2 ^ 32) (n / 2 ^ 32) cause

/-- The commanded step at its boundary (R178). -/
def State.commandedStep (s : State) : State :=
  if s.time.stepDue then
    let off := signedOf 64 (s.rd64 Obj.time.pendingOffset)
    let s := s.modTime fun u => { u with stepDue := false }
    let s := (s.wrBit Obj.time.timeStatus 7 false).wr64 Obj.time.pendingOffset 0
    (s.setOutcome Obj.time.cmdStatus Oc.done).stepTime off 1
  else s

/-! ### PTP (R167 to R169) -/

/-- A plant port is enabled (R550). -/
def State.plantPort (s : State) (i : Nat) : Bool := s.bit (Obj.nport.nportStatus i) 2

/-- The PTP domain numbers (R54). -/
def State.domainNo (s : State) (d : Nat) : Nat :=
  match s.catOf with
  | some c => if d = 0 then c.network.domPrimary else c.network.domSecondary
  | none => d

/-- The index of a domain number: 0 primary, 1 secondary. -/
def State.domainOf (s : State) (n : Nat) : Option Nat :=
  if n = s.domainNo 0 then some 0 else if n = s.domainNo 1 then some 1 else none

def State.ptpPort (s : State) (i : Nat) : PtpPort := lookupD .initial s.time.ports i
def State.setPtpPort (i : Nat) (f : PtpPort → PtpPort) (s : State) : State :=
  s.modTime fun u => { u with ports := upsert i (f (lookupD .initial u.ports i)) u.ports }

/-- The configured asymmetry of a port in ns (R54, 100 ps per count). -/
def State.ptpAsym (s : State) (i : Nat) : Int :=
  match s.catOf with
  | some c => c.network.ptpAsym.getD i 0 / 10
  | none => 0

/-- PTP_STEP: one-step where 1 (R54). -/
def State.ptpOneStep (s : State) : Bool := match s.catOf with | some c => c.network.ptpStep == 1 | none => false

/-- Transparent-clock mode (R54). -/
def State.transparent (s : State) : Bool := match s.catOf with | some c => c.network.ptpMode == 1 | none => false

/-- Forwards an event message to the enabled ports of the same LAN side (R168). -/
def State.forwardPtp (i : Nat) (k : PtpKind) (seq stamp : Nat) (s : State) : State :=
  if s.transparent then
    s.each ((List.range 8).filter fun j => j != i && j % 2 == i % 2 && s.plantPort j) fun j t => t.emit (.ptp j k seq stamp)
  else s

/-- The comparison of two Announce data sets: priority, class, accuracy, variance, priority, identity, steps, sender,
receiving port (R167, IEEE 1588 data set comparison; log 20). -/
def Foreign.key (f : Foreign) : List Nat :=
  [f.prio1, f.clockClass, f.accuracy, f.variance, f.prio2, f.gm, f.steps, f.sender, f.port]

/-- Lexicographic order. -/
def listLt : List Nat → List Nat → Bool
  | a :: s, b :: t => if a < b then true else if b < a then false else listLt s t
  | _, _ => false

/-- The best of the data sets heard. -/
def bestForeign : List Foreign → Option Foreign
  | [] => none
  | f :: t => match bestForeign t with
    | some g => if listLt g.key f.key then some g else some f
    | none => some f

/-- A domain's slave port (R168): DOM_STATUS.PORT, 0xF none. -/
def State.slavePort (s : State) (d : Nat) : Nat := s.bits (Obj.dom.domStatus d) 19 16

/-- Whether a domain is usable (R169). -/
def State.usableNow (s : State) (d : Nat) : Bool :=
  s.bits (Obj.dom.domStatus d) 3 0 == Sv.locked && (s.dom d).announced &&
    decide (s.bits (Obj.dom.domStatus d) 15 8 ≤ s.bits Obj.time.timeCfg 23 16)

/-- PTP_LOST (R197): the domain instance, cause and last offset. -/
def State.ptpLost (d cause : Nat) (s : State) : State :=
  s.raise 0x081 (d + 1) cause (s.rd (Obj.dom.offset d)).toNat 0

/-- Re-evaluates USABLE of a domain (R169) and notes since when. A domain that a clockClass above CLASS_MAX makes
unusable reports it. -/
def State.refreshUsable (d : Nat) (s : State) : State :=
  let a := Obj.dom.domStatus d
  let was := s.bit a 4
  let is := s.usableNow d
  if was == is then s
  else if is then (s.wrBit a 4 true).setDom d fun x => { x with usableSince := some s.up }
  else
    let s := (s.wrBit a 4 false).setDom d fun x => { x with usableSince := none }
    if s.bits a 3 0 = Sv.locked ∧ (s.dom d).announced then s.ptpLost d 4 else s

/-- Applies the best master clock algorithm of a domain (R167, R168): slave port, class, steps, grandmaster, with
event 0x085 where the grandmaster changes. -/
def State.runBmca (d : Nat) (s : State) : State :=
  let a := Obj.dom.domStatus d
  match bestForeign (s.dom d).foreign with
  | none => s.wrBits a 19 16 0xF
  | some f =>
    let old := s.rd64 (Obj.dom.gmIdentity d)
    let s := ((s.wrBits a 31 24 (min f.steps 255)).wrBits a 19 16 f.port).wrBits a 15 8 f.clockClass
    let s := s.wr64 (Obj.dom.gmIdentity d) f.gm
    let s := if s.bits a 3 0 = Sv.off then s.wrBits a 3 0 Sv.acquiring else s
    let s := if old ≠ f.gm ∧ old ≠ 0 then s.raise 0x085 (d + 1) (old % 2 ^ 32) (f.gm % 2 ^ 32) f.clockClass else s
    let s := s.wr (Obj.dom.pathDelay d) (w32 (bitsOfInt 32 ((s.ptpPort f.port).delay.getD 0)))
    let s := if s.bit a 5 then s.wr Obj.time.utcOffset (w32 (bitsOfInt 32 (signedOf 16 f.utc))) else s
    s.refreshUsable d

/-- PTP_ANNOUNCE_RECEIVE (R167): the port's data set, then the algorithm. -/
def ptpAnnounce (i : Nat) (m : PtpAnnounce) (s : State) : State :=
  match (if s.plantPort i then s.domainOf m.domain.toNat else none) with
  | none => s
  | some d =>
    let f : Foreign :=
      { port := i, prio1 := m.prio1.toNat, clockClass := m.clockClass.toNat, accuracy := m.accuracy.toNat
        variance := m.variance.toNat, prio2 := m.prio2.toNat, gm := m.grandmaster.toNat
        steps := m.stepsRemoved.toNat, sender := m.sender.toNat, utc := m.utcOffset.toNat }
    let s := s.setDom d fun x =>
      { x with foreign := f :: x.foreign.filter (fun g => g.port != i), announced := true }
    s.runBmca d

def execPtpAnnounceReceive (port : Fin 8) (m : PtpAnnounce) (s : State) : Host.Outcome State Fault Refusal :=
  s.live (ptpAnnounce port m)

/-- Steers the reference: a demand beyond ±50 ppm is clamped, with STEER_LIMIT and event 0x1FE once per episode
(R633). FREQ counts 0.01 ppb. -/
def State.steer (demand : Int) (s : State) : State :=
  let f := clampInt (-5000000) 5000000 demand
  let s := s.wr Obj.time.freq (w32 (bitsOfInt 32 f))
  let s := s.modTime fun u =>
    { u with freqs := (s.up, f) :: u.freqs.filter (fun x => decide (s.up ≤ x.1 + 1000000000000)) }
  if f = demand then s.wrBit Obj.pwr.clkStatus 6 false
  else if s.bit Obj.pwr.clkStatus 6 then s
  else (s.flag Obj.pwr.clkStatus 6).raise 0x1FE 0 (bitsOfInt 32 demand) 0 0

/-- Whether a domain steers the reference (R173): the selected one of a leader, or of a follower without pair link. -/
def State.steers (s : State) (d : Nat) : Bool :=
  s.bit (Obj.dom.domStatus d) 5 && (s.leader || !s.bit Obj.time.timeStatus 8)

/-- One offset measurement of a domain's servo (R169). The servo's law is the module's own: its demand is a free value. A
follower without its pair link reports an offset that has left the last pair-link measurement by more than 100 ns (R175). -/
def servoMeasure (d : Nat) (off : Int) (s : State) : State :=
  let s := s.setOffset d off
  let a := Obj.dom.domStatus d
  let s := if s.bits a 3 0 = Sv.off ∨ (s.bits a 3 0 = Sv.lost ∧ off.natAbs ≤ 1000) then s.wrBits a 3 0 Sv.acquiring else s
  let s := s.refreshUsable d
  if s.steers d then
    let far := -off - s.time.pairLast
    let s := if s.time.pairLost && !s.leader && decide (100 < far.natAbs) then
        s.raise 0x08C 0 (bitsOfInt 32 (clampInt (-2147483648) 2147483647 far)) 0 0 else s
    let (w, s) := s.fresh
    s.steer w.toInt
  else s

/-- The offset a Sync gives: origin, correction, path delay and asymmetry against the receive time (R167). -/
def State.syncOffset (s : State) (i origin : Nat) (corr : Int) (rx : Nat) : Int :=
  (origin : Int) + corr + (s.ptpPort i).delay.getD 0 + s.ptpAsym i - rx

/-- PTP_SYNC_RECEIVE (R167 to R169): counted and used on the domain's slave port; a two-step Sync waits for its
Follow_Up. -/
def ptpSync (i : Nat) (m : PtpSync) (s : State) : State :=
  if s.plantPort i then
    let s := s.forwardPtp i .sync m.seq.toNat m.origin
    match s.domainOf m.domain.toNat with
    | none => s
    | some d =>
      let s := s.count (Obj.dom.syncRx d) 1
      if s.slavePort d = i then
        if m.twoStep then s.setPtpPort i fun x =>
          { x with syncWait := some ⟨m.domain.toNat, m.seq.toNat, s.now, m.correction⟩ }
        else servoMeasure d (s.syncOffset i m.origin m.correction s.now) s
      else s
  else s

def execPtpSyncReceive (port : Fin 8) (m : PtpSync) (s : State) : Host.Outcome State Fault Refusal :=
  s.live (ptpSync port m)

/-- PTP_FOLLOW_UP_RECEIVE (R167): completes the two-step Sync of its domain and sequence number. -/
def ptpFollowUp (i : Nat) (m : PtpSync) (s : State) : State :=
  if s.plantPort i then
    let s := s.forwardPtp i .followUp m.seq.toNat m.origin
    match (s.ptpPort i).syncWait, s.domainOf m.domain.toNat with
    | some w, some d =>
      if w.domain = m.domain.toNat ∧ w.seq = m.seq.toNat ∧ s.slavePort d = i then
        let s := s.setPtpPort i fun x => { x with syncWait := none }
        servoMeasure d (s.syncOffset i m.origin (w.correction + m.correction) w.rxTime) s
      else s
    | _, _ => s
  else s

def execPtpFollowUpReceive (port : Fin 8) (m : PtpSync) (s : State) : Host.Outcome State Fault Refusal :=
  s.live (ptpFollowUp port m)

/-- PTP_PDELAY_REQ_RECEIVE (R167): answered on the port it arrived at, in one step or two. -/
def ptpPdelayReq (i seq : Nat) (s : State) : State :=
  if s.plantPort i then
    let s := s.emit (.ptp i .pdelayResp seq s.now)
    if s.ptpOneStep then s else s.emit (.ptp i .pdelayRespFollowUp seq s.now)
  else s

def execPtpPdelayReqReceive (port : Fin 8) (seq : BitVec 16) (s : State) : Host.Outcome State Fault Refusal :=
  s.live (ptpPdelayReq port seq.toNat)

/-- PTP_PDELAY_REQ_SEND (R167). -/
def ptpPdelayReqSend (i : Nat) (s : State) : State :=
  if s.plantPort i then
    let n := ((s.ptpPort i).reqSeq + 1) % 65536
    (s.setPtpPort i fun x => { x with reqSeq := n, reqSent := some s.now, respWait := none }).emit
      (.ptp i .pdelayReq n s.now)
  else s

def execPtpPdelayReqSend (port : Fin 8) (s : State) : Host.Outcome State Fault Refusal := s.live (ptpPdelayReqSend port)

/-- A measured peer delay: the port's, and PATH_DELAY of the domains it is slave port of. -/
def State.setPeerDelay (i : Nat) (v : Int) (s : State) : State :=
  let s := s.setPtpPort i fun x => { x with delay := some v, reqSent := none, respWait := none }
  s.each [0, 1] fun d t => if t.slavePort d = i then t.wr (Obj.dom.pathDelay d) (w32 (bitsOfInt 32 v)) else t

/-- PTP_PDELAY_RESP_RECEIVE (R167): the peer delay of a one-step exchange, or the wait for its Follow_Up. -/
def ptpPdelayResp (i seq : Nat) (twoStep : Bool) (t2 : Nat) (corr : Int) (s : State) : State :=
  match (s.ptpPort i).reqSent with
  | some t1 =>
    if s.plantPort i ∧ (s.ptpPort i).reqSeq = seq then
      if twoStep then s.setPtpPort i fun x => { x with respWait := some (t1, s.now, t2, corr) }
      else s.setPeerDelay i (((s.now : Int) - t1 - corr) / 2)
    else s
  | none => s

def execPtpPdelayRespReceive (port : Fin 8) (seq : BitVec 16) (twoStep : Bool) (stamp : Nat) (correction : Int)
    (s : State) : Host.Outcome State Fault Refusal := s.live (ptpPdelayResp port seq.toNat twoStep stamp correction)

/-- PTP_PDELAY_RESP_FOLLOW_UP_RECEIVE (R167): completes a two-step peer-delay measurement. -/
def ptpPdelayFollowUp (i seq t3 : Nat) (corr : Int) (s : State) : State :=
  match (s.ptpPort i).respWait with
  | some (t1, t4, t2, c) =>
    if s.plantPort i ∧ (s.ptpPort i).reqSeq = seq then
      s.setPeerDelay i (((t4 : Int) - t1 - ((t3 : Int) - t2 + c + corr)) / 2)
    else s
  | none => s

def execPtpPdelayRespFollowUpReceive (port : Fin 8) (seq : BitVec 16) (stamp : Nat) (correction : Int) (s : State) :
    Host.Outcome State Fault Refusal := s.live (ptpPdelayFollowUp port seq.toNat stamp correction)

/-- SERVO_LOCKED (R169, R179): LOCKED with event 0x080; the first lock of a leader steps Module Time to the domain's
time. -/
def servoLocked (d : Nat) (s : State) : State :=
  let a := Obj.dom.domStatus d
  if (s.dom d).heard then
    let s := s.wrBits a 3 0 Sv.locked
    let s := s.raise 0x080 (d + 1) (s.slavePort d) (s.bits a 15 8) (s.rd (Obj.dom.gmIdentity d)).toNat
    let s := if s.leader && !s.bit Obj.time.timeStatus 9 then
        (s.stepTime (s.dom d).offset 0).flag Obj.time.timeStatus 9 else s
    s.refreshUsable d
  else s

def execServoLocked (domain : Fin 2) (s : State) : Host.Outcome State Fault Refusal := s.live (servoLocked domain)

/-- SERVO_LOST (R169): LOST with event 0x081, cause 1 offset or 2 no Sync. -/
def servoLost (d : Nat) (noSync : Bool) (s : State) : State :=
  let a := Obj.dom.domStatus d
  if s.bits a 3 0 = Sv.off ∨ s.bits a 3 0 = Sv.lost then s
  else ((s.wrBits a 3 0 Sv.lost).ptpLost d (if noSync then 2 else 1)).refreshUsable d

def execServoLost (domain : Fin 2) (noSync : Bool) (s : State) : Host.Outcome State Fault Refusal :=
  s.live (servoLost domain noSync)

/-- ANNOUNCE_TIMEOUT (R169): the domain's data sets lapse and it is not usable; event 0x081 cause 3. -/
def announceTimeout (d : Nat) (s : State) : State :=
  let s := s.setDom d fun x => { x with foreign := [], announced := false }
  ((s.wrBits (Obj.dom.domStatus d) 19 16 0xF).ptpLost d 3).refreshUsable d

def execAnnounceTimeout (domain : Fin 2) (s : State) : Host.Outcome State Fault Refusal := s.live (announceTimeout domain)

/-! ### Source selection (R170 to R177) -/

/-- The mean FREQ of the last 1,000 s of lock (R176). -/
def State.meanFreq (s : State) : Int :=
  match s.time.freqs with
  | [] => (s.rd Obj.time.freq).toInt
  | l => (l.foldl (fun a x => a + x.2) 0) / (l.length : Int)

/-- Sets which domain steers, if any. -/
def State.setSelected (d : Option Nat) (s : State) : State :=
  (s.wrBit (Obj.dom.domStatus 0) 5 (d == some 0)).wrBit (Obj.dom.domStatus 1) 5 (d == some 1)

/-- Enters holdover (R176): the mean frequency is kept, event 0x083. -/
def State.enterHoldover (s : State) : State :=
  if s.timeState = Ts.holdover ∨ s.timeState = Ts.freerun then s
  else
    let f := bitsOfInt 32 s.meanFreq
    let s := ((s.wr Obj.time.freq (w32 f)).setSelected none).setTimeState Ts.holdover
    ((s.wr Obj.time.holdoverTime 0).flag Obj.time.timeFlags 0).raise 0x083 0 f 0 0

/-- A source's offset: a domain's, or that of the TI edge. -/
def State.sourceOffset (s : State) (src : Nat) : Int :=
  if src = Ts.ti then -(s.rd Obj.time.tiOffset).toInt else (s.dom (src - 1)).offset

/-- Takes a source (R170, R171, R177), its offset of at most 1 ms slewed out. -/
def State.takeSource (src : Nat) (off : Int) (s : State) : State :=
  let old := s.timeState
  let s := (s.setSelected (if src = Ts.ti then none else some (src - 1))).setTimeState src
  let s := (s.wrBit Obj.time.timeStatus 5 true).flag Obj.time.timeStatus 9
  let p := bitsOfInt 32 (clampInt (-2147483648) 2147483647 off)
  let s := if (old = Ts.primary ∨ old = Ts.secondary) ∧ (src = Ts.primary ∨ src = Ts.secondary) then
      (s.flag Obj.time.timeFlags 1).raise 0x082 src old src p
    else if old = Ts.holdover then
      ((s.wrBit Obj.time.timeStatus 7 false).wr64 Obj.time.pendingOffset 0).raise 0x084 0
        (s.rd Obj.time.holdoverTime).toNat p src
    else s
  s.startSlew off src

/-- Holds the offset of a returning source for a host (R177). -/
def State.stepPending (off : Int) (s : State) : State :=
  if s.bit Obj.time.timeStatus 7 then s
  else
    let n := bitsOfInt 64 off
    ((s.wr64 Obj.time.pendingOffset n).flag Obj.time.timeStatus 7).raise 0x087 0 (n % 2 ^ 32) (n / 2 ^ 32) 0

/-- The sources in order of preference (R170, R193). The primary is preferred to the secondary in use only after it
has been usable for SWITCH_HOLD. -/
def State.sources (s : State) : List Nat :=
  let usable (d : Nat) : Bool := s.bit (Obj.dom.domStatus d) 4
  let hold := match s.time.primary.usableSince with
    | some t => decide (t + s.bits Obj.time.timeCfg 31 24 * 1000000000 ≤ s.up)
    | none => false
  let p := if usable 0 then [Ts.primary] else []
  let q := if usable 1 then [Ts.secondary] else []
  let ti := if s.bits Obj.time.timeCfg 1 0 = 2 ∧ s.time.tiUsable then [Ts.ti] else []
  (if s.timeState = Ts.secondary ∧ hold = false then q ++ p else p ++ q) ++ ti

/-- Tries sources in order (R170, R171, R177). -/
def trySources : List Nat → State → State
  | [], s => s.enterHoldover
  | src :: t, s =>
    if s.timeState = src then s
    else
      let off := s.sourceOffset src
      if off.natAbs ≤ 1000000 then s.takeSource src off
      else if s.timeState = Ts.holdover then s.stepPending off
      else
        let s := (s.flag Obj.time.timeFlags 2).raise 0x086 (if src = Ts.ti then 0 else src)
          (bitsOfInt 32 (clampInt (-2147483648) 2147483647 off)) 0 0
        trySources t s

/-- Whether the module steers to its leader over the pair link (R173). -/
def State.followsLeader (s : State) : Bool := !s.leader && s.bit Obj.time.timeStatus 8

/-- SOURCE_SELECT (R170): every 1 s; the two LOCKED domains are compared (R172), and the source chosen. -/
def sourceSelect (s : State) : State :=
  let s := s.each [0, 1] State.refreshUsable
  let locked (d : Nat) : Bool := s.bits (Obj.dom.domStatus d) 3 0 == Sv.locked
  let diff := (s.dom 1).offset - (s.dom 0).offset
  let s := if locked 0 && locked 1 && decide (1000 < diff.natAbs) then
      (s.flag Obj.time.timeFlags 2).raise 0x086 2 (bitsOfInt 32 (clampInt (-2147483648) 2147483647 diff)) 0 0 else s
  let s := if s.timeState = Ts.holdover then s.count Obj.time.holdoverTime 1 else s
  if s.followsLeader then (s.setSelected none).setTimeState Ts.pair
  else trySources s.sources s

def execSourceSelect (s : State) : Host.Outcome State Fault Refusal := s.live sourceSelect

/-- TRACEABILITY_LOST (R176): holdover for TRACE_LIMIT clears TRACEABLE. -/
def traceabilityLost (s : State) : State :=
  if s.timeState = Ts.holdover then s.wrBit Obj.time.timeStatus 5 false else s

def execTraceabilityLost (s : State) : Host.Outcome State Fault Refusal := s.live traceabilityLost

/-! ### TIME_CMD (R178, R187, R195) -/

abbrev TimeCmd.step : Nat := 1
abbrev TimeCmd.accept : Nat := 2
abbrev TimeCmd.recalibrate : Nat := 3
abbrev TimeCmd.clear : Nat := 4

/-- TIME_STEP (R178): NOT_READY with no offset pending, BAD_VALUE with a negative one; otherwise the step is made at
the next boundary. -/
def timeStep (s : State) : State :=
  let st := Obj.time.cmdStatus
  if !s.bit Obj.time.timeStatus 7 then s.refuse st TimeCmd.step Oc.notReady
  else if signedOf 64 (s.rd64 Obj.time.pendingOffset) < 0 then s.refuse st TimeCmd.step Oc.badValue
  else (s.modTime fun u => { u with stepDue := true }).accept st TimeCmd.step Oc.inProgress

def execTimeStep (s : State) : Host.Outcome State Fault Refusal := s.live timeStep

/-- The source whose return is pending: the first usable one. -/
def State.pendingSource (s : State) : Nat := s.sources.headD Ts.holdover

/-- TIME_ACCEPT (R178): PENDING_OFFSET is slewed out at 10 µs per s and its source taken; NOT_READY with none pending. -/
def timeAccept (s : State) : State :=
  let st := Obj.time.cmdStatus
  if s.bit Obj.time.timeStatus 7 then
    let off := signedOf 64 (s.rd64 Obj.time.pendingOffset)
    let src := s.pendingSource
    let s := s.accept st TimeCmd.accept Oc.done
    if src = Ts.holdover then
      ((s.wrBit Obj.time.timeStatus 7 false).wr64 Obj.time.pendingOffset 0).startSlew off Ts.holdover
    else s.takeSource src off
  else s.refuse st TimeCmd.accept Oc.notReady

def execTimeAccept (s : State) : Host.Outcome State Fault Refusal := s.live timeAccept

/-- TIME_CLEAR_COUNTERS (R195). -/
def timeClearCounters (s : State) : State :=
  let s := State.clearAll ([0, 1].map Obj.dom.syncRx ++ (List.range 256).map Obj.cal.calPasses) s
  s.accept Obj.time.cmdStatus TimeCmd.clear Oc.done

def execTimeClearCounters (s : State) : Host.Outcome State Fault Refusal := s.live timeClearCounters

/-! ### Time on the rings (R180 to R182) -/

/-- TIME_SYNC_SEND (R181): SYNC of the lateness and Short Time bits [22:18] on every UP port. -/
def timeSyncSend (late : List (Fin 512 × Fin 4)) (s : State) : State :=
  let bits := shortOf s.now / 2 ^ 18 % 32
  s.each allPorts fun i t =>
    if t.link i = Link.up ∧ t.portEnabled i then
      let l := match late.find? (fun x => x.1.val == i) with | some x => x.2.val | none => 0
      t.emit (.orderedSet i .time (l * 32 + bits))
    else t

def execTimeSyncSend (late : List (Fin 512 × Fin 4)) (s : State) : Host.Outcome State Fault Refusal :=
  s.live (timeSyncSend late)

/-- DELAY_REQ_SEND (R180, R182): TYPE 0b100 with the exchange count's low five bits. -/
def delayReqSend (s : State) : State :=
  s.each allPorts fun i t =>
    if t.link i = Link.up ∧ t.portEnabled i then
      let n := (t.portX i).reqs + 1
      (t.setPortX i fun x => { x with reqs := n }).emit (.orderedSet i .time (0x80 + n % 32))
    else t

def execDelayReqSend (s : State) : Host.Outcome State Fault Refusal := s.live delayReqSend

/-- DELAY_REQ_RECEIVE (R182): DELAY_RESP with the same count, and the turnaround kept. -/
def delayReqReceive (i count turn : Nat) (s : State) : State :=
  if s.link i = Link.up then
    (s.emit (.orderedSet i .time (0xA0 + count))).setPortX i fun x => { x with turns := (turn :: x.turns).take 64 }
  else s

def execDelayReqReceive (port : Fin 512) (count : Fin 32) (turn : Fin 100001) (s : State) :
    Host.Outcome State Fault Refusal := s.live (delayReqReceive port count turn)

/-- DELAY_RESP_RECEIVE (R182): the round trip of the outstanding request. -/
def delayRespReceive (i count rtt : Nat) (s : State) : State :=
  if s.link i = Link.up ∧ (s.portX i).reqs % 32 = count then
    s.setPortX i fun x => { x with rtts := (rtt :: x.rtts).take 64 }
  else s

def execDelayRespReceive (port : Fin 512) (count : Fin 32) (rtt : Fin 100001) (s : State) :
    Host.Outcome State Fault Refusal := s.live (delayRespReceive port count rtt)

/-- The mean of 64 values, or 0 until 64 are held (R182). -/
def mean64 (l : List Nat) : Nat := if l.length < 64 then 0 else l.foldl (· + ·) 0 / 64

/-! ### Hop-delay calibration (R187, R188) -/

def State.calX (s : State) (n : Nat) : CalX := lookupD .initial s.time.cals n
def State.setCalX (n : Nat) (f : CalX → CalX) (s : State) : State :=
  s.modTime fun u => { u with cals := upsert n (f (lookupD .initial u.cals n)) u.cals }

/-- The configured nodes of a string that reach a port. -/
def State.reaching (s : State) (n : Nat) : List Nat :=
  match s.catOf with
  | some c => (c.nodes.filter fun r => r.string == n && (s.reaches n r.p || s.reaches (256 + n) r.p)).map NodeRec.p
  | none => []

/-- CAL_PASS_START (R187): the leader reads the time parameters of every node that reaches a port. -/
def calPassStart (n : Nat) (s : State) : State :=
  if s.leader && s.hasString n && !(s.calX n).running then
    let s := (s.setCalX n fun _ => { CalX.initial with running := true }).flag (Obj.cal.calStatus n) 1
    s.each (s.reaching n) fun p t =>
      t.request n Op.read .single p (leBytes 0x30 2 ++ leBytes 16 2) (.calibration 0) none
  else s

/-- CAL_PASS_RETRY (R188): 10 s after a failed pass it is repeated. -/
def calPassRetry (n : Nat) (s : State) : State :=
  if (s.calX n).retryDue then calPassStart n s else s

/-- TIME_RECALIBRATE (R187): one string's ring, or all of them; BAD_VALUE for a string not configured. -/
def timeRecalibrate (string : Nat) (s : State) : State :=
  let st := Obj.time.cmdStatus
  if string = 0xFFFF then
    s.each ((List.range 256).filter s.hasString) calPassStart |>.accept st TimeCmd.recalibrate Oc.done
  else if s.hasString string then (calPassStart string s).accept st TimeCmd.recalibrate Oc.done
  else s.refuse st TimeCmd.recalibrate Oc.badValue

/-- Whether a node locks its interfaces west (R183). -/
def State.locksWest (s : State) (n p : Nat) : Bool :=
  s.reaches n p && (!s.reaches (256 + n) p || decide (p ≤ s.ringN n + 1 - p))

/-- One end of a segment as the calibration takes it: RTT, TURN, A (R187). -/
structure SegEnd where
  rtt : Nat
  turn : Nat
  asym : Int

/-- A word a node reported, by parameter address 0x0030 to 0x003F. -/
def CalX.param (x : CalX) (p a : Nat) : Nat :=
  match x.reads.find? (fun r => r.1 == p) with
  | some r => (r.2.getD (a - 0x30) 0).toNat
  | none => 0

/-- The end of a segment on interface α (beta false) or β: `side` true is the end's east side. Position 0 is the west
port, N + 1 the east port; a module port's own interface holds its means, the other the follower's (R187). -/
def State.segEnd (s : State) (n : Nat) (x : CalX) (beta east : Bool) (p : Nat) : SegEnd :=
  let len := s.ringN n
  if p = 0 ∨ p = len + 1 then
    let i := if p = 0 then n else 256 + n
    let asym := match s.catOf with
      | some c => match c.rings.find? (fun r => r.string == n) with
        | some r => if p = 0 then r.asymW else r.asymE
        | none => 0
      | none => 0
    if beta == s.sys.unitB then ⟨mean64 (s.portX i).rtts, mean64 (s.portX i).turns, asym⟩
    else
      let m := lookupD (0, 0) s.time.partnerMeans i
      ⟨m.1, m.2, asym⟩
  else
    let b := if beta then 0x3A else 0x34
    ⟨x.param p (b + 2 + east.toNat), x.param p (b + 4 + east.toNat), signedOf 32 (x.param p b)⟩

/-- The delay of a segment towards its downstream end, in 100 ps, rounded to nearest; none where a mean is not yet
held (R187). -/
def segDelay (u d : SegEnd) : Option Int :=
  if u.rtt = 0 ∨ u.turn = 0 ∨ d.rtt = 0 ∨ d.turn = 0 then none
  else some ((((d.rtt : Int) - u.turn) + ((u.rtt : Int) - d.turn) + 2 * (u.asym - d.asym) + 2) / 4)

/-- The new delay of one side of a node: computed where the segment can be, else the value the node holds. On a solo
module the β words are 0. -/
def State.newDelay (s : State) (n : Nat) (x : CalX) (beta east : Bool) (p : Nat) : Int :=
  let a := 0x30 + 2 * beta.toNat + east.toNat
  if beta && !s.pairRole then 0
  else
    let q := if east then p + 1 else p - 1
    (segDelay (s.segEnd n x beta (!east) q) (s.segEnd n x beta east p)).getD (x.param p a)

/-- The four words for a node. -/
def State.newDelays (s : State) (n : Nat) (x : CalX) (p : Nat) : List Int :=
  [s.newDelay n x false false p, s.newDelay n x false true p, s.newDelay n x true false p, s.newDelay n x true true p]

/-- The closure (R187): OFFSET_OTHER of the first node locked east that adjoins a node locked west. -/
def State.closureOf (s : State) (n : Nat) (x : CalX) : Nat :=
  match (List.range (s.ringN n)).find? (fun k => decide (1 ≤ k) && s.locksWest n k && s.reaches (256 + n) (k + 1) &&
      !s.locksWest n (k + 1)) with
  | some k =>
    let o := x.param (k + 1) (if s.sys.unitB then 0x3B else 0x35) / 2 ^ 16
    if o = 0x8000 then 0x80000000 else bitsOfInt 32 (signedOf 16 o)
  | none => 0x80000000

/-- Whether a new delay is in the range of R185. -/
def delayOk (v : Int) : Bool := decide (0 ≤ v) && decide (v ≤ 100000)

/-- Steps 3 to 5 of a pass, once every node's parameters are read: delays, the background check of R188, the WRITEs. -/
def calWrite (n : Nat) (s : State) : State :=
  let x := s.calX n
  let nodes := s.reaching n
  match nodes.find? (fun p => (s.newDelays n x p).any fun v => !delayOk v) with
  | some p => s.setCalX n fun y => { y with fail := some (2, p) }
  | none =>
    let change (p : Nat) : List (Nat × Nat × Nat) :=
      (s.newDelays n x p).zipIdx.map fun v => (p, x.param p (0x30 + v.2), v.1.toNat)
    let all := nodes.flatMap change
    let diff (c : Nat × Nat × Nat) : Nat := ((c.2.2 : Int) - c.2.1).natAbs
    let big := all.foldl (fun m c => max m (diff c)) 0
    let s := s.setCalX n fun y => { y with wrote := true, maxChange := big }
    let s := s.each (all.filter fun c => c.2.1 != 0 && decide (20 < diff c)) fun c t =>
      (t.calStale n).raise 0x092 (256 + n) c.1 c.2.1 c.2.2
    s.each nodes fun p t => t.request n Op.write .single p
      (leBytes 0x30 2 ++ leBytes 4 2 ++ (t.newDelays n x p).flatMap fun v => leBytes v.toNat 4) (.calibration 1) none

/-- The end of a calibration transaction (R187, R188). A node whose means are not yet held is read again. -/
def calResult (r : TxnResult) (s : State) : State :=
  let n := r.req.string
  let p := r.req.target
  let x := s.calX n
  if x.running then
    if r.outcome ≠ .ok then s.setCalX n fun y => { y with fail := if y.fail = none then some (1, p) else y.fail }
    else if r.req.opcode = Op.write then s.setCalX n fun y => { y with written := p :: y.written }
    else
      let b := if s.sys.unitB then 0x3C else 0x36
      let w (i : Nat) : Nat := (r.data.getD (b - 0x30 + i) 0).toNat
      let need (east : Bool) : Bool := s.reaches (if east then 256 + n else n) p
      if (need false && (w 0 == 0 || w 2 == 0)) || (need true && (w 1 == 0 || w 3 == 0)) then
        s.request n Op.read .single p (leBytes 0x30 2 ++ leBytes 16 2) (.calibration 0) none
      else
        let s := s.setCalX n fun y => { y with reads := (p, r.data) :: y.reads.filter (fun q => q.1 != p) }
        let y := s.calX n
        if y.wrote = false ∧ y.fail = none ∧ (s.reaching n).all (fun q => y.reads.any fun v => v.1 == q) = true then
          calWrite n s
        else s
  else s

/-- TIME_LOCKED nodes of a string that reach a port. -/
def State.lockedNodes (s : State) (n : Nat) : Nat := ((s.reaching n).filter fun p => (s.nodeX (nodeInst n p)).timeLocked).length

/-- CAL_PASS_DONE (R188): the pass's failure with event 0x08E, or its completion with CAL_STALE cleared and event
0x08D, and cause 4 where |CLOSURE| exceeds 20 ns. -/
def calPassDone (n : Nat) (s : State) : State :=
  let x := s.calX n
  if x.running then
    let a := Obj.cal.calStatus n
    let nodes := s.reaching n
    let rs := s.ringState n
    let fail : Option (Nat × Nat) :=
      match x.fail with
      | some f => some f
      | none =>
        match nodes.find? (fun p => !x.written.contains p) with
        | some p => some (1, p)
        | none =>
          match nodes.find? (fun p => !(s.nodeX (nodeInst n p)).timeLocked) with
          | some p => some (3, p)
          | none => none
    let s := s.wrBit a 1 false
    match fail with
    | some (c, p) =>
      let s := s.setCalX n fun y => { y with running := false, retryDue := true }
      ((s.wrBits a 7 4 c).flag Obj.time.timeFlags 6).raise 0x08E (256 + n) c p 0
    | none =>
      let s := s.setCalX n fun y => { y with running := false, retryDue := false }
      let cl := s.closureOf n x
      let s := ((s.wr (Obj.cal.closure n) (w32 cl)).count (Obj.cal.calPasses n) 1).wr64 (Obj.cal.calTime n) s.now
      let s := (s.wr (Obj.cal.maxChange n) (w32 x.maxChange)).wrBits a 7 4 0
      let s := if rs = Rs.closed ∨ rs = Rs.open_ ∨ rs = Rs.segmented then
          (s.wrBit (Obj.port.ring n) 24 false).wrBit a 0 false else s
      let s := s.raise 0x08D (256 + n) cl (s.lockedNodes n) x.maxChange
      if cl ≠ 0x80000000 ∧ 200 < (signedOf 32 cl).natAbs then
        ((s.wrBits a 7 4 4).flag Obj.time.timeFlags 6).raise 0x08E (256 + n) 4 0 0
      else s
  else s

def execCalPassDone (string : Fin 256) (s : State) : Host.Outcome State Fault Refusal := s.live (calPassDone string)

/-! ### Time output and input (R192 to R194) -/

/-- The decimal digits of a number, least significant first, at most `fuel` of them. -/
def digitsRev : Nat → Nat → List Nat
  | 0, _ => []
  | f + 1, n => n % 10 :: (if n < 10 then [] else digitsRev f (n / 10))

/-- The ASCII decimal of a number. -/
def decAscii (n : Nat) : List Byte := (digitsRev 20 n).reverse.map fun d => BitVec.ofNat 8 (48 + d)

/-- One hexadecimal digit in ASCII. -/
def hexAscii (n : Nat) : Byte := BitVec.ofNat 8 (if n % 16 < 10 then 48 + n % 16 else 55 + n % 16)

/-- The XOR of bytes. -/
def xorBytes (b : List Byte) : Nat := b.foldl (fun a x => Nat.xor a x.toNat) 0

/-- The bytes GTOD, ahead of a comma. -/
def gtod : List Byte := [0x47, 0x54, 0x4F, 0x44, 0x2C]

/-- The time-of-day line (R192). -/
def todLine (sec utc state : Nat) : List Byte :=
  let body := gtod ++ decAscii sec ++ [0x2C] ++ decAscii utc ++ [0x2C, hexAscii state]
  let x := xorBytes body
  [0x24] ++ body ++ [0x2A, hexAscii (x / 16), hexAscii x, 0x0D, 0x0A]

/-- PPS_OUTPUT (R192): the pulse and its line; TO holds low in FREERUN. -/
def ppsOutput (s : State) : State :=
  if s.timeState = Ts.freerun then s
  else
    let sec := s.now / 1000000000
    s.emit (.timeOutput sec (todLine sec (s.rd Obj.time.utcOffset).toNat s.timeState))

def execPpsOutput (s : State) : Host.Outcome State Fault Refusal := s.live ppsOutput

/-- TI_PULSE (R193): the edge is timestamped and waits for its line; nothing with TI_USE 0. -/
def tiPulse (s : State) : State :=
  if s.bits Obj.time.timeCfg 1 0 = 0 then s else s.modTime fun u => { u with tiEdge := some s.now }

def execTiPulse (s : State) : Host.Outcome State Fault Refusal := s.live tiPulse

/-- The number of leading decimal digits, and the rest. -/
def parseDec : List Byte → Option Nat → Option Nat × List Byte
  | [], a => (a, [])
  | b :: t, a => if 48 ≤ b.toNat ∧ b.toNat ≤ 57 then parseDec t (some (a.getD 0 * 10 + (b.toNat - 48))) else (a, b :: t)

/-- The second that a time-of-day line names, where it passes its check (R192, R193). -/
def lineSecond (l : List Byte) : Option Nat :=
  let body := (l.drop 1).takeWhile (· != 0x2A)
  let tail := l.drop (1 + body.length)
  let x := xorBytes body
  if l.headD 0 = 0x24 ∧ body.take 5 = gtod ∧ tail = [0x2A, hexAscii (x / 16), hexAscii x, 0x0D, 0x0A] then
    match parseDec (body.drop 5) none with
    | (some n, 0x2C :: _) => some n
    | _ => none
  else none

/-- TI unusable (R193): its flag and event 0x090. -/
def State.tiUnusable (cause : Nat) (s : State) : State :=
  ((s.modTime fun u => { u with tiUsable := false, tiEdge := none }).flag Obj.time.timeFlags 7).raise 0x090 0 cause 0 0

/-- TI_LINE (R193): a line that passes names the second of its pulse; one that fails makes TI unusable. -/
def tiLine (l : List Byte) (s : State) : State :=
  if s.bits Obj.time.timeCfg 1 0 = 0 then s
  else
    match lineSecond l, s.time.tiEdge with
    | some n, some t =>
      (s.modTime fun u => { u with tiUsable := true, tiEdge := none }).wr Obj.time.tiOffset
        (w32 (bitsOfInt 32 (clampInt (-2147483647) 2147483647 ((t : Int) - (n * 1000000000 : Nat)))))
    | some _, none => s
    | none, _ => s.tiUnusable 2

def execTiLine (text : List Byte) (s : State) : Host.Outcome State Fault Refusal := s.live (tiLine text)

/-- TI_LOST (R193): no pulse for 3 s. -/
def tiLost (s : State) : State := if s.bits Obj.time.timeCfg 1 0 = 0 then s else s.tiUnusable 1

def execTiLost (s : State) : Host.Outcome State Fault Refusal := s.live tiLost

/-- TIME_SAVE (R194): Module Time goes to MRAM. -/
def timeSave (s : State) : State := s.modTime fun u => { u with saved := s.now }

def execTimeSave (s : State) : Host.Outcome State Fault Refusal := s.live timeSave

end Sys2Proof.Machine
end

