-- ==== Sys2Proof/Machine/Scan.lean ====
section
/-!
DEFINITION. The scan scheduler and the Weir: sample instants, snapshots, confirmation, capture watch and records
(R198 to R229), and what a confirmed MEAS tells of its node (R140, R149, R154, R158).
-/

namespace Sys2Proof.Machine

def State.modScan (f : ScanUnit → ScanUnit) (s : State) : State := { s with scan := f s.scan }
def State.strX (s : State) (n : Nat) : StrX := lookupD .initial s.scan.strs n
def State.setStrX (n : Nat) (f : StrX → StrX) (s : State) : State :=
  s.modScan fun u => { u with strs := upsert n (f (lookupD .initial u.strs n)) u.strs }

/-- The STRINGS record of a string. -/
def State.stringRec (s : State) (n : Nat) : Option StringRec :=
  match s.catOf with | some c => c.strings.find? fun r => r.string == n | none => none

/-- The RINGS record of a string. -/
def State.ringRec (s : State) (n : Nat) : Option RingRec :=
  match s.catOf with | some c => c.rings.find? fun r => r.string == n | none => none

/-- The configured strings, ascending. -/
def State.strings (s : State) : List Nat := match s.catOf with | some c => c.strings.map StringRec.string | none => []

/-- The configured nodes of a string. -/
def State.nodesOf (s : State) (n : Nat) : List NodeRec :=
  match s.catOf with | some c => c.nodes.filter fun r => r.string == n | none => []

/-! ### MEAS contents (R140) -/

/-- The contents of a MEAS payload. Cell voltages count 100 µV, temperatures 0.01 °C with 0x7FFF broken (R1, R2). -/
structure Meas where
  state : Nat
  kind : Nat
  timeLocked : Bool
  flags : Nat
  aux : Nat
  discards : Nat
  cells : List Nat
  iA : Int
  iB : Int
  vString : Nat
  vLink : Nat
  temps : List Nat
  auxReadings : List Nat
  deriving DecidableEq, Repr

/-- A MEAS payload read by R140. -/
def parseMeas (b : List Byte) : Meas :=
  let st := byteAt b 0
  let kind := st / 16 % 4
  let k := byteAt b 6
  let m := byteAt b 7
  let body := match kind with | 0 => 2 * k | 1 => 16 | _ => 8
  { state := st % 16, kind := kind, timeLocked := st / 64 % 2 == 1, flags := byteAt b 1, aux := leAt b 2 2
    discards := leAt b 4 2
    cells := if kind = 0 then (List.range k).map fun i => leAt b (8 + 2 * i) 2 else []
    iA := if kind = 1 then signedOf 32 (leAt b 8 4) else 0
    iB := if kind = 1 then signedOf 32 (leAt b 12 4) else 0
    vString := if kind = 1 then leAt b 16 4 else 0
    vLink := if kind = 1 then leAt b 20 4 else 0
    temps := (List.range m).map fun i => leAt b (8 + body + 2 * i) 2
    auxReadings := if kind = 2 then (List.range 3).map fun i => leAt b (10 + 2 * i) 2 else [] }

/-- The newest confirmed sample of a node. -/
def State.newestSample (s : State) (a : Nat) : Option ConfSample :=
  match s.scan.newest.find? (fun x => x.1 == a) with | some x => some x.2 | none => none

/-! ### Rates and instants (R198 to R202) -/

/-- The scan period in ms of a rate (R199). -/
def periodMs (f : Nat) : Nat := if f = 0 then 1000 else 1000 / f

/-- SAMPLE_PHASE in ns. -/
def State.phaseNs (s : State) (n : Nat) : Nat := s.bits (Obj.str.scanCfg2 n) 9 0 * 1000

/-- Whether a string is scanned by its commander: its ring is neither MISWIRED nor DOWN (R198). -/
def State.scans (s : State) (n : Nat) : Bool :=
  s.commander && s.sys.mode != .boot && (s.ringX n).eff != Rs.miswired && (s.ringX n).eff != Rs.down &&
    (s.ringX n).eff != Rs.unconfigured

/-- Re-evaluates the causes of acceleration (R201); FAST stands from the first cause until FAST_HOLD_EXPIRY. -/
def State.fastCauses (n : Nat) (thermal : Bool) (s : State) : State :=
  let a := Obj.str.strStatus n
  let x := s.strX n
  let fault := s.bit (Obj.port.portStatus n) 8 || s.bit (Obj.port.portStatus (256 + n)) 8
  let force := s.bit (Obj.str.scanCfg n) 6
  let c := thermal.toNat + 2 * x.vNear.toNat + 4 * x.iNear.toNat + 8 * force.toNat + 16 * fault.toNat
  let s := s.wrBits a 12 8 c
  if c ≠ 0 then s.flag a 7 else s

/-- The effective rate (R199, R201). -/
def State.effRate (s : State) (n : Nat) : Nat :=
  match s.stringRec n with
  | none => 0
  | some r =>
    if s.sys.mode = .dormant then 1
    else if s.bit (Obj.str.strStatus n) 7 then max r.fastHz r.scanHz else r.scanHz

/-- The change of effective rate at a boundary (R202): RATE, PERIOD, SCAN and event 0x0A0. -/
def State.scanRate (n : Nat) (s : State) : State :=
  let f := s.effRate n
  let old := (s.strX n).rate
  let a := Obj.str.strStatus n
  let p := periodMs f
  let mode := if s.sys.mode = .dormant then 3 else if s.scans n then 1 else if s.commander then 0 else 2
  let s := s.wrBits a 2 0 mode
  if f = old then s
  else
    let s := (s.setStrX n fun x => { x with rate := f }).wrBits a 23 16 f
    let s := s.wr (Obj.str.period n) (w32 (n % p * 65536 + p))
    if old = 0 then s else s.raise 0x0A0 n old f (s.bits a 12 8)

/-- The slots whose instants a boundary commits: those of its lead window from `b` + 500 µs for one period (R200). -/
def leadSlots (b period phase : Nat) : List Nat :=
  let lo := b + 500000
  let k0 := (lo - phase + 999999) / 1000000
  (List.range (period / 1000000 + 1)).map (k0 + ·) |>.filter fun k =>
    decide (lo ≤ k * 1000000 + phase) && decide (k * 1000000 + phase < lo + period)

/-- SAMPLE_COMMIT (R198 to R200): the SAMPLEs of a string whose instants fall in this boundary's lead window. -/
def State.scanCommit (n : Nat) (s : State) : State :=
  if s.scans n then
    let p := periodMs (s.strX n).rate
    let ks := (leadSlots s.now s.protPeriod (s.phaseNs n)).filter fun k => decide (n ≤ k) && (k - n) % p == 0
    s.each ks fun k t =>
      let inst := k * 1000000 + t.phaseNs n
      let t := t.commitPlain n Op.sample .all 0 (leBytes (k % 2 ^ 32) 4 ++ leBytes (shortOf inst) 4)
      t.setStrX n fun x => { x with snaps := x.snaps ++ [⟨k % 2 ^ 32, inst, t.bit (Obj.port.ring n) 24, []⟩] }
  else s

/-- The condition that fails of capture watch, 0 where all hold (R208, event 0x0AC). -/
def State.watchFails (s : State) (n : Nat) : Nat :=
  let e := (s.ringX n).eff
  if !s.bit (Obj.str.scanCfg n) 7 then 1
  else if s.sys.mode = .dormant ∨ s.sys.mode = .boot ∨ s.commander = false then 2
  else if e ≠ Rs.closed ∧ e ≠ Rs.open_ ∧ e ≠ Rs.segmented then 3
  else if s.bit (Obj.port.ring n) 24 then 4
  else 0

/-- CAPTURE_COMMIT (R208): watch windows of 250 instants, back to back, under the lead rule. -/
def State.captureCommit (n : Nat) (s : State) : State :=
  let a := Obj.str.strStatus n
  let f := s.watchFails n
  let slots := leadSlots s.now s.protPeriod (s.phaseNs n)
  if f ≠ 0 then
    let s := s.setStrX n fun x => { x with nextWindow := none }
    if s.bit a 6 then (s.wrBit a 6 false).raise 0x0AC n 0 f 0 else s
  else
    let s := if s.bit a 6 then s else (s.flag a 6).raise 0x0AC n 1 0 0
    let start := match (s.strX n).nextWindow, slots with
      | none, k :: _ => some k
      | some w, k :: _ => if w < k then some k else if slots.contains w then some w else none
      | _, [] => none
    match start with
    | none => s
    | some k =>
      let s := s.commitPlain n Op.capture .all 0
        (leBytes (k % 2 ^ 32) 4 ++ leBytes (shortOf (k * 1000000 + s.phaseNs n)) 4 ++ leBytes 250 1 ++ leBytes 0 3)
      s.setStrX n fun x => { x with nextWindow := some (k + 250), windows := (k :: x.windows).take 8 }

/-- FAST_HOLD_EXPIRY (R201): every cause absent for HOLD_FAST ends acceleration. -/
def fastHoldExpiry (n : Nat) (s : State) : State :=
  let a := Obj.str.strStatus n
  if s.bits a 12 8 = 0 then s.wrBit a 7 false else s

def execFastHoldExpiry (string : Fin 256) (s : State) : Host.Outcome State Fault Refusal := s.live (fastHoldExpiry string)

/-! ### Confirmation (R213 to R215) -/

/-- How many copies confirm a node under the ring state in effect: two, one, or none. -/
def State.copiesNeeded (s : State) (n p : Nat) : Nat :=
  let x := s.ringX n
  if x.eff = Rs.closed then 2
  else if x.eff = Rs.open_ ∨ x.eff = Rs.segmented then
    let w := decide (p ≤ x.effReachW)
    let e := decide (x.effReachE ≤ p)
    if w && e then 2 else if w || e then 1 else 0
  else 0

/-- Whether this module confirms only with the active module's list (R216, R217): a STANDBY with LOCKSTEP 1, and a joining module from the
boundary of its module-wide copy (R505). -/
def State.lockstepStandby (s : State) : Bool :=
  (s.sys.mode == .standby && s.sys.lockstep) || (match s.red.join with | some j => j.gotModule | none => false)

/-- The first differing byte offset of two payloads. -/
def firstDiff : List Byte → List Byte → Nat → Nat
  | a :: s, b :: t, i => if a = b then firstDiff s t (i + 1) else i
  | _, _, i => i

/-- Notes a withdrawal whose readers are to be squashed. -/
def State.notice (n no p : Nat) (s : State) : State :=
  s.modScan fun u => { u with notices := u.notices ++ [⟨n, no, p⟩] }

/-- The node's HOST_LOSS as it is configured, ms (R145, R155). -/
def State.hostLossMs (s : State) (n : Nat) : Nat := match s.ringRec n with | some r => r.hostLoss | none => 100

/-- What a confirmed MEAS tells of its node (R140, R154, R155, R158): state, kind, contactor,
discards, last sample, their flags and events. -/
def State.nodeConfirmed (n p no instant : Nat) (payload : List Byte) (s : State) : State :=
  let a := nodeInst n p
  let m := parseMeas payload
  let st := Obj.node.nodeStatus a
  let oldState := s.bits st 3 0
  let oldCont := s.bits st 10 8
  let known := (s.newestSample a).isSome
  let x := s.nodeX a
  let cont := if m.kind = 1 then m.aux % 8 else 0
  let s := ((s.wrBits st 3 0 m.state).wrBits st 5 4 m.kind).wrBits st 10 8 cont
  let s := if oldState = m.state then s else s.raise 0x063 a oldState m.state 0
  let s := if m.state = 3 ∧ oldState ≠ 3 then
      (s.count (Obj.node.safeEntries a) 1).flag (Obj.node.nodeFlags a) 4 else s
  let s := if known ∧ m.state ≤ 1 ∧ 2 ≤ oldState ∧ x.bidden = false then s.flag (Obj.node.nodeFlags a) 5 else s
  let s := if m.state = 1 ∧ 2 ≤ oldState then s.setNodeX a fun y => { y with identOk := false } else s
  let s := if m.state = 2 then s.setNodeX a fun y => { y with bidden := false } else s
  let s := if m.flags / 64 % 2 = 1 then s.raise 0x064 a (s.hostLossMs n) 0 0 else s
  let s := if m.flags / 32 % 2 = 1 then
      let (w, s) := s.fresh
      (s.flag (Obj.node.nodeFlags a) 6).raise 0x06E a w.toNat 0 0 else s
  let s := if known ∧ m.kind = 1 ∧ cont ≠ oldCont then
      (s.raise 0x06D a oldCont cont (s.nodeX a).contactCause).setNodeX a fun y => { y with contactCause := 0 } else s
  let s := if known ∧ x.timeLocked = true ∧ m.timeLocked = false then
      s.raise 0x08F a s.sys.unitB.toNat (if s.locksWest n p then 1 else 2) 0 else s
  let s := s.setNodeX a fun y => { y with timeLocked := m.timeLocked }
  let d := (s.rd (Obj.node.nodeDiscards a)).toNat
  let s := s.wr (Obj.node.nodeDiscards a) (w32 (d + (m.discards + 65536 - d % 65536) % 65536))
  let s := s.wr (Obj.node.lastSample a) (w32 no)
  s.modScan fun u => { u with newest := upsert a ⟨no, instant, payload⟩ u.newest }

/-- Confirms a sample: counts, LATE with event 0x071, and what it tells of its node. -/
def State.confirmSample (n : Nat) (snap : Snap) (x : NodeSample) (s : State) : State :=
  if x.status = 0x0A then s.raise 0x071 (nodeInst n x.p) snap.no 0 0
  else if x.status ≠ 0 then s
  else s.nodeConfirmed n x.p snap.no snap.instant x.payload

/-- Replaces one node's sample of an open snapshot. -/
def State.putSample (n no : Nat) (x : NodeSample) (s : State) : State :=
  s.setStrX n fun y => { y with snaps := y.snaps.map fun (q : Snap) =>
    if q.no = no then { q with samples := q.samples.filter (fun z => z.p != x.p) ++ [x] } else q }

/-- A late copy (R205, R214). -/
def State.lateCopy (n : Nat) (s : State) : State := (s.count (Obj.str.lateCopies n) 1).flag (Obj.str.strFlags n) 2

/-- The confirmation of a copy, on its own ring; a lockstep standby leaves the effects to the active's list (R217). -/
def State.onConfirm (n : Nat) (q : Snap) (x : NodeSample) (s : State) : State :=
  let s := s.count (if x.two then Obj.str.copiesTwo n else Obj.str.copiesOne n) 1
  let s := s.putSample n q.no x
  if s.lockstepStandby then s else s.confirmSample n q x

/-- Withdraws a sample (R215). -/
def State.withdraw (n : Nat) (q : Snap) (x : NodeSample) (s : State) : State :=
  let s := (s.count (Obj.str.withdrawn n) 1).flag (Obj.str.strFlags n) 0
  (s.putSample n q.no { x with conf := .withdrawn }).notice n q.no x.p

/-- One good MEAS copy for an open snapshot (R213, R214). -/
def State.measInto (n p port : Nat) (f : NodeFrame) (q : Snap) (s : State) : State :=
  let need := s.copiesNeeded n p
  match q.samples.find? (fun x => x.p == p) with
  | none =>
    let x : NodeSample :=
      { p := p, status := f.status.toNat, payload := f.payload, port := port, two := false, conf := .provisional
        patched := false }
    if need = 1 then s.onConfirm n q { x with conf := .confirmed } else s.putSample n q.no x
  | some x =>
    if x.conf = .provisional ∧ x.port ≠ port then
      if x.status = f.status.toNat ∧ x.payload = f.payload then
        s.onConfirm n q { x with two := true, conf := .confirmed }
      else
        let s := (s.count (Obj.str.mismatches n) 1).flag (Obj.str.strFlags n) 1
        (s.raise 0x0A2 n q.no p (firstDiff x.payload f.payload 0)).withdraw n q x
    else s.lateCopy n

/-- The Module Time of a sample number of a string: the slot nearest the present that carries it (R139, R199). -/
def State.instantOf (s : State) (n no : Nat) : Nat :=
  let k := s.now / 1000000
  ((k : Int) + signedOf 32 (no + 2 ^ 32 - k % 2 ^ 32)).toNat * 1000000 + s.phaseNs n

/-- MEAS_RECEIVE (R203, R205, R213): a copy for a closed snapshot is late, with event 0x0A4; a listener opens a snapshot
for the sample number a frame carries. Copies on a MISWIRED ring are discarded. -/
def measReceive (f : NodeFrame) : State → State := State.nodeFrame f fun n p s =>
  let no := f.seq.toNat
  let port := f.port.val
  let x := s.strX n
  if (s.ringX n).eff = Rs.miswired ∨ (s.nodeRec n p).isNone then s
  else
    match x.snaps.find? (fun q => q.no == no) with
    | some q => s.measInto n p port f q
    | none =>
      match x.lastClosed with
      | some (c, t) =>
        if signedOf 32 (no + 2 ^ 32 - c) ≤ 0 then (s.lateCopy n).raise 0x0A4 n no p (min ((s.up - t) / 1000) 0xFFFFFFFF)
        else opened n p no port x s
      | none => opened n p no port x s
where
  /-- A listener's new snapshot; a commander takes only what it commanded. -/
  opened (n p no port : Nat) (_x : StrX) (s : State) : State :=
    if s.commander then s
    else
      let q : Snap := ⟨no, s.instantOf n no, s.bit (Obj.port.ring n) 24, []⟩
      (s.setStrX n fun y => { y with snaps := y.snaps ++ [q] }).measInto n p port f q

/-! ### Closing (R205, R206, R228) -/

/-- A sample present in a closed snapshot: confirmed, and neither LATE nor from an UNCONFIGURED node (R205). -/
def NodeSample.present (x : NodeSample) : Bool :=
  x.conf == .confirmed && x.status == 0 && decide (2 ≤ (parseMeas x.payload).state)

/-- The contents of the present samples, by position. -/
def Snap.meas (q : Snap) : List (Nat × Meas) := (q.samples.filter NodeSample.present).map fun x => (x.p, parseMeas x.payload)

/-- The extreme of a list by a comparison, the first of equals; none where it is empty. -/
def extreme {α : Type} (better : α → α → Bool) : List α → Option α
  | [] => none
  | a :: t => match extreme better t with
    | some b => if better b a then some b else some a
    | none => some a

/-- The cell voltages of a snapshot with their cell positions. -/
def State.snapCells (s : State) (n : Nat) (ms : List (Nat × Meas)) : List (Nat × Nat) :=
  ms.flatMap fun x => match s.nodeRec n x.1 with
    | some r => x.2.cells.zipIdx.map fun v => (v.1, r.firstCell + v.2)
    | none => []

/-- The temperatures of a snapshot: value, position, input. -/
def snapTemps (ms : List (Nat × Meas)) : List (Int × Nat × Nat) :=
  ms.flatMap fun x => x.2.temps.zipIdx.map fun t => (signedOf 16 t.1, x.1, t.2)

/-- The 12 words of a snapshot (R228), `seen` telling which samples count as not missing. -/
def State.snapWords (s : State) (n : Nat) (q : Snap) (seen : NodeSample → Bool) (flags : Nat) : List Word :=
  let xs := q.samples.filter seen
  let ms := xs.filterMap fun x => if x.status = 0 ∧ 2 ≤ (parseMeas x.payload).state then some (x.p, parseMeas x.payload) else none
  let nodes := (s.nodesOf n).map NodeRec.p
  let miss := nodes.filter fun p => !xs.any fun x => x.p == p && (ms.any fun m => m.1 == p)
  let bitsIn (lo hi : Nat) : Nat := miss.foldl (fun a p => if lo ≤ p ∧ p ≤ hi then a + 2 ^ (p - lo) else a) 0
  let conf := xs.filter fun x => x.conf == .confirmed
  let two := (conf.filter fun x => x.two).length
  let one := (conf.filter fun x => !x.two).length
  let th := ms.find? fun m => m.2.kind == 1
  let none32 : Nat := 0x80000000
  let (ia, ib, vs, vl, ct) := match th with
    | some m => (bitsOfInt 32 m.2.iA, bitsOfInt 32 m.2.iB, m.2.vString, m.2.vLink, m.2.aux % 8)
    | none => (none32, none32, none32, none32, 0)
  let cells := s.snapCells n ms
  let temps := snapTemps ms
  let vw (o : Option (Nat × Nat)) : Nat := match o with | some v => v.1 * 65536 + v.2 | none => none32
  let tw (o : Option (Int × Nat × Nat)) : Nat :=
    match o with | some v => bitsOfInt 16 v.1 * 65536 + v.2.1 * 256 + v.2.2 | none => none32
  [w32 q.no, w32 (nodes.length * 2 ^ 24 + two * 2 ^ 16 + one * 256 + flags), w32 ia, w32 ib, w32 vs, w32 vl,
   w32 (vw (extreme (fun a b => decide (b.1 < a.1)) cells)), w32 (vw (extreme (fun a b => decide (a.1 < b.1)) cells)),
   w32 (tw (extreme (fun a b => decide (b.1 < a.1)) temps)), w32 (tw (extreme (fun a b => decide (a.1 < b.1)) temps)),
   w32 (bitsIn 1 32), w32 (ct * 256 + bitsIn 33 40)]

/-- The flags of a snapshot (R206) but PROV. -/
def State.snapFlags (s : State) (n : Nat) (q : Snap) : Nat :=
  let ms := q.meas
  let complete := (s.nodesOf n).all fun r => ms.any fun m => m.1 == r.p
  let degraded := q.samples.any fun x => x.conf == .confirmed && !x.two && !x.patched
  let unlocked := ms.any fun m => !m.2.timeLocked
  let late := q.samples.any fun x => x.conf == .confirmed && x.status == 0x0A
  complete.toNat + 2 * degraded.toNat + 4 * (!q.calStale && !unlocked).toNat + 8 * q.calStale.toNat +
    16 * (q.samples.any fun x => x.patched).toNat + 32 * late.toNat + 64 * unlocked.toNat

/-- The state of PROV_SNAPSHOT: the newest sample number of which any copy has arrived (R224, R228). -/
def State.provWords (s : State) (n : Nat) : List Word :=
  let live := (s.strX n).snaps.filter fun q => !q.samples.isEmpty
  match live.getLast? with
  | none => s.rdList (Obj.str.snapshot n) 12
  | some q =>
    let prov := q.samples.any fun x => x.conf == .provisional
    s.snapWords n q (fun x => x.conf != .withdrawn) (s.snapFlags n q + 128 * prov.toNat)

/-- A still-provisional sample at the close (R213, R215): confirmed by one copy where the ring state in effect asks for
one only, else withdrawn with event 0x0A3. -/
def State.closeSample (n : Nat) (q : Snap) (x : NodeSample) (s : State) : State :=
  if x.conf = .provisional then
    if s.copiesNeeded n x.p = 1 then s.onConfirm n q { x with conf := .confirmed }
    else
      let s := if s.copiesNeeded n x.p = 2 then s.raise 0x0A3 n q.no x.p x.port else s
      s.withdraw n q x
  else s

/-- Publishes a closed snapshot (R206, R226, R228): SNAPSHOT, its status bits, counters, flags and events. -/
def State.publishSnap (n : Nat) (q : Snap) (s : State) : State :=
  let fl := s.snapFlags n q
  let ws := s.snapWords n q NodeSample.present fl
  let s := (State.wrList (Obj.str.snapshot n) ws s).wr64 (Obj.str.snapTime n) q.instant
  let a := Obj.str.strStatus n
  let s := (s.wrBit a 3 (fl / 4 % 2 == 1)).count (Obj.str.snapshots n) 1
  let missing := ((s.nodesOf n).filter fun r => !(q.meas.any fun m => m.1 == r.p)).length
  let s := s.count (Obj.str.missing n) missing
  let s := if fl % 2 = 1 then s
    else (s.flag (Obj.str.strFlags n) 5).raise 0x0A1 n q.no (ws.getD 10 0).toNat ((ws.getD 11 0).toNat % 256)
  let was := s.bit a 4
  let is := fl / 2 % 2 == 1
  let s := s.wrBit a 4 is
  let s := if is && !was then s.raise 0x0A5 n q.no ((ws.getD 1 0).toNat / 256 % 256) (s.ringX n).eff
    else if was && !is then s.raise 0x0A6 n q.no (s.strX n).degraded 0 else s
  s.setStrX n fun x => { x with degraded := if is then x.degraded + 1 else 0 }

/-- The Weir's part of SNAPSHOT_CLOSE (R205, R215, R217): the samples are decided, and the snapshot is published, or
held on a lockstep standby for the active's list. The closed snapshot is returned where it is final. -/
def State.weirClose (n no : Nat) (s : State) : Option Snap × State :=
  match (s.strX n).snaps.find? (fun q => q.no == no) with
  | none => (none, s)
  | some q =>
    let s := s.each q.samples (State.closeSample n q)
    let q := match (s.strX n).snaps.find? (fun r => r.no == no) with | some r => r | none => q
    let s := s.setStrX n fun x =>
      { x with snaps := x.snaps.filter (fun r => r.no != no), lastClosed := some (no, s.up) }
    if s.lockstepStandby then (none, s.modScan fun u => { u with held := u.held ++ [⟨n, q⟩] })
    else (some q, s.publishSnap n q)

/-- A standby's sample settled against the active's list (R217). -/
def State.settleSample (n : Nat) (q : Snap) (l : List AgreedNode) (p : Nat) (s : State) : Option NodeSample × State :=
  let own := q.samples.find? fun x => x.p == p
  match l.find? (fun a => a.p.val == p), own with
  | none, some x =>
    if x.conf = .confirmed then
      (some { x with conf := .withdrawn }, ((s.count (Obj.str.withdrawn n) 1).flag (Obj.str.strFlags n) 0).notice n q.no p)
    else (some x, s)
  | none, none => (none, s)
  | some a, own =>
    let patched : NodeSample :=
      { p := p, status := 0, payload := a.payload, port := 0, two := false, conf := .confirmed, patched := true }
    let s' := (s.count (Obj.str.patched n) 1).flag (Obj.str.strFlags n) 7
    match own with
    | some x =>
      if x.conf = .confirmed then
        if crc32c x.payload = a.crc.toNat then (some x, s)
        else (some patched, ((s'.flag (Obj.str.strFlags n) 8).raise 0x0AE n q.no p a.crc.toNat).notice n q.no p)
      else (some patched, (s'.raise 0x0AD n q.no p 0).notice n q.no p)
    | none => (some patched, s'.raise 0x0AD n q.no p 0)

/-- Settles a held snapshot against the active's list and publishes it (R217). -/
def State.settleHeld (n no : Nat) (l : List AgreedNode) (s : State) : Option Snap × State :=
  match s.scan.held.find? (fun h => h.string == n && h.snap.no == no) with
  | none => (none, s)
  | some h =>
    let s := s.modScan fun u => { u with held := u.held.filter fun g => !(g.string == n && g.snap.no == no) }
    let ps := (s.nodesOf n).map NodeRec.p
    let (xs, s) := ps.foldl (fun (acc : List NodeSample × State) p =>
      let (x, t) := acc.2.settleSample n h.snap l p
      (acc.1 ++ x.toList, t)) ([], s)
    let q := { h.snap with samples := xs }
    let s := s.each (xs.filter fun x => x.conf == .confirmed) (State.confirmSample n q)
    (some q, s.publishSnap n q)

/-! ### Captures (R208 to R211) -/

/-- The confirmed or provisional CAPDATA frame for a copy (R211, R213, R214). -/
def State.capCopy (n p port : Nat) (f : NodeFrame) (s : State) : State :=
  let x := s.strX n
  let first := f.seq.toNat
  let put (c : CapFrame) (t : State) : State := t.setStrX n fun y =>
    { y with frames := c :: y.frames.filter (fun d => !(d.p == p && d.first == first)) }
  match x.frames.find? (fun c => c.p == p && c.first == first) with
  | none =>
    let one := s.copiesNeeded n p = 1
    put ⟨p, first, f.status.toNat, f.payload, port, if one then .confirmed else .provisional⟩ s
  | some c =>
    if c.conf = .provisional ∧ c.port ≠ port then
      if c.status = f.status.toNat ∧ c.payload = f.payload then put { c with conf := .confirmed } s
      else
        let s := (s.count (Obj.str.mismatches n) 1).flag (Obj.str.strFlags n) 1
        put { c with conf := .withdrawn } (s.raise 0x0A2 n first p (firstDiff c.payload f.payload 0))
    else s.lateCopy n

/-- The values of a node's channel list at a sample number, from its confirmed frames: cell voltages, or I_A, I_B and
V_STRING of a TH1 (R142). -/
def CapFrame.valuesAt (th1 : Bool) (c : CapFrame) (no : Nat) : Option (List Int) :=
  let k := (no + 2 ^ 32 - c.first) % 2 ^ 32
  let ch := byteAt c.payload 1
  if c.conf = .confirmed ∧ k < byteAt c.payload 0 then
    if th1 then
      let o := 4 + 12 * k
      some [signedOf 32 (leAt c.payload o 4), signedOf 32 (leAt c.payload (o + 4) 4), leAt c.payload (o + 8) 4]
    else some ((List.range ch).map fun i => ((leAt c.payload (4 + 2 * (ch * k + i)) 2 : Nat) : Int))
  else none

/-- A node's confirmed capture values at a sample number. -/
def State.capAt (s : State) (n p : Nat) (th1 : Bool) (no : Nat) : Option (List Int) :=
  (s.strX n).frames.findSome? fun c => if c.p = p then c.valuesAt th1 no else none

/-- Opens a capture record (R209): 200 samples from 10 ms before the step; refused while one is open, with event 0x0AB
cause 4. -/
def State.openRecord (n stepNo : Nat) (ma : Int) (s : State) : State :=
  let first := (stepNo + 2 ^ 32 - 10) % 2 ^ 32
  match (s.strX n).record with
  | some r => ((s.count (Obj.str.capturesAbandoned n) 1).flag (Obj.str.strFlags n) 6).raise 0x0AB n r.first 4 0
  | none =>
    ((s.setStrX n fun x => { x with record := some ⟨first, ma, stepNo⟩ }).flag (Obj.str.strStatus n) 5).raise 0x0A9 n first
      (bitsOfInt 32 ma) 0

/-- Abandons the open record (R210) with a cause. -/
def State.abandonRecord (n cause : Nat) (s : State) : State :=
  match (s.strX n).record with
  | none => s
  | some r =>
    let s := (s.setStrX n fun x => { x with record := none }).wrBit (Obj.str.strStatus n) 5 false
    ((s.count (Obj.str.capturesAbandoned n) 1).flag (Obj.str.strFlags n) 6).raise 0x0AB n r.first cause 0

/-- The nodes whose capture samples a record awaits: TN16 and TH1 that are not missing from the last snapshot. -/
def State.recordNodes (s : State) (n : Nat) : List NodeRec :=
  let lo := (s.rd (Obj.str.snapshot n + 10)).toNat
  let hi := s.bits (Obj.str.snapshot n + 11) 7 0
  (s.nodesOf n).filter fun r => decide (r.kind ≤ 1) &&
    !(if r.p ≤ 32 then lo / 2 ^ (r.p - 1) % 2 == 1 else hi / 2 ^ (r.p - 33) % 2 == 1)

/-- Whether every sample of a record is confirmed for every present node (R210). -/
def State.recordComplete (s : State) (n : Nat) (r : CapRecord) : Bool :=
  (s.recordNodes n).all fun q => (List.range 200).all fun k => (s.capAt n q.p (q.kind == 1) ((r.first + k) % 2 ^ 32)).isSome

/-- Closes a complete record: event 0x0AA (R210). -/
def State.closeRecord (n : Nat) (r : CapRecord) (s : State) : State :=
  let s := (s.setStrX n fun x => { x with record := none }).wrBit (Obj.str.strStatus n) 5 false
  (s.count (Obj.str.capturesClosed n) 1).raise 0x0AA n r.first (s.recordNodes n).length 0

/-- Drops capture frames that no longer belong to the last 600 ms (R209), or to the open record. -/
def State.pruneFrames (n : Nat) (s : State) : State :=
  let k := s.now / 1000000 % 2 ^ 32
  s.setStrX n fun x => { x with frames := x.frames.filter (fun c =>
    decide (signedOf 32 (k + 2 ^ 32 - c.first) ≤ 650) || (match x.record with
      | some r => decide (-250 ≤ signedOf 32 (c.first + 2 ^ 32 - r.first))
      | none => false)) }

/-- The Weir discards open snapshots and provisional values (R223: LOCKOUT, warm restart). -/
def State.discardSnaps (s : State) : State :=
  s.modScan fun u => { u with
    strs := u.strs.map (fun x =>
      (x.1, { x.2 with snaps := [], frames := x.2.frames.filter (fun c => c.conf == .confirmed) }))
    held := [], notices := [] }

/-- The counters of a string that CLEAR_COUNTERS clears (R226). -/
def strCounters (n : Nat) : List Nat := (List.range 12).map fun i => Obj.str.snapshots n + i

/-- STR_CLEAR_COUNTERS (R226). -/
def strClearCounters (n : Nat) (s : State) : State :=
  if s.hasString n then (State.clearAll (strCounters n) s).accept (Obj.str.cmdStatus n) 1 Oc.done else s

def execStrClearCounters (string : Fin 256) (s : State) : Host.Outcome State Fault Refusal := s.live (strClearCounters string)

/-- The ring bound of CONFIRM_WINDOW in ns (R207). -/
def confirmBoundNs (nodes fibre : Nat) : Nat := 200000 + nodes * 8456 + fibre * 5 + nodes * 1184

/-- Whether a CONFIRM_WINDOW in µs passes on a string (R207, R227). -/
def State.windowOk (s : State) (n us : Nat) : Bool :=
  decide (400 ≤ us) && decide (us ≤ 2000) && (match s.ringRec n with
    | some r => decide (confirmBoundNs r.nodes r.fibreM ≤ us * 1000)
    | none => true)

end Sys2Proof.Machine
end

