-- ==== Sys2Proof/Machine/Est.lean ====
section
/-!
DEFINITION. Cell state estimation: the cell model, both filters, when updates run, reported state of charge, state of
power, checkpoints and lanes (R230 to R265). Binary32 expressions are evaluated in the order the spec writes them.
-/

namespace Sys2Proof.Machine

/-- The index of the segment of breakpoints that holds x: the last whose lower breakpoint is at or below x (R232). -/
def segOf (xs : List Nat) (x : Word) : Nat :=
  ((xs.drop 1).dropLast.filter fun (b : Nat) => B32.le (B32.ofInt b) x).length

/-- x's place in a segment as a fraction of it. -/
def segFrac (xs : List Nat) (i : Nat) (x : Word) : Word :=
  let a := B32.ofInt (xs.getD i 0)
  B32.div (B32.sub x a) (B32.sub (B32.ofInt (xs.getD (i + 1) 0)) a)

/-- The temperature segment and fraction, clamped to the table (R232). -/
def tempSeg (ts : List Int) (t : Int) : Nat × Word :=
  let t := clampInt (ts.getD 0 0) (ts.getD 7 0) t
  let j := ((ts.drop 1).dropLast.filter fun b => decide (b ≤ t)).length
  (j, B32.ofRatio (t - ts.getD j 0) (ts.getD (j + 1) 0 - ts.getD j 0).toNat)

/-- a + (b − a) × f. -/
def lerp (a b f : Word) : Word := B32.add a (B32.mul (B32.sub b a) f)

/-- OCV in V and its slope in V per unit of z, bilinear (R231, R232). -/
def ocvAt (c : ChemRec) (z : Word) (t : Int) : Word × Word :=
  let x := B32.mul z (B32.ofInt 10000)
  let i := segOf c.socOcv x
  let f := segFrac c.socOcv i x
  let (j, g) := tempSeg c.temp t
  let y (r k : Nat) : Word := B32.ofRatio (c.ocv.getD (r * 64 + k) 0) 10000
  let row (r : Nat) : Word := lerp (y r i) (y r (i + 1)) f
  let d := c.socOcv.getD (i + 1) 0 - c.socOcv.getD i 0
  let sl (r : Nat) : Word := B32.ofRatio ((c.ocv.getD (r * 64 + i + 1) 0 : Int) - c.ocv.getD (r * 64 + i) 0) d
  (lerp (row j) (row (j + 1)) g, lerp (sl j) (sl (j + 1)) g)

/-- A 16 × 8 table at z and T, z limited to 0 to 1, in counts (R231, R232). -/
def rcAt (c : ChemRec) (tab : List Nat) (z : Word) (t : Int) : Word :=
  let x := B32.min32 (B32.max32 (B32.mul z (B32.ofInt 10000)) 0) (B32.ofInt 10000)
  let i := segOf c.socRc x
  let f := segFrac c.socRc i x
  let (j, g) := tempSeg c.temp t
  let y (r k : Nat) : Word := B32.ofInt (tab.getD (r * 16 + k) 0)
  let row (r : Nat) : Word := lerp (y r i) (y r (i + 1)) f
  lerp (row j) (row (j + 1)) g

/-- The effective series and pair elements of a cell (R231), in Ω and F. -/
structure RcPar where
  rs : Word
  ra : Word
  ca : Word
  rb : Word
  cb : Word

/-- The elements at z and T under scale factors. -/
def rcPar (c : ChemRec) (sRs sCt : Nat) (z : Word) (t : Int) : RcPar :=
  let ohm (tab : List Nat) (s : Nat) : Word :=
    B32.mul (B32.ofRatio s 4096) (B32.div (rcAt c tab z t) (B32.ofInt 1000000))
  let far (tab : List Nat) : Word := B32.div (rcAt c tab z t) (B32.ofInt 10)
  ⟨ohm c.rsTab sRs, ohm c.raTab sCt, far c.caTab, ohm c.rbTab sCt, far c.cbTab⟩

/-- Element (i, j) of a symmetric matrix of six (R237). -/
def symAt (p : List Word) (i j : Nat) : Word :=
  let k := match min i j, max i j with
    | 0, k => k
    | 1, 1 => 3
    | 1, _ => 4
    | _, _ => 5
  p.getD k 0

/-- The six elements of a symmetric matrix given by a function. -/
def symOf (f : Nat → Nat → Word) : List Word := [f 0 0, f 0 1, f 0 2, f 1 1, f 1 2, f 2 2]

/-- The sum of three products or terms, left to right. -/
def sum3 (a b c : Word) : Word := B32.add (B32.add a b) c

/-- The initial covariance: diag(P0_SOC, P0_RC, P0_RC). -/
def ChemRec.p0 (c : ChemRec) : List Word := [c.p0Soc, 0, 0, c.p0Rc, 0, c.p0Rc]

/-- The inputs of one update of one cell (R238). -/
structure EstIn where
  chem : ChemRec
  /-- Interval charge in µA·s and length in ns. -/
  q : Int
  dt : Nat
  pExtra : Word
  /-- Measured voltage for the instant, 100 µV, where confirmed. -/
  v : Option Nat
  /-- Current at the instant, mA. -/
  ik : Int
  temp : Int
  /-- EST_CFG.GATE, 0.1 σ. -/
  gate : Nat
  sample : Nat
  instant : Nat

/-- What an update did, beside the new record. -/
structure EstOut where
  cell : CellRec
  corrected : Bool
  gated : Bool
  factored : Bool

/-- z limited to its range (R234). -/
def satZ (z : Int) : Int := clampInt (-268435456) 1342177280 z

/-- Whether z stands at a bound. -/
def atBound (z : Int) : Bool := z == -268435456 || z == 1342177280

/-- A voltage in nV, saturating. -/
def satNv (w : Word) : Int := clampInt (-2147483648) 2147483647 (B32.nearMul w 1000000000)

/-- The constants of one prediction. -/
structure Pred where
  dz : Word
  aa : Word
  ab : Word
  /-- ra × (1 − aa) × ibar and the same of b. -/
  da : Word
  db : Word
  dtS : Word

def predOf (i : EstIn) (cap : Nat) (r : RcPar) : Pred :=
  let q := B32.ofRatio i.q 1000000
  let dt := B32.ofRatio i.dt 1000000000
  let ibar := if i.dt = 0 then 0 else B32.div q dt
  let al (r c : Word) : Word := B32.expNeg (B32.div dt (B32.mul r c))
  let aa := al r.ra r.ca
  let ab := al r.rb r.cb
  { dz := B32.div q (B32.mul (B32.ofInt 3600) (B32.ofRatio cap 1000)), aa := aa, ab := ab
    da := B32.mul (B32.mul r.ra (B32.sub B32.one aa)) ibar, db := B32.mul (B32.mul r.rb (B32.sub B32.one ab)) ibar
    dtS := dt }

/-- The innovation as kept: signed, 100 µV, saturating. -/
def innovOf (e : Word) : Int := clampInt (-32768) 32767 (B32.nearMul e 10000)

/-- One extended Kalman update (R238). -/
def ekf (i : EstIn) (x : CellRec) : EstOut :=
  let zf := B32.ofRatio x.z (2 ^ 30)
  let r := rcPar i.chem x.sRs x.sCt zf i.temp
  let pr := predOf i x.cap r
  let z1 := satZ (x.z + B32.nearMul pr.dz (2 ^ 30))
  let va := B32.add (B32.mul pr.aa (B32.ofRatio x.va 1000000000)) pr.da
  let vb := B32.add (B32.mul pr.ab (B32.ofRatio x.vb 1000000000)) pr.db
  let f (k : Nat) : Word := match k with | 0 => B32.one | 1 => pr.aa | _ => pr.ab
  let qd (k : Nat) : Word := B32.mul (if k = 0 then i.chem.qSoc else i.chem.qRc) pr.dtS
  let p1 := symOf fun a b =>
    let m := B32.mul (B32.mul (f a) (symAt x.p a b)) (f b)
    let m := if a = b then B32.add m (qd a) else m
    if a = 0 ∧ b = 0 then B32.add m i.pExtra else m
  let x1 := { x with z := z1, va := satNv va, vb := satNv vb, p := p1 }
  match i.v with
  | none => ⟨x1, false, false, true⟩
  | some v =>
    let z1f := B32.ofRatio z1 (2 ^ 30)
    let (ocv, d) := ocvAt i.chem z1f i.temp
    let h (k : Nat) : Word := if k = 0 then d else B32.one
    let e := B32.sub (B32.ofRatio v 10000)
      (B32.add (B32.add (B32.add ocv va) vb) (B32.mul r.rs (B32.ofRatio i.ik 1000)))
    let ph (k : Nat) : Word := sum3 (B32.mul (symAt p1 k 0) d) (symAt p1 k 1) (symAt p1 k 2)
    let s := B32.add (sum3 (B32.mul d (ph 0)) (ph 1) (ph 2)) i.chem.rMeas
    let x2 := { x1 with innov := innovOf e }
    if B32.lt (B32.mul (B32.ofRatio i.gate 10) (B32.sqrt s)) (B32.abs e) then ⟨x2, false, true, true⟩
    else
      let kg (k : Nat) : Word := B32.div (ph k) s
      let a (m n : Nat) : Word :=
        let t := B32.mul (kg m) (h n)
        if m = n then B32.sub B32.one t else B32.flip t
      let ap (m n : Nat) : Word :=
        sum3 (B32.mul (a m 0) (symAt p1 0 n)) (B32.mul (a m 1) (symAt p1 1 n)) (B32.mul (a m 2) (symAt p1 2 n))
      let p2 := symOf fun m n =>
        B32.add (sum3 (B32.mul (ap m 0) (a n 0)) (B32.mul (ap m 1) (a n 1)) (B32.mul (ap m 2) (a n 2)))
          (B32.mul (B32.mul (kg m) i.chem.rMeas) (kg n))
      ⟨{ x2 with
          z := satZ (z1 + B32.nearMul (B32.mul (kg 0) e) (2 ^ 30))
          va := satNv (B32.add va (B32.mul (kg 1) e)), vb := satNv (B32.add vb (B32.mul (kg 2) e)), p := p2
          outlierRun := 0, lastCorr := i.sample, lastCorrAt := i.instant }, true, false, true⟩

/-- The lower factor of a 3 × 3 covariance, as rows; none on a non-positive pivot (R241). -/
def cholesky3 (p : List Word) : Option (List (List Word)) :=
  let m := symAt p
  let pos (w : Word) : Bool := B32.lt 0 w
  let d0 := m 0 0
  if pos d0 then
    let l00 := B32.sqrt d0
    let l10 := B32.div (m 1 0) l00
    let l20 := B32.div (m 2 0) l00
    let d1 := B32.sub (m 1 1) (B32.mul l10 l10)
    if pos d1 then
      let l11 := B32.sqrt d1
      let l21 := B32.div (B32.sub (m 2 1) (B32.mul l20 l10)) l11
      let d2 := B32.sub (B32.sub (m 2 2) (B32.mul l20 l20)) (B32.mul l21 l21)
      if pos d2 then some [[l00, 0, 0], [l10, l11, 0], [l20, l21, B32.sqrt d2]] else none
    else none
  else none

/-- One sigma point. -/
structure Sig where
  z : Word
  va : Word
  vb : Word

def Sig.at (x : Sig) (k : Nat) : Word := match k with | 0 => x.z | 1 => x.va | _ => x.vb

/-- The weighted sum over the seven points (R240): 1/4 for the first, 1/8 for the others. -/
def wsum (l : List Word) : Word :=
  match l with
  | [] => 0
  | a :: t => t.foldl (fun s x => B32.add s (B32.mul 0x3E000000 x)) (B32.mul 0x3E800000 a)

/-- One sigma-point update (R240, R241). -/
def sigmaPoint (i : EstIn) (x : CellRec) : EstOut :=
  match cholesky3 x.p with
  | none => ⟨{ x with p := i.chem.p0 }, false, false, false⟩
  | some l =>
    let zf := B32.ofRatio x.z (2 ^ 30)
    let x0 : Sig := ⟨zf, B32.ofRatio x.va 1000000000, B32.ofRatio x.vb 1000000000⟩
    let r := rcPar i.chem x.sRs x.sCt zf i.temp
    let pr := predOf i x.cap r
    let two : Word := 0x40000000
    let shift (j : Nat) (up : Bool) : Sig :=
      let c (k : Nat) : Word :=
        let d := B32.mul two ((l.getD k []).getD j 0)
        if up then B32.add (x0.at k) d else B32.sub (x0.at k) d
      ⟨c 0, c 1, c 2⟩
    let chi := x0 :: ([0, 1, 2].map fun j => shift j true) ++ ([0, 1, 2].map fun j => shift j false)
    let chi := chi.map fun c =>
      (⟨B32.add c.z pr.dz, B32.add (B32.mul pr.aa c.va) pr.da, B32.add (B32.mul pr.ab c.vb) pr.db⟩ : Sig)
    let xp : Sig := ⟨wsum (chi.map (·.z)), wsum (chi.map (·.va)), wsum (chi.map (·.vb))⟩
    let qd (k : Nat) : Word := B32.mul (if k = 0 then i.chem.qSoc else i.chem.qRc) pr.dtS
    let pp := symOf fun a b =>
      let m := wsum (chi.map fun c => B32.mul (B32.sub (c.at a) (xp.at a)) (B32.sub (c.at b) (xp.at b)))
      let m := if a = b then B32.add m (qd a) else m
      if a = 0 ∧ b = 0 then B32.add m i.pExtra else m
    let put (v : Sig) (p : List Word) (y : CellRec) : CellRec :=
      { y with z := satZ (x.z + B32.nearMul (B32.sub v.z zf) (2 ^ 30)), va := satNv v.va, vb := satNv v.vb, p := p }
    match i.v with
    | none => ⟨put xp pp x, false, false, true⟩
    | some v =>
      let ri := B32.mul r.rs (B32.ofRatio i.ik 1000)
      let ys := chi.map fun c => B32.add (B32.add (B32.add (ocvAt i.chem c.z i.temp).1 c.va) c.vb) ri
      let yp := wsum ys
      let dy := ys.map fun y => B32.sub y yp
      let s := B32.add (wsum (dy.map fun d => B32.mul d d)) i.chem.rMeas
      let c (k : Nat) : Word := wsum ((chi.zip dy).map fun w => B32.mul (B32.sub (w.1.at k) (xp.at k)) w.2)
      let e := B32.sub (B32.ofRatio v 10000) yp
      let x2 := { x with innov := innovOf e }
      if B32.lt (B32.mul (B32.ofRatio i.gate 10) (B32.sqrt s)) (B32.abs e) then ⟨put xp pp x2, false, true, true⟩
      else
        let g (k : Nat) : Word := B32.div (c k) s
        let p2 := symOf fun a b => B32.sub (symAt pp a b) (B32.mul (B32.mul (g a) s) (g b))
        let xe : Sig := ⟨B32.add xp.z (B32.mul (g 0) e), B32.add xp.va (B32.mul (g 1) e), B32.add xp.vb (B32.mul (g 2) e)⟩
        ⟨put xe p2 { x2 with outlierRun := 0, lastCorr := i.sample, lastCorrAt := i.instant }, true, false, true⟩

/-! ### The array's state -/

def State.modEst (f : EstUnit → EstUnit) (s : State) : State := { s with est := f s.est }
def State.cell (s : State) (i : Nat) : CellRec := lookupD .initial s.est.cells i
def State.hasCell (s : State) (i : Nat) : Bool := hasKey i s.est.cells
def State.setCell (i : Nat) (f : CellRec → CellRec) (s : State) : State :=
  s.modEst fun u => { u with cells := upsert i (f (lookupD .initial u.cells i)) u.cells }
def State.strEst (s : State) (n : Nat) : StrEst := lookupD .initial s.est.strs n
def State.setStrEst (n : Nat) (f : StrEst → StrEst) (s : State) : State :=
  s.modEst fun u => { u with strs := upsert n (f (lookupD .initial u.strs n)) u.strs }

/-- The number of cells of a string; 0 where it is not configured. -/
def State.cellsOf (s : State) (n : Nat) : Nat := match s.stringRec n with | some r => r.cells | none => 0

/-- Whether a global cell index addresses a configured cell (R4). -/
def State.cellExists (s : State) (i : Nat) : Bool := decide (i % 512 < s.cellsOf (i / 512))

/-- The chemistry of a string. -/
def State.chemOf (s : State) (n : Nat) : Option ChemRec :=
  match s.catOf, s.stringRec n with
  | some c, some r => c.chems.find? fun k => k.profile == r.chem
  | _, _ => none

/-- The TN16 that carries a cell position. -/
def State.nodeOfCell (s : State) (n pos : Nat) : Option NodeRec :=
  (s.nodesOf n).find? fun r => r.kind == 0 && decide (r.firstCell ≤ pos) && decide (pos < r.firstCell + r.cells)

/-- The THRESHOLDS of a string: its own record or the default (R50). -/
def State.threshOf (s : State) (n : Nat) : Option ThreshRec :=
  match s.catOf with
  | some c => match c.thresholds.find? (fun r => r.string == n) with
    | some r => some r
    | none => c.thresholds.find? fun r => r.string == 0xFFFF
  | none => none

/-- A state of charge in 2^-30 as reported: rounded to 0.01 %, halves up, 0 to 10,000 (R236). -/
def socCounts (z : Int) : Nat := (clampInt 0 10000 ((2 * z * 10000 + 2 ^ 30) / 2 ^ 31)).toNat

/-- STATE as the record carries it (R237). -/
def CellRec.stateByte (x : CellRec) (filter : Bool) : Nat :=
  x.state + 16 * filter.toNat + 32 * x.tempSub.toNat + 64 * x.saturated.toNat

/-- Bytes 0x00 to 0x3B of a state record (R237, R255). -/
def CellRec.bytes (x : CellRec) (filter : Bool) : List Byte :=
  leBytes (bitsOfInt 32 x.z) 4 ++ leBytes (bitsOfInt 32 x.va) 4 ++ leBytes (bitsOfInt 32 x.vb) 4 ++
  x.p.flatMap (fun w => leBytes w.toNat 4) ++ leBytes (bitsOfInt 32 x.zr) 4 ++ leBytes x.estSample 4 ++
  leBytes x.cap 4 ++ leBytes x.sRs 2 ++ leBytes x.sCt 2 ++ leBytes (bitsOfInt 16 x.innov) 2 ++
  leBytes (x.stateByte filter) 1 ++ leBytes x.outlierRun 1 ++ leBytes x.lastCorr 4

/-- FILTER of a string: the sigma-point filter (R47). -/
def State.filterOf (s : State) (n : Nat) : Bool := match s.stringRec n with | some r => r.filter == 1 | none => false

/-- EST_DIGEST of a string (R255). -/
def State.estDigest (s : State) (n : Nat) : Nat :=
  crc32c ((List.range (s.cellsOf n)).flatMap fun k => (s.cell (n * 512 + k)).bytes (s.filterOf n))

/-- A cell's objects from its record (R260, R261), OCV and effective resistances taken at its z and T. -/
def State.showCell (i : Nat) (s : State) : State :=
  let n := i / 512
  let x := s.cell i
  let fl := s.filterOf n
  let o := Obj.cell.cellStatus i
  let s := s.wr o (w32 (x.outlierRun * 256 + x.stateByte fl))
  let s := s.wr (Obj.cell.soc i) (w32 (socCounts x.z * 65536 + socCounts x.zr))
  let s := s.wr (Obj.cell.socSigma i) (w32 (clampInt 0 65535 (B32.nearMul (B32.sqrt (symAt x.p 0 0)) 10000)).toNat)
  let s := (s.wr (Obj.cell.va i) (w32 (bitsOfInt 32 (x.va / 1000)))).wr (Obj.cell.vb i) (w32 (bitsOfInt 32 (x.vb / 1000)))
  let s := s.wr (Obj.cell.estSample i) (w32 x.estSample)
  let s := (s.wr (Obj.cell.capacity i) (w32 x.cap)).wr (Obj.cell.scale i) (w32 (x.sCt * 65536 + x.sRs))
  match s.chemOf n with
  | none => s
  | some c =>
    let zf := B32.ofRatio x.z (2 ^ 30)
    let r := rcPar c x.sRs x.sCt zf x.temp
    let ocv := (clampInt 0 65535 (B32.nearMul (ocvAt c zf x.temp).1 10000)).toNat
    let uo (w : Word) : Word := w32 (clampInt 0 4294967295 (B32.nearMul w 1000000)).toNat
    ((s.wr (Obj.cell.ocvInnov i) (w32 (bitsOfInt 16 x.innov * 65536 + ocv))).wr (Obj.cell.rsEff i) (uo r.rs)).wr
      (Obj.cell.rabEff i) (uo (B32.add r.ra r.rb))

/-- The string's summary after its cells changed (R262, R263): EST_STATUS counts, SOC range, position, mean, digest. -/
def State.showString (n : Nat) (s : State) : State :=
  let ps := List.range (s.cellsOf n)
  let cs := ps.map fun k => (k, s.cell (n * 512 + k))
  let a := Obj.str.estStatus n
  let tr := (cs.filter fun c => c.2.state == 1).length
  let s := ((s.wrBits a 31 20 tr).wrBits a 19 8 (ps.length - tr)).wrBit a 0 (s.filterOf n)
  let socs := cs.map fun c => (socCounts c.2.zr, c.1)
  let hi := (extreme (fun x y => decide (y.1 < x.1)) socs).getD (0, 0)
  let lo := (extreme (fun x y => decide (x.1 < y.1)) socs).getD (0, 0)
  let mean := if ps.length = 0 then 0 else (socs.foldl (fun t x => t + x.1) 0) / ps.length
  let s := s.wr (Obj.str.socRange n) (w32 (hi.1 * 65536 + lo.1))
  let s := (s.wr (Obj.str.socPos n) (w32 (hi.2 * 65536 + lo.2))).wr (Obj.str.socMean n) (w32 mean)
  s.wr (Obj.str.estDigest n) (w32 (s.estDigest n))

/-- A covariance reset of a cell (R239, R241, R244, R260): counted, flagged and reported. -/
def State.covReset (i cause : Nat) (s : State) : State :=
  let x := s.cell i
  let s := (s.count (Obj.cell.covResets i) 1).flag (Obj.cell.cellFlags i) 3
  s.raise 0x0C1 i cause (bitsOfInt 32 x.innov) x.estSample

/-! ### Measured values (R233) -/

/-- A cell's assigned temperature in a snapshot. -/
def assignedTemp (r : NodeRec) (m : Meas) (tmax : Int) (pos : Nat) : Int :=
  if m.temps = [] then tmax
  else signedOf 16 (m.temps.getD ((pos - r.firstCell) * m.temps.length / m.cells.length) 0x7FFF)

/-- Takes up the confirmed values of a closed snapshot: MEAS, MEAS_SAMPLE, the temperature of each cell present and its
substitution, event 0x0CA once per sensor on its change into the broken state. -/
def State.estMeasure (n : Nat) (q : Snap) (s : State) : State :=
  let ms := q.meas
  let tmax := ((extreme (fun x y : Int × Nat × Nat => decide (y.1 < x.1)) (snapTemps ms)).getD (0x7FFF, 0, 0)).1
  s.each (ms.filter fun m => m.2.kind == 0) fun m s =>
    match s.nodeRec n m.1 with
    | none => s
    | some r =>
      let a := nodeInst n m.1
      let s := s.each m.2.temps.zipIdx fun t u =>
        let was := u.est.broken.contains (a, t.2)
        if t.1 = 0x7FFF ∧ was = false then
          (u.modEst fun e => { e with broken := (a, t.2) :: e.broken }).raise 0x0CA n m.1 t.2 0
        else if t.1 ≠ 0x7FFF ∧ was = true then u.modEst fun e => { e with broken := e.broken.filter (· != (a, t.2)) }
        else u
      s.each m.2.cells.zipIdx fun v u =>
        let pos := r.firstCell + v.2
        let i := n * 512 + pos
        let t := assignedTemp r m.2 tmax pos
        let sub := t == 0x7FFF
        let u := if sub && !(u.cell i).tempSub then u.flag (Obj.cell.cellFlags i) 1 else u
        let u := u.setCell i fun x => { x with temp := t, tempSub := sub }
        (u.wr (Obj.cell.meas i) (w32 (bitsOfInt 16 t * 65536 + v.1))).wr (Obj.cell.measSample i) (w32 q.no)

/-! ### Initial states (R257, R258) -/

/-- The newest complete checkpoint (R256). -/
def EstUnit.newestCkpt (u : EstUnit) : Checkpoint :=
  if u.ckpt0.ok && (!u.ckpt1.ok || decide (u.ckpt1.seq ≤ u.ckpt0.seq)) then u.ckpt0 else u.ckpt1

/-- z by inverting the OCV table at a voltage: the first segment at the temperature whose span holds it; none where its
slope is below 0.5 V per unit (R258, R274). -/
def invertOcv (c : ChemRec) (v : Word) (t : Int) (minSlope : Word) : Option Word :=
  (List.range 63).findSome? fun i =>
    let z (k : Nat) : Word := B32.ofRatio (c.socOcv.getD k 0) 10000
    let (lo, slope) := ocvAt c (z i) t
    let hi := (ocvAt c (z (i + 1)) t).1
    if B32.le lo v && B32.le v hi && B32.le minSlope slope then some (B32.add (z i) (B32.div (B32.sub v lo) slope))
    else none

/-- Capacity and scale factors of a cell as MRAM keeps them: RATED_CAP where the capacity was never learned (R231). -/
def State.learned (s : State) (i : Nat) : Nat × Nat × Nat :=
  let cap := (s.rd (Obj.cell.capacity i)).toNat
  let rated := match s.stringRec (i / 512) with | some r => r.ratedCap | none => 0
  (if cap = 0 then rated else cap, s.bits (Obj.cell.scale i) 15 0, s.bits (Obj.cell.scale i) 31 16)

/-- Initialises the cells of a string that have no state yet (R258), with event 0x0C0 for the cause of most of them. -/
def State.initCells (n : Nat) (rest : Bool) (q : Snap) (s : State) : State :=
  match s.chemOf n with
  | none => s
  | some c =>
    let idx := (List.range (s.cellsOf n)).map fun k => n * 512 + k
    let new := idx.filter fun i => (s.cell i).cap == 0
    if new = [] then s
    else
      let ck := s.est.newestCkpt
      let volt (i : Nat) : Option Nat :=
        if (s.rd (Obj.cell.measSample i)).toNat = q.no then some (s.bits (Obj.cell.meas i) 15 0) else none
      let saved (i : Nat) : Option (Int × Int) :=
        if ck.ok then (match ck.cells.find? (fun e => e.1 == i) with | some e => some e.2 | none => none) else none
      let inv (i : Nat) : Option Int :=
        if s.bit (Obj.str.estCfg n) 0 && rest then
          match volt i with
          | some v => (invertOcv c (B32.ofRatio v 10000) (s.cell i).temp 0x3F000000).map fun z => B32.nearMul z (2 ^ 30)
          | none => none
        else none
      let first (i : Nat) : Option (Nat × Int × Int) :=
        match saved i with
        | some (z, zr) => some (1, z, zr)
        | none => match inv i with
          | some z => some (3, z, z)
          | none => none
      let known := (idx.filter fun i => (s.cell i).cap != 0).map (fun i => (s.cell i).z) ++
        (new.filterMap first).map (fun x => x.2.1)
      let mean : Option Int := if known = [] then none else some (known.foldl (· + ·) 0 / (known.length : Int))
      let pick (i : Nat) : Nat × Int × Int := match first i with
        | some x => x
        | none => match mean with
          | some m => (2, m, clampInt 0 (2 ^ 30) m)
          | none => (4, 2 ^ 29, 2 ^ 29)
      let picks := new.map fun i => (i, pick i)
      let votes (k : Nat) : Nat := (picks.filter fun p => p.2.1 == k).length
      let cause := ((extreme (fun a b : Nat × Nat => decide (b.1 < a.1)) ([1, 2, 3, 4].map fun k => (votes k, k))).getD (0, 1)).2
      let s := s.each picks fun p u =>
        let (cap, sRs, sCt) := u.learned p.1
        u.setCell p.1 fun x =>
          { x with z := satZ p.2.2.1, zr := clampInt 0 (2 ^ 30) p.2.2.2, p := c.p0, cap := cap, sRs := sRs, sCt := sCt }
      s.raise 0x0C0 n cause new.length 0

/-! ### The interval (R242 to R244) -/

/-- EST_CFG.I_GAP and V_GAP in ns. -/
def State.iGapNs (s : State) (n : Nat) : Nat := s.bits (Obj.str.estCfg n) 23 16 * 100000000
def State.vGapNs (s : State) (n : Nat) : Nat := s.bits (Obj.str.estCfg n) 7 1 * 1000000000

/-- The trapezoid over consecutive samples of a quantity in mA: charge in µA·s (R243). -/
def trapezoid (f : CurSample → Int) : List CurSample → Int
  | a :: b :: t => (f a + f b) * ((b.instant : Int) - a.instant) + trapezoid f (b :: t)
  | _ => 0

/-- q of an interval in µA·s: the mean of both channels. -/
def intervalCharge (l : List CurSample) : Int := trapezoid (fun c => c.iA + c.iB) l / 4000000

/-- Whether two channels disagree (R243). -/
def disagree (rated : Nat) (c : CurSample) : Bool :=
  decide (1000 * (c.iA - c.iB).natAbs > 10 * max c.iA.natAbs c.iB.natAbs + rated)

/-- p_extra of R243 for a cell. -/
def pExtraOf (l : List CurSample) (cap : Nat) : Word :=
  let q := B32.ofRatio (trapezoid (fun c => ((c.iA - c.iB).natAbs : Int)) l / 4) 1000000000000
  let d := B32.div q (B32.mul (B32.ofInt 3600) (B32.ofRatio cap 1000))
  B32.mul d d

/-- Takes up a snapshot's current: the list of the interval, CUR_DISAGREE with event 0x0C5, and the end of a gap. -/
def State.estCurrent (n : Nat) (q : Snap) (s : State) : State :=
  match (q.meas.find? fun m => m.2.kind == 1) with
  | none => s
  | some m =>
    let c : CurSample := ⟨q.instant, m.2.iA, m.2.iB⟩
    let a := Obj.str.estStatus n
    let gap := s.bit a 4
    let s := s.setStrEst n fun x =>
      { x with currents := if gap then [c] else x.currents ++ [c], afterGap := x.afterGap || gap
               lastUpdate := if gap then some q.instant else x.lastUpdate }
    let s := if gap then s.wrBit a 4 false else s
    let rated := match s.stringRec n with | some r => r.ratedCap | none => 0
    let was := s.bit a 5
    let is := disagree rated c
    let s := s.wrBit a 5 is
    if is && !was then s.raise 0x0C5 n (bitsOfInt 32 c.iA) (bitsOfInt 32 c.iB) q.no else s

/-- The next target (R242). -/
def nextTarget (pe : Nat) (target instant : Nat) : Nat :=
  if instant < target + pe then target + pe else target + pe * ((instant - target) / pe + 1)

/-! ### Reported state of charge and direction (R250, R251) -/

/-- The direction of an interval: 0 rest, 1 charge, 2 discharge (R250). -/
def directionOf (q : Int) (dt rated : Nat) : Nat :=
  if dt = 0 then 0
  else if (rated : Int) * dt < q * 100000000 then 1
  else if q * 100000000 < -((rated : Int) * dt) then 2
  else 0

/-- z_r after an update (R251). -/
def moveZr (zr z dz rc : Int) (dir : Nat) : Int :=
  let ze := clampInt 0 (2 ^ 30) z
  let base := zr + dz
  let cand := base + clampInt (-rc) rc (ze - base)
  let cand := if dir = 2 then min cand zr else if dir = 1 then max cand zr else cand
  clampInt 0 (2 ^ 30) cand

/-- One cell's update in a snapshot (R238 to R241, R245, R251). -/
def State.estCell (n : Nat) (q : Snap) (l : List CurSample) (charge : Int) (dt dir : Nat) (afterGap dis : Bool) (c : ChemRec)
    (i : Nat) (s : State) : State :=
  let x := s.cell i
  let x := if afterGap then
      { x with va := 0, vb := 0
               p := [B32.add (symAt x.p 0 0) c.p0Soc, 0, 0, c.p0Rc, 0, c.p0Rc] } else x
  let s := if afterGap then (s.setCell i fun _ => x).covReset i 4 else s
  let ik := match l.getLast? with | some k => (k.iA + k.iB) / 2 | none => 0
  let v := if (s.rd (Obj.cell.measSample i)).toNat = q.no then some (s.bits (Obj.cell.meas i) 15 0) else none
  let inp : EstIn :=
    { chem := c, q := charge, dt := dt, pExtra := if dis then pExtraOf l x.cap else 0, v := v, ik := ik, temp := x.temp
      gate := s.bits (Obj.str.estCfg n) 31 24, sample := q.no, instant := q.instant }
  let o := if s.filterOf n then sigmaPoint inp x else ekf inp x
  let dz := B32.nearMul (predOf inp x.cap (rcPar c x.sRs x.sCt (B32.ofRatio x.z (2 ^ 30)) x.temp)).dz (2 ^ 30)
  let rc := ((s.bits (Obj.str.estCfg n) 15 8 * dt * 2 ^ 30 / 10000000000000 : Nat) : Int)
  let run := if o.gated then min 255 (x.outlierRun + 1) else o.cell.outlierRun
  let reset := decide (10 ≤ run)
  let lastAt := if o.corrected then q.instant else o.cell.lastCorrAt
  let state := if o.corrected then 1 else if q.instant ≤ lastAt + s.vGapNs n then 2 else if x.state = 3 then 3 else 2
  let y := { o.cell with
    zr := moveZr x.zr o.cell.z dz rc dir, estSample := q.no, state := state, outlierRun := if reset then 0 else run
    p := if reset then c.p0 else o.cell.p, saturated := atBound o.cell.z }
  let s := s.setCell i fun _ => y
  let s := (s.count (Obj.cell.updates i) 1).wr64 Obj.imp.arrayUpdates (s.rd64 Obj.imp.arrayUpdates + 1)
  let s := if o.corrected then s.count (Obj.cell.corrections i) 1 else s
  let s := if o.gated then (s.count (Obj.cell.outliers i) 1).flag (Obj.cell.cellFlags i) 0 else s
  let s := if reset then s.covReset i 1 else s
  let s := if o.factored then s else s.covReset i 2
  let s := if y.saturated && !x.saturated then
      (s.flag (Obj.cell.cellFlags i) 6).raise 0x0C6 i (if 0 < y.z then 1 else 0) q.no 0 else s
  s.showCell i

/-- The cells of a node as global indices. -/
def NodeRec.cellIdx (r : NodeRec) : List Nat := (List.range r.cells).map fun k => r.string * 512 + r.firstCell + k

/-- Reports nodes whose cells return to TRACKING (R245, event 0x0C3). -/
def State.estReturns (n : Nat) (q : Snap) (before : List (Nat × CellRec)) (s : State) : State :=
  s.each ((s.nodesOf n).filter fun r => r.kind == 0) fun r u =>
    let back := r.cellIdx.filter fun i => decide (3 ≤ (lookupD .initial before i).state) && (u.cell i).state == 1
    match back with
    | [] => u
    | i :: _ => u.raise 0x0C3 n r.firstCell back.length
        (min 0xFFFFFFFF ((q.instant - (lookupD .initial before i).lastCorrAt) / 1000000))

/-- EST_UPDATE (R238, R242): the update of a string where its closed snapshot is due, with REST_CHANGE (R250). While
current is missing for longer than I_GAP no update runs (R244). The outcome tells the interval's charge where one ran. -/
def State.estUpdate (n : Nat) (q : Snap) (s : State) : Option (Int × Nat) × State :=
  match s.stringRec n, s.chemOf n with
  | some r, some c =>
    let e := s.strEst n
    let target := e.target.getD q.instant
    let due := decide (target ≤ q.instant) || s.sys.mode == .dormant
    if due && !s.bit (Obj.str.estStatus n) 4 then
      let last := e.lastUpdate.getD q.instant
      let dt := q.instant - last
      let l := e.currents
      let tail := match l.getLast? with
        | some k => if k.instant = q.instant then l else l ++ [{ k with instant := q.instant }]
        | none => []
      let charge := intervalCharge tail
      let dir := directionOf charge dt r.ratedCap
      let s := s.initCells n (dir == 0) q
      let before := s.est.cells
      let s := s.each (List.range r.cells) fun k u =>
        u.estCell n q tail charge dt dir e.afterGap (u.bit (Obj.str.estStatus n) 5) c (n * 512 + k)
      let s := s.estReturns n q before
      let a := Obj.str.estStatus n
      let ibar := if dt = 0 then 0 else charge * 1000000 / dt
      let wasRest := e.restSince.isSome
      let s := s.wrBits a 3 2 dir
      let s := if dir = 0 ∧ wasRest = false then s.raise 0x0CD n 1 (bitsOfInt 32 ibar) 0
        else if dir ≠ 0 ∧ wasRest = true then s.raise 0x0CD n 0 (bitsOfInt 32 ibar) 0 else s
      let since := if dir = 0 then some (e.restSince.getD q.instant) else none
      let rt := match since with | some t => min 0xFFFFFFFF ((q.instant - t) / 1000000000) | none => 0
      let s := s.wr (Obj.str.restTime n) (w32 rt)
      let s := s.setStrEst n fun x =>
        { x with target := some (nextTarget (1000000 * (1000 / max r.estHz 1)) target q.instant)
                 lastUpdate := some q.instant, afterGap := false, restSince := since
                 currents := (x.currents.getLast?.map fun k => { k with instant := q.instant }).toList }
      (some (charge, dt), s.showString n)
    else (none, s)
  | _, _ => (none, s)

/-- CURRENT_GAP (R244): every cell of the string is HELD, with CUR_GAP and events 0x0C4 and, per node, 0x0C2. -/
def currentGap (n : Nat) (s : State) : State :=
  let a := Obj.str.estStatus n
  if s.hasString n && !s.bit a 4 then
    let last := match (s.strEst n).currents.getLast? with | some c => c.instant | none => s.now
    let s := (s.flag a 4).raise 0x0C4 n ((s.now - last) / 1000000) (last / 1000000) 0
    let s := s.each ((List.range (s.cellsOf n)).map fun k => n * 512 + k) fun i u =>
      ((u.setCell i fun x => { x with state := 4 }).flag (Obj.cell.cellFlags i) 2).showCell i
    (s.each ((s.nodesOf n).filter fun r => r.kind == 0) fun r u => u.raise 0x0C2 n r.firstCell r.cells 2).showString n
  else s

def execCurrentGap (string : Fin 256) (s : State) : Host.Outcome State Fault Refusal := s.live (currentGap string)

/-- CELLS_STALE (R245): the cells of a node that were COASTING for longer than V_GAP become STALE; event 0x0C2. -/
def cellsStale (n p : Nat) (s : State) : State :=
  match s.nodeRec n p with
  | none => s
  | some r =>
    let go := r.cellIdx.filter fun i => (s.cell i).state == 1 || (s.cell i).state == 2
    if r.kind = 0 ∧ go ≠ [] then
      let s := s.each go fun i u =>
        ((u.setCell i fun x => { x with state := 3 }).flag (Obj.cell.cellFlags i) 2).showCell i
      (s.raise 0x0C2 n r.firstCell go.length 1).showString n
    else s

def execCellsStale (node : NodeId) (s : State) : Host.Outcome State Fault Refusal := s.live (cellsStale node.string node.p)

/-! ### Lanes, checkpoints, commands -/

/-- LANE_FAULT (R249): the update is executed again on another lane; a lane that fails three times within 60 s leaves
service; event 0x0CC. -/
def laneFault (l : Nat) (s : State) : State :=
  if s.bit Obj.imp.arrayStatus l then
    let ts := s.up :: ((lookupD [] s.est.lanes l).filter fun t => decide (s.up ≤ t + 60000000000))
    let out := decide (3 ≤ ts.length)
    let s := (s.modEst fun u => { u with lanes := upsert l ts u.lanes }).count Obj.imp.laneFaults 1
    let s := if out then s.wrBit Obj.imp.arrayStatus l false else s
    let inService := ((List.range 16).filter fun k => s.bit Obj.imp.arrayStatus k).length
    s.raise 0x0CC l ts.length out.toNat inService
  else s

def execLaneFault (lane : Fin 16) (s : State) : Host.Outcome State Fault Refusal := s.live (laneFault lane)

/-- CHECKPOINT_WRITE (R256): the older copy takes z and z_r of every cell; a failed read-back raises 0x0CB and leaves
the other copy in force. -/
def checkpointWrite (ok : Bool) (s : State) : State :=
  let u := s.est
  let newest := u.newestCkpt
  let seq := (if newest.ok then newest.seq else 0) + 1
  let c : Checkpoint := ⟨seq, ok, u.cells.map fun x => (x.1, (x.2.z, x.2.zr))⟩
  let copy0 := u.ckpt1.ok && decide (u.ckpt1 = newest)
  let s := s.modEst fun v => if copy0 then { v with ckpt0 := c } else { v with ckpt1 := c }
  if ok then s.wr Obj.imp.checkpoint (w32 ((s.bits Obj.imp.checkpoint 15 0 + 1) % 65536))
  else s.raise 0x0CB 0 (if copy0 then 0 else 1) seq 0

def execCheckpointWrite (readBackOk : Bool) (s : State) : Host.Outcome State Fault Refusal := s.live (checkpointWrite readBackOk)

abbrev CellCmd.resetCov : Nat := 1
abbrev CellCmd.setSoc : Nat := 2
abbrev CellCmd.clear : Nat := 3

/-- RESET_COV (R260): P takes the initial covariance at the next commit. -/
def resetCov (i : Nat) (s : State) : State :=
  if s.cellExists i then (s.setCell i fun x => { x with covDue := true }).accept (Obj.cell.cmdStatus i) CellCmd.resetCov Oc.done
  else s

def execResetCov (cell : Fin 131072) (s : State) : Host.Outcome State Fault Refusal := s.live (resetCov cell)

/-- SET_SOC (R252): WRONG_MODE outside STOP and SERVICE, BAD_VALUE above 10,000; else z and z_r at the next commit. -/
def setSoc (i soc : Nat) (s : State) : State :=
  let st := Obj.cell.cmdStatus i
  if !s.cellExists i then s
  else if s.sys.mode ≠ .stop ∧ s.sys.mode ≠ .service then s.refuse st CellCmd.setSoc Oc.wrongMode
  else if 10000 < soc then s.refuse st CellCmd.setSoc Oc.badValue
  else (s.setCell i fun x => { x with setDue := some soc }).accept st CellCmd.setSoc Oc.done

def execSetSoc (cell : Fin 131072) (soc : BitVec 16) (s : State) : Host.Outcome State Fault Refusal :=
  s.live (setSoc cell soc.toNat)

/-- CELL_CLEAR_COUNTERS (R260). -/
def cellClearCounters (i : Nat) (s : State) : State :=
  if s.cellExists i then
    (State.clearAll [Obj.cell.updates i, Obj.cell.corrections i, Obj.cell.outliers i, Obj.cell.covResets i] s).accept
      (Obj.cell.cmdStatus i) CellCmd.clear Oc.done
  else s

def execCellClearCounters (cell : Fin 131072) (s : State) : Host.Outcome State Fault Refusal := s.live (cellClearCounters cell)

/-- The commit of RESET_COV and SET_SOC (R252, R260): events 0x0C7, and 0x0C1 with cause 3. -/
def State.estCommit (s : State) : State :=
  s.each (s.est.cells.filter fun x => x.2.covDue || x.2.setDue.isSome) fun x u =>
    let i := x.1
    let u := match x.2.setDue with
      | some v =>
        let old := socCounts x.2.zr
        let z : Int := ((v * 2 ^ 30 + 5000) / 10000 : Nat)
        ((u.setCell i fun y => { y with z := z, zr := z, setDue := none, saturated := false }).flag
          (Obj.cell.cellFlags i) 4).raise 0x0C7 i old v 0
      | none => u
    let u := if x.2.covDue then
        match u.chemOf (i / 512) with
        | some c => (u.setCell i fun y => { y with p := c.p0, covDue := false }).covReset i 3
        | none => u.setCell i fun y => { y with covDue := false }
      else u
    (u.showCell i).showString (i / 512)

/-! ### State of power (R253, R254) -/

/-- A cell's charge and discharge limits in A for a horizon of τ s. -/
def sopCell (c : ChemRec) (t : ThreshRec) (x : CellRec) (tau : Nat) : Word × Word :=
  let z := B32.ofRatio (clampInt 0 (2 ^ 30) x.z) (2 ^ 30)
  let zf := B32.ofRatio x.z (2 ^ 30)
  let r := rcPar c x.sRs x.sCt zf x.temp
  let (ocv, d) := ocvAt c zf x.temp
  let ta := B32.ofInt tau
  let ea := B32.expNeg (B32.div ta (B32.mul r.ra r.ca))
  let eb := B32.expNeg (B32.div ta (B32.mul r.rb r.cb))
  let as_ := B32.mul (B32.ofInt 3600) (B32.ofRatio x.cap 1000)
  let v0 := B32.add (B32.add ocv (B32.mul (B32.ofRatio x.va 1000000000) ea)) (B32.mul (B32.ofRatio x.vb 1000000000) eb)
  let g := B32.add (B32.add (B32.add r.rs (B32.mul r.ra (B32.sub B32.one ea))) (B32.mul r.rb (B32.sub B32.one eb)))
    (B32.div (B32.mul d ta) as_)
  let chg := B32.min32 (B32.div (B32.sub (B32.ofRatio t.vWarnHi 10000) v0) g)
    (B32.div (B32.mul (B32.sub B32.one z) as_) ta)
  let dis := B32.min32 (B32.div (B32.sub v0 (B32.ofRatio t.vWarnLo 10000)) g) (B32.div (B32.mul z as_) ta)
  (B32.max32 chg 0, B32.max32 dis 0)

/-- The string's limit of one side: the least cell limit in mA with its cell, bounded by the protection limit. -/
def sopLimit (l : List (Nat × Int)) (bound : Nat) : Nat × Nat :=
  match extreme (fun a b : Nat × Int => decide (a.2 < b.2)) l with
  | some (k, v) => if v ≤ bound then (v.toNat, k) else (bound, 0xFFFE)
  | none => (bound, 0xFFFE)

/-- SOP_EVALUATE (R253, R254). -/
def sopEvaluate (n : Nat) (s : State) : State :=
  match s.chemOf n, s.threshOf n with
  | some c, some t =>
    let idx := (List.range (s.cellsOf n)).map fun k => n * 512 + k
    let bad := idx.filter fun i => [0, 3, 4].contains (s.cell i).state
    let a := Obj.str.estStatus n
    let oldest := idx.foldl (fun m i => min m (s.cell i).estSample) 0xFFFFFFFF
    let s := s.wr (Obj.str.sopSample n) (w32 (if idx = [] then 0 else oldest))
    if bad ≠ [] then
      let s := State.wrList (Obj.str.chg2 n) [0, 0, 0, 0, 0, 0, 0xFFFFFFFF] s
      if s.bit a 6 then s else (s.flag a 6).raise 0x0C8 n (if s.bit a 4 then 2 else 1) bad.length 0
    else
      let s := s.wrBit a 6 false
      let lim (tau : Nat) : (Nat × Nat) × (Nat × Nat) :=
        let l := idx.map fun i => (i % 512, sopCell c t (s.cell i) tau)
        (sopLimit (l.map fun x => (x.1, B32.floorMul x.2.1 1000)) t.iChgMax,
         sopLimit (l.map fun x => (x.1, B32.floorMul x.2.2 1000)) t.iDisMax)
      let l2 := lim 2
      let l10 := lim 10
      let l60 := lim 60
      State.wrList (Obj.str.chg2 n) [w32 l2.1.1, w32 l10.1.1, w32 l60.1.1, w32 l2.2.1, w32 l10.2.1, w32 l60.2.1,
        w32 (l10.1.2 * 65536 + l10.2.2)] s
  | _, _ => s

def execSopEvaluate (string : Fin 256) (s : State) : Host.Outcome State Fault Refusal := s.live (sopEvaluate string)

/-- Replaces a string's records with the active module's copies (R255): event 0x0C9, REFRESHED where they differ. -/
def State.refreshCells (n : Nat) (l : List (Nat × CellRec)) (s : State) : State :=
  let s := s.count (Obj.str.pairRefreshes n) 1
  (s.each (l.filter fun x => x.1 / 512 == n) fun x u =>
    let u := if u.cell x.1 = x.2 then u else u.flag (Obj.cell.cellFlags x.1) 5
    (u.setCell x.1 fun _ => x.2).showCell x.1).showString n

end Sys2Proof.Machine
end

