-- ==== Sys2Proof/Machine/Learn.lean ====
section
/-!
DEFINITION. Impedance capture and capacity learning: load steps, records, scale factors, anchors and candidates
(R266 to R288).
-/

namespace Sys2Proof.Machine

def State.modLearn (f : LearnUnit → LearnUnit) (s : State) : State := { s with learn := f s.learn }
def State.cellLearn (s : State) (i : Nat) : CellLearn := lookupD .initial s.learn.cells i
def State.setCellLearn (i : Nat) (f : CellLearn → CellLearn) (s : State) : State :=
  s.modLearn fun u => { u with cells := upsert i (f (lookupD .initial u.cells i)) u.cells }
def State.strLearn (s : State) (n : Nat) : StrLearn := lookupD .initial s.learn.strs n
def State.setStrLearn (n : Nat) (f : StrLearn → StrLearn) (s : State) : State :=
  s.modLearn fun u => { u with strs := upsert n (f (lookupD .initial u.strs n)) u.strs }

/-- RATED_CAP in mAh, which is C in mA. -/
def State.rated (s : State) (n : Nat) : Nat := match s.stringRec n with | some r => r.ratedCap | none => 0

/-- The TH1 of a string. -/
def State.th1 (s : State) (n : Nat) : Option NodeRec := (s.nodesOf n).find? fun r => r.kind == 1

/-- I_A + I_B of a capture sample, twice its current in mA. -/
def State.cap2I (s : State) (n no : Nat) : Option Int :=
  match s.th1 n with
  | some r => (s.capAt n r.p true no).map fun l => l.getD 0 0 + l.getD 1 0
  | none => none

/-- Sample number arithmetic modulo 2^32. -/
def noAdd (no : Nat) (d : Int) : Nat := (((no : Int) + d) % 4294967296).toNat

/-- IMP_CFG.STEADY and STEP_MIN in mA. -/
def State.steadyMa (s : State) (n : Nat) : Nat := s.bits Obj.imp.impCfg 23 16 * s.rated n / 100
def State.stepMinMa (s : State) (n : Nat) : Nat := s.bits Obj.imp.impCfg 31 24 * s.rated n / 100

/-- Consecutive capture currents, each twice its value; none where one is missing. -/
def State.cap2Is (s : State) (n no count : Nat) : Option (List Int) :=
  (List.range count).foldr (fun (k : Nat) acc => match s.cap2I n (noAdd no k), acc with
    | some v, some l => some (v :: l)
    | _, _ => none) (some [])

/-- What the examination of one sample finds (R266). -/
inductive StepFound where
  | none
  | wait
  | step (ma : Int)

/-- Examines sample s0. Currents are scaled by 20: 10 × (I_A + I_B), and the sum of ten for I_pre. -/
def State.examineOne (s : State) (n s0 : Nat) : StepFound :=
  match s.cap2Is n (noAdd s0 (-10)) 10, s.cap2I n s0 with
  | some pre, some i0 =>
    let m := pre.foldl (· + ·) 0
    let steady := 20 * (s.steadyMa n : Int)
    if pre.all (fun v => decide ((10 * v - m).natAbs ≤ steady)) ∧ steady < (10 * i0 - m).natAbs ∧
        s.bits (Obj.node.nodeStatus (nodeInst n (match s.th1 n with | some r => r.p | none => 0))) 10 8 = 2 then
      let found := (List.range 6).findSome? fun (k : Nat) => match s.cap2I n (noAdd s0 k) with
        | some v => if 20 * s.stepMinMa n ≤ (10 * v - m).natAbs then some ((10 * v - m) / 20) else none
        | none => none
      match found with
      | some ma => .step ma
      | none => if (s.cap2I n (noAdd s0 5)).isSome then .none else .wait
    else .none
  | none, some _ => .none
  | _, none => .wait

/-- The newest confirmed capture sample of the TH1. -/
def State.capNewest (s : State) (n : Nat) : Option Nat :=
  match s.th1 n with
  | none => none
  | some r => (s.strX n).frames.foldl (fun m c =>
      if c.p = r.p ∧ c.conf = .confirmed ∧ byteAt c.payload 0 ≠ 0 then
        let e := noAdd c.first (byteAt c.payload 0 - 1 : Nat)
        match m with
        | some k => if 0 ≤ signedOf 32 (noAdd e (-(k : Int))) then some e else some k
        | none => some e
      else m) none

/-- LOAD_STEP (R266, R267): examines confirmed samples once, in order, and opens a record at a step while LEARN is 1. A
sample that will not come, because later ones are confirmed, is passed over. -/
def examine (n : Nat) : Nat → State → State
  | 0, s => s
  | f + 1, s =>
    match s.capNewest n with
    | none => s
    | some newest =>
      let k := (s.strLearn n).next.getD (noAdd newest (-15))
      let behind := signedOf 32 (noAdd newest (-(k : Int)))
      if behind < 0 then s
      else
        let on (t : State) : State := examine n f (t.setStrLearn n fun x => { x with next := some (noAdd k 1) })
        match s.examineOne n k with
        | .none => on s
        | .wait => if 5 < behind then on s else s
        | .step ma =>
          if !s.bit Obj.imp.impCfg2 0 then on s
          else
            (s.openRecord n k ma).setStrLearn n fun x =>
              { x with next := some (if (s.strX n).record.isSome then noAdd k 1 else noAdd k 190) }

/-! ### Measuring (R268 to R271) -/

/-- The end sample e of a step (R268): the least k of s0 + k, with the currents scaled by 20. -/
def State.stepEnd (s : State) (n s0 : Nat) (m : Int) : Option Nat :=
  (List.range 6).find? fun (k : Nat) =>
    match s.cap2I n (noAdd s0 k), s.cap2I n (noAdd s0 (k + 100)) with
    | some a, some b => decide (9 * (10 * b - m).natAbs ≤ 10 * (10 * a - m).natAbs)
    | _, _ => false

/-- The CRC-32C over a record's confirmed samples, in sample and node order (R280). -/
def State.recordCrc (s : State) (n : Nat) (r : CapRecord) : Nat :=
  crc32c ((List.range 200).flatMap fun (k : Nat) => (s.recordNodes n).flatMap fun q =>
    ((s.capAt n q.p (q.kind == 1) (noAdd r.first k)).getD []).flatMap fun v =>
      leBytes (bitsOfInt 32 v) (if q.kind = 1 then 4 else 2))

/-- The rounded quotient of integers, halves up. -/
def divNear (a b : Int) : Int := if b = 0 then 0 else if 0 < b then (2 * a + b) / (2 * b) else (-2 * a - b) / (-2 * b)

/-- The measurement of one cell in a record: voltages by sample number, table values at its z and temperature. -/
def State.measureCell (s : State) (n s0 e : Nat) (di1 di100 : Int) (r : NodeRec) (i : Nat) : Contrib :=
  let ch := i % 512 - r.firstCell
  let v (no : Nat) : Int := ((s.capAt n r.p false no).getD []).getD ch 0
  let pre := (List.range 10).foldl (fun a (k : Nat) => a + v (noAdd s0 ((k : Int) - 10))) 0
  let dv1 := 10 * v (noAdd e 1) - pre
  let dv100 := 10 * v (noAdd e 100) - pre
  let x := s.cell i
  let amp (d : Int) : Word := B32.ofRatio d 20000
  let vol (d : Int) : Word := B32.ofRatio d 100000
  let z := B32.ofRatio x.z (2 ^ 30)
  let (rs, gct) := match s.chemOf n with
    | some c =>
      let q := rcPar c 4096 4096 z x.temp
      let t : Word := B32.ofRatio 1 10
      let g (a b : Word) : Word := B32.mul a (B32.sub B32.one (B32.expNeg (B32.div t (B32.mul a b))))
      (q.rs, B32.add (g q.ra q.ca) (g q.rb q.cb))
    | none => (0, 0)
  let rct := B32.sub (B32.div (vol dv100) (amp di100)) (B32.div (vol dv1) (amp di1))
  { cell := i, xRs := B32.mul rs (amp di1), yRs := vol dv1, xCt := B32.mul gct (amp di100), yCt := B32.mul rct (amp di100)
    rs := (clampInt 0 4294967295 (divNear (dv1 * 200000) di1)).toNat
    rct := clampInt (-2147483648) 2147483647 (divNear ((dv100 * di1 - dv1 * di100) * 20000000) (di100 * di1)) }

/-- Why a cell is left out of a record, 0 where it is not (R270). -/
def State.leftOut (s : State) (n s0 e : Nat) (r : NodeRec) (i : Nat) : Nat :=
  let has (no : Nat) : Bool := (s.capAt n r.p false no).isSome
  if !((List.range 10).all (fun (k : Nat) => has (noAdd s0 ((k : Int) - 10))) && has (noAdd e 1) && has (noAdd e 100)) then 6
  else if (s.cell i).temp = 0x7FFF then 7
  else if !(s.nodeX (nodeInst n r.p)).timeLocked then 8
  else 0

/-- The outcome of a closed record (R268, R269). -/
def State.measureRecord (n : Nat) (r : CapRecord) (s : State) : CapOutcome :=
  let s0 := r.stepNo
  let crc := s.recordCrc n r
  let bad (code : Nat) (d : Int) : CapOutcome := ⟨n, s0, crc, code, d, [], []⟩
  match s.cap2Is n (noAdd s0 (-10)) 10 with
  | none => bad 5 0
  | some pre =>
    let m := pre.foldl (· + ·) 0
    match s.stepEnd n s0 m with
    | none => bad 1 0
    | some k =>
      let e := noAdd s0 k
      let j (no : Nat) : Int := match s.cap2I n no with | some v => 10 * v | none => m
      let di1 := j (noAdd e 1) - m
      let di100 := j (noAdd e 100) - m
      let ma := di100 / 20
      let band : Int := 20 * s.steadyMa n + (di100.natAbs : Int) / 20
      let dis := (List.range 200).any fun (q : Nat) => match s.th1 n with
        | some t => match s.capAt n t.p true (noAdd r.first q) with
          | some l => disagree (s.rated n) ⟨0, l.getD 0 0, l.getD 1 0⟩
          | none => false
        | none => false
      let closed := match s.th1 n with
        | some t => s.bits (Obj.node.nodeStatus (nodeInst n t.p)) 10 8 == 2
        | none => false
      if (List.range 100).any fun (q : Nat) => decide (band < (j (noAdd e (q + 1 : Nat)) - j (noAdd e 100)).natAbs) then bad 2 ma
      else if dis then bad 3 ma
      else if !closed then bad 4 ma
      else
        let cells := ((s.nodesOf n).filter fun q => q.kind == 0).flatMap fun q => q.cellIdx.map fun i => (q, i)
        let out := cells.map fun c => (c, s.leftOut n s0 e c.1 c.2)
        ⟨n, s0, crc, 0, ma, (out.filter fun c => c.2 == 0).map (fun c => s.measureCell n s0 e di1 di100 c.1.1 c.1.2),
         (out.filter fun c => c.2 != 0).map fun c => (c.1.2, c.2)⟩

/-- The sums of a batch with one more capture (R271). -/
def Batch.add (b : Batch) (x y : Word) (now : Nat) : Batch :=
  { sxx := B32.add b.sxx (B32.mul x x), sxy := B32.add b.sxy (B32.mul x y), syy := B32.add b.syy (B32.mul y y)
    count := satAdd 65535 b.count 1, firstAt := if b.count = 0 then now else b.firstAt }

/-! ### What a learned value shows (R279, R285, R286) -/

/-- SOH in 0.01 %. -/
def sohOf (cap rated : Nat) : Nat := if rated = 0 then 0 else min 65535 (cap * 10000 / rated)

/-- A cell's ageing warnings after a learned value changed (R279): each re-arms on its return by 2 % or 0.1. -/
def State.ageWarn (i : Nat) (s : State) : State :=
  let n := i / 512
  let x := s.cell i
  let soh := sohOf x.cap (s.rated n)
  let a := Obj.cell.learnFlags i
  let lim := s.bits Obj.imp.ageCfg 31 24 * 100
  let rlim := s.bits Obj.imp.ageCfg 23 16 * 4096
  let s := s.wrBits (Obj.cell.soh i) 15 0 soh
  let s := if soh < lim ∧ s.bit a 4 = false then
      ((s.flag a 4).flag (Obj.impS.impFlags n) 3).raise 0x0D9 i soh x.cap 0
    else if lim + 200 ≤ soh then s.wrBit a 4 false else s
  if rlim < x.sRs * 10 ∧ s.bit a 5 = false then
    ((s.flag a 5).flag (Obj.impS.impFlags n) 3).raise 0x0DA i x.sRs (s.rd (Obj.cell.rsEff i)).toNat 0
  else if x.sRs * 10 + 4096 ≤ rlim then s.wrBit a 5 false else s

/-- SOH_MIN, RS_MAX, CAP_MEAN and AGE_WARN_CELLS of a string (R279, R285). -/
def State.showAgeing (n : Nat) (s : State) : State :=
  let cs := (List.range (s.cellsOf n)).map fun k => (k, s.cell (n * 512 + k))
  let rated := s.rated n
  let sohs := cs.map fun c => (sohOf c.2.cap rated, c.1)
  let rss := cs.map fun c => (c.2.sRs, c.1)
  let lo := (extreme (fun a b : Nat × Nat => decide (a.1 < b.1)) sohs).getD (0, 0)
  let hi := (extreme (fun a b : Nat × Nat => decide (b.1 < a.1)) rss).getD (0, 0)
  let mean := if cs = [] then 0 else (cs.foldl (fun t c => t + c.2.cap) 0) / cs.length
  let warn (bitNo : Nat) : Nat := (cs.filter fun c => s.bit (Obj.cell.learnFlags (n * 512 + c.1)) bitNo).length
  let s := (s.wr (Obj.impS.sohMin n) (w32 (lo.1 * 65536 + lo.2))).wr (Obj.impS.rsMax n) (w32 (hi.1 * 65536 + hi.2))
  (s.wr (Obj.impS.capMean n) (w32 mean)).wr (Obj.impS.ageWarnCells n) (w32 (warn 4 * 65536 + warn 5))

/-- Commits a learned value of a cell (R273): the learned-value store, the cell's objects, warnings and the string's. -/
def State.learnedCommit (i : Nat) (f : CellRec → CellRec) (s : State) : State :=
  let s := s.setCell i f
  let s := s.wrBits Obj.imp.learnStore 15 0 ((s.bits Obj.imp.learnStore 15 0 + 1) % 65536)
  ((s.showCell i).ageWarn i).showAgeing (i / 512)

/-- BATCH and BATCH_INFO of a cell (R286). -/
def State.showBatch (i : Nat) (s : State) : State :=
  let x := s.cellLearn i
  let root (b : Batch) (k : Nat) : Nat := (clampInt 0 65535 (B32.nearMul (B32.sqrt b.sxx) k)).toNat
  (s.wr (Obj.cell.batch i) (w32 (x.ct.count * 65536 + x.rs.count))).wr (Obj.cell.batchInfo i)
    (w32 (root x.ct 100000 * 65536 + root x.rs 10000))

/-- Empties a batch of a cell. -/
def State.emptyBatch (i : Nat) (ct : Bool) (s : State) : State :=
  (s.setCellLearn i fun x => if ct then { x with ct := .empty } else { x with rs := .empty }).showBatch i

/-- A rejected batch (R272): emptied, counted, flagged and reported with r × 4,096. -/
def State.rejectBatch (i : Nat) (ct : Bool) (cause : Nat) (r : Word) (s : State) : State :=
  let s := ((s.emptyBatch i ct).count Obj.imp.batchesRejected 1).flag (Obj.cell.learnFlags i) 2
  s.raise 0x0D3 i ct.toNat cause (clampInt 0 4294967295 (B32.nearMul r 4096)).toNat

/-- BATCH_CLOSE (R272): a batch with enough information and captures is accepted or rejected. -/
def State.closeBatch (i : Nat) (ct : Bool) (s : State) : State :=
  let x := s.cellLearn i
  let b := if ct then x.ct else x.rs
  let info := if ct then B32.ofRatio ((s.bits Obj.imp.impCfg 7 0 ^ 2 : Nat) : Int) 100000000
    else B32.ofRatio ((s.bits Obj.imp.impCfg 15 8 ^ 2 : Nat) : Int) 1000000
  if B32.le info b.sxx && decide (s.bits Obj.imp.impCfg2 23 16 ≤ b.count) then
    let r := B32.div b.sxy b.sxx
    let u := B32.div (B32.sub b.syy (B32.div (B32.mul b.sxy b.sxy) b.sxx)) b.syy
    let quarter : Word := 0x3E800000
    let four : Word := 0x40800000
    if B32.lt r quarter || B32.lt four r then s.rejectBatch i ct 1 r
    else if B32.lt quarter u then s.rejectBatch i ct 2 r
    else
      let c := s.cell i
      let old := if ct then c.sCt else c.sRs
      let sf := B32.ofRatio old 4096
      let ms := B32.ofRatio (s.bits Obj.imp.impCfg2 31 24) 100
      let lo := B32.mul sf (B32.sub B32.one ms)
      let hi := B32.mul sf (B32.add B32.one ms)
      let v := B32.min32 (B32.max32 (B32.min32 (B32.max32 r lo) hi) quarter) four
      let new := (B32.nearMul v 4096).toNat
      let s := (s.emptyBatch i ct).count Obj.imp.scaleUpdates 1
      let s := s.raise 0x0D2 i ct.toNat old new
      s.learnedCommit i fun y => if ct then { y with sCt := new } else { y with sRs := new }
  else s

/-- CAPTURE_MEASURE (R268 to R272): uses or rejects a record's outcome. -/
def State.useOutcome (o : CapOutcome) (s : State) : State :=
  let n := o.string
  let s := (s.wr (Obj.impS.captureLast n) (w32 o.s0)).wr (Obj.impS.captureStep n) (w32 (bitsOfInt 32 o.di100))
  let s := s.wr (Obj.impS.captureResult n) (w32 (o.cells.length * 65536 + o.code))
  if o.code ≠ 0 then
    ((s.count Obj.imp.capturesRejected 1).flag (Obj.impS.impFlags n) 1).raise 0x0D1 n o.s0 o.code (bitsOfInt 32 o.di100)
  else
    let s := s.each o.leftOut fun c u =>
      (u.wrBits (Obj.cell.learnFlags c.1) 15 8 c.2).flag (Obj.cell.learnFlags c.1) 0
    let s := s.each o.cells fun c u =>
      let u := u.setCellLearn c.cell fun x => { x with rs := x.rs.add c.xRs c.yRs u.up, ct := x.ct.add c.xCt c.yCt u.up }
      let u := (u.wr (Obj.cell.rsLast c.cell) (w32 c.rs)).wr (Obj.cell.rctLast c.cell) (w32 (bitsOfInt 32 c.rct))
      let u := (u.wr (Obj.cell.captureSample c.cell) (w32 o.s0)).showBatch c.cell
      (u.closeBatch c.cell false).closeBatch c.cell true
    let s := (s.count Obj.imp.capturesUsed 1).flag (Obj.impS.impFlags n) 0
    s.raise 0x0D0 n o.s0 (bitsOfInt 32 o.di100) o.cells.length

/-- The entries of a closed record for the Archive (R570, R577): per sample and node, Module Time, position, channels. -/
def State.captureEntries (s : State) (n : Nat) (r : CapRecord) : List ArcEntry :=
  (List.range 200).flatMap fun (k : Nat) => (s.recordNodes n).map fun q =>
    let no := noAdd r.first k
    let ms := s.now / 1000000
    let t := ((ms : Int) + signedOf 32 (no + 2 ^ 32 - ms % 2 ^ 32)).toNat * 1000000
    let ch := ((s.capAt n q.p (q.kind == 1) no).getD []).flatMap fun v => leBytes (bitsOfInt 32 v) (if q.kind = 1 then 4 else 2)
    { time := t, source := n, block := 0, data := leBytes t 8 ++ leBytes q.p 2 ++ ch }

/-- A standby's own records against the active module's (R280): an equal one is used, another awaits the active module's contributions,
counted in PAIR_PATCHED. -/
def State.settleCaptures (s : State) : State :=
  s.each s.red.captures fun c s =>
    match s.learn.waiting.find? fun o => o.string == c.1 && o.s0 == c.2.1 with
    | none => s
    | some o =>
      let s := { s with red := { s.red with captures := s.red.captures.filter (· != c) } }
      if o.crc = c.2.2.1 ∧ o.code = c.2.2.2 then
        (s.modLearn fun u => { u with waiting := u.waiting.filter fun x => !(x.string == o.string && x.s0 == o.s0) }).useOutcome o
      else (s.count (Obj.impS.pairPatched o.string) 1).flag (Obj.impS.impFlags o.string) 4

/-- A record that closes complete, or is abandoned with reason 0x05 (R210, R269). A lockstep standby waits for the
active module's outcome (R280). -/
def State.recordEnd (n : Nat) (r : CapRecord) (s : State) : State :=
  let o := s.measureRecord n r
  let s := { s with arc := { s.arc with captures := s.arc.captures ++ s.captureEntries n r } }.closeRecord n r
  if s.lockstepStandby then (s.modLearn fun u => { u with waiting := u.waiting ++ [o] }).settleCaptures
  else { s with red := { s.red with capsDone := s.red.capsDone ++ [(n, o.s0, o.crc, o.code)] } }.useOutcome o

/-- The report of an abandoned record (R269, reason 0x05). -/
def State.recordAbandoned (n cause : Nat) (s : State) : State :=
  match (s.strX n).record with
  | none => s
  | some r => (s.abandonRecord n cause).useOutcome ⟨n, r.stepNo, 0, 5, 0, [], []⟩

/-- CAPDATA_RECEIVE (R211): the copy passes the Weir; confirmed samples are examined, and a complete record closes. -/
def capdataReceive (f : NodeFrame) : State → State := State.nodeFrame f fun n p s =>
  if (s.ringX n).eff = Rs.miswired ∨ (s.nodeRec n p).isNone then s
  else
    let s := (s.capCopy n p f.port.val f).pruneFrames n
    let s := examine n 64 s
    match (s.strX n).record with
    | some r => if s.recordComplete n r then s.recordEnd n r else s
    | none => s

def execCapdataReceive (f : NodeFrame) (s : State) : Host.Outcome State Fault Refusal := s.live (capdataReceive f)

/-- CAPTURE_DEADLINE (R210, cause 1). -/
def captureDeadline (n : Nat) (s : State) : State :=
  match (s.strX n).record with
  | some r => if s.recordComplete n r then s else s.recordAbandoned n 1
  | none => s

def execCaptureDeadline (string : Fin 256) (s : State) : Host.Outcome State Fault Refusal := s.live (captureDeadline string)

/-- BATCH_AGE_EXPIRY (R272): a batch not closed within BATCH_DAYS is rejected with cause 3. -/
def batchAgeExpiry (i : Nat) (ct : Bool) (s : State) : State :=
  let b := if ct then (s.cellLearn i).ct else (s.cellLearn i).rs
  if b.count = 0 then s else s.rejectBatch i ct 3 (B32.div b.sxy b.sxx)

def execBatchAgeExpiry (cell : Fin 131072) (ct : Bool) (s : State) : Host.Outcome State Fault Refusal :=
  s.live (batchAgeExpiry cell ct)

/-! ### Capacity (R274 to R278) -/

/-- z in binary32 as 0.01 % counts. -/
def zCounts (z : Word) : Nat := (clampInt 0 10000 (B32.nearMul z 10000)).toNat

/-- The string's count of anchors in CAP_STR. -/
def State.showAnchors (n : Nat) (s : State) : State :=
  let k := (s.learn.cells.filter fun x => x.1 / 512 == n && x.2.anchor.isSome).length
  s.wrBits (Obj.impS.capStr n) 31 16 k

/-- Drops the anchors of cells with one disqualification code (R276), aggregated in one event. -/
def State.disqualify (n code : Nat) (strScope : Bool) (cells : List Nat) (s : State) : State :=
  let hit := cells.filter fun i => (s.cellLearn i).anchor.isSome
  if hit = [] then s
  else
    let s := s.each hit fun i u =>
      ((u.setCellLearn i fun x => { x with anchor := none }).wr (Obj.cell.anchor i) 0xFFFF0000).wrBits (Obj.cell.capLast i) 31 24
        code
    let s := (s.count Obj.imp.capDisqualified hit.length).flag (Obj.impS.impFlags n) 2
    let s := if strScope then s.wrBits (Obj.impS.capStr n) 7 0 code else s
    (s.raise 0x0D5 n code hit.length 0).showAnchors n

/-- Cells of a string as global indices. -/
def State.cellIdxOf (s : State) (n : Nat) : List Nat := (List.range (s.cellsOf n)).map fun k => n * 512 + k

/-- Takes a rested point as a cell's anchor (R275), with event 0x0D4 while CAP_DISQUALIFIED_SEEN is clear. -/
def State.takeAnchor (i : Nat) (z : Word) (instant : Nat) (s : State) : State :=
  let n := i / 512
  let sum := (s.strLearn n).sum
  let s := s.setCellLearn i fun x => { x with anchor := some ⟨z, sum, instant⟩ }
  let s := s.wr (Obj.cell.anchor i) (w32 (zCounts z * 65536))
  let s := if s.bit (Obj.impS.impFlags n) 2 then s else s.raise 0x0D4 i (zCounts z) (bitsOfInt 16 (s.cell i).temp) 0
  s.showAnchors n

/-- An accepted capacity (R278): event 0x0D6, the run reset. -/
def State.acceptCap (i code cc new : Nat) (s : State) : State :=
  let old := (s.cell i).cap
  let s := (s.setCellLearn i fun x => { x with run := 0 }).count Obj.imp.capAccepted 1
  let s := (s.wrBits (Obj.cell.capLast i) 31 24 code).flag (Obj.cell.learnFlags i) 1
  let s := s.wrBits (Obj.cell.soh i) 31 16 (satAdd 65535 (s.bits (Obj.cell.soh i) 31 16) 1)
  (s.learnedCommit i fun x => { x with cap := new }).raise 0x0D6 i old new cc

/-- A rejected candidate: event 0x0D7. -/
def State.rejectCap (i code cc : Nat) (s : State) : State :=
  ((s.wrBits (Obj.cell.capLast i) 31 24 code).count Obj.imp.capRejected 1).raise 0x0D7 i code cc (s.cell i).cap

/-- CAP_CANDIDATE (R278): the decision on a candidate in mAh. -/
def State.decideCap (i : Nat) (ccF : Word) (s : State) : State :=
  let n := i / 512
  let rated := s.rated n
  let cu := (s.cell i).cap
  let cc := (clampInt 0 4294967295 (B32.nearMul ccF 1)).toNat
  let s := s.wr (Obj.cell.capCandidate i) (w32 cc)
  let band := s.bits Obj.imp.capCfg2 15 8
  let g := B32.ofRatio (s.bits Obj.imp.capCfg2 7 4) 16
  let lo := B32.ofRatio ((cu * (100 - band) : Nat) : Int) 100
  let hi := B32.ofRatio ((cu * (100 + band) : Nat) : Int) 100
  let gained (c : Word) : Nat :=
    (B32.nearMul (B32.add (B32.ofInt cu) (B32.mul g (B32.sub c (B32.ofInt cu)))) 1).toNat
  if B32.lt ccF (B32.ofRatio rated 2) || B32.lt (B32.ofRatio (6 * rated : Nat) 5) ccF then s.rejectCap i 9 cc
  else if B32.le lo ccF && B32.le ccF hi then s.acceptCap i 0 cc (gained ccF)
  else
    let high := B32.lt hi ccF
    let x := s.cellLearn i
    let run := if x.run ≠ 0 ∧ x.side = high then x.run + 1 else 1
    let s := s.setCellLearn i fun y => { y with side := high, run := run }
    if run < 3 then s.rejectCap i 8 cc
    else
      let new := gained (if high then hi else lo)
      let s := (s.flag (Obj.cell.learnFlags i) 3).raise 0x0D8 i high.toNat cc new
      s.acceptCap i 0x0A cc new

/-- A rested OCV point of a cell (R275, R277). -/
def State.restedPoint (i : Nat) (z2 : Word) (instant : Nat) (s : State) : State :=
  match (s.cellLearn i).anchor with
  | none => s.takeAnchor i z2 instant
  | some a =>
    let dz := B32.sub z2 a.z
    let swing := (clampInt 0 65535 (B32.nearMul (B32.abs dz) 10000)).toNat
    let s := s.wrBits (Obj.cell.capLast i) 15 0 swing
    if B32.lt (B32.abs dz) (B32.ofRatio (s.bits Obj.imp.capCfg 31 24) 100) then s.wrBits (Obj.cell.capLast i) 31 24 1
    else
      let q := ((s.strLearn (i / 512)).sum - a.sum) / 4000000
      let s := if q = 0 ∨ (decide (0 < q) == B32.neg dz) = true then s.rejectCap i 7 0
        else s.decideCap i (B32.div (B32.ofRatio q 3600000) dz)
      s.takeAnchor i z2 instant

/-- RESTED_OCV_POINT (R274): the conditions at a committed update. -/
def State.restedCell (n : Nat) (c : ChemRec) (q : Snap) (i : Nat) (s : State) : State :=
  let x := s.cell i
  let resting := (s.strEst n).restSince.isSome
  let l := s.cellLearn i
  if !resting then (if l.rested then s.setCellLearn i fun y => { y with rested := false } else s)
  else if l.rested then s
  else
    let long := decide (s.bits Obj.imp.capCfg 23 16 * 60 ≤ (s.rd (Obj.str.restTime n)).toNat)
    let locked := match s.nodeOfCell n (i % 512) with
      | some r => (s.nodeX (nodeInst n r.p)).timeLocked
      | none => false
    let fresh := (s.rd (Obj.cell.measSample i)).toNat == q.no
    if long && decide ((x.va + x.vb).natAbs ≤ 1000000) && locked && fresh && x.temp != 0x7FFF then
      match invertOcv c (B32.ofRatio (s.bits (Obj.cell.meas i) 15 0) 10000) x.temp
          (B32.ofRatio (s.bits Obj.imp.ageCfg 7 0) 100) with
      | some z => (s.setCellLearn i fun y => { y with rested := true }).restedPoint i z q.instant
      | none => s
    else s

/-- Charge, current and contactor conditions of a closed snapshot (R275, R276). -/
def State.learnCurrent (n : Nat) (q : Snap) (s : State) : State :=
  match (q.meas.find? fun m => m.2.kind == 1) with
  | none => s
  | some m =>
    let i2 := m.2.iA + m.2.iB
    let x := s.strLearn n
    let (add, gap) := match x.last with
      | some (t, v) => ((v + i2) * ((q.instant : Int) - t), q.instant - t)
      | none => (0, 0)
    let cont := m.2.aux % 8
    let s := s.setStrLearn n fun y => { y with sum := y.sum + add, last := some (q.instant, i2), contactor := cont }
    let cells := s.cellIdxOf n
    let s := if s.bits Obj.imp.capCfg2 23 16 * 60000000000 < gap then s.disqualify n 4 true cells else s
    let s := if s.bits Obj.imp.capCfg2 31 24 * s.rated n * 2 < i2.natAbs * 100 then s.disqualify n 3 true cells else s
    if cont ≠ x.contactor ∧ (cont = 0 ∨ cont = 3 ∨ cont = 4) then s.disqualify n 5 true cells else s

/-- Cell-scope disqualifications at a committed update (R276), then rested points (R274). -/
def State.learnUpdate (n : Nat) (q : Snap) (s : State) : State :=
  match s.chemOf n with
  | none => s
  | some c =>
    let cells := s.cellIdxOf n
    let deg (hi lo : Nat) : Int := signedOf 8 (s.bits Obj.imp.capCfg hi lo) * 100
    let s := s.disqualify n 0x0B false (cells.filter fun i => (s.cell i).temp == 0x7FFF || decide (3 ≤ (s.cell i).state))
    let s := s.disqualify n 2 false (cells.filter fun i =>
      decide ((s.cell i).temp < deg 15 8) || decide (deg 7 0 < (s.cell i).temp))
    let s := s.each cells (State.restedCell n c q)
    let s := s.wrBit (Obj.impS.impStatus n) 4
      (decide (s.bits Obj.imp.capCfg 23 16 * 60 ≤ (s.rd (Obj.str.restTime n)).toNat) && (s.strEst n).restSince.isSome)
    let age (a : Anchor) : Nat := min 65535 ((q.instant - a.at_) / 60000000000)
    s.each (s.learn.cells.filter fun x => x.1 / 512 == n) fun x u => match x.2.anchor with
      | some a => u.wrBits (Obj.cell.anchor x.1) 15 0 (age a)
      | none => u

/-- IMP_STATUS of a string at a boundary (R285). -/
def State.showDetect (n : Nat) (s : State) : State :=
  let d := if !s.bit (Obj.str.strStatus n) 6 then 0 else if (s.strX n).record.isSome then 2 else 1
  (s.wrBits (Obj.impS.impStatus n) 3 0 d).wrBit (Obj.impS.impStatus n) 5 (s.bit Obj.imp.impCfg2 0)

/-- ANCHOR_AGE_EXPIRY (R276, 0x06). -/
def execAnchorAgeExpiry (cell : Fin 131072) (s : State) : Host.Outcome State Fault Refusal :=
  s.live (State.disqualify (cell.val / 512) 6 false [cell.val])

/-- INTERRUPTION_EXPIRY (R276, 0x04). -/
def execInterruptionExpiry (string : Fin 256) (s : State) : Host.Outcome State Fault Refusal :=
  s.live fun s => s.disqualify string 4 true (s.cellIdxOf string)

/-! ### LEARN_CMD (R286) -/

abbrev LearnCmd.resetScales : Nat := 1
abbrev LearnCmd.resetCapacity : Nat := 2
abbrev LearnCmd.setCapacity : Nat := 3
abbrev LearnCmd.clearLearning : Nat := 4

/-- A LEARN_CMD that STOP and SERVICE alone accept. -/
def learnCmd (i code : Nat) (f : State → State) (s : State) : State :=
  let st := Obj.cell.learnCmdStatus i
  if !s.cellExists i then s
  else if s.sys.mode ≠ .stop ∧ s.sys.mode ≠ .service then s.refuse st code Oc.wrongMode
  else f s

/-- RESET_SCALES: both factors 1.0, batches emptied. -/
def resetScales (i : Nat) : State → State := learnCmd i LearnCmd.resetScales fun s =>
  let old := s.cell i
  let s := ((s.emptyBatch i false).emptyBatch i true).learnedCommit i fun x => { x with sRs := 4096, sCt := 4096 }
  (s.raise 0x0DB i LearnCmd.resetScales (old.sCt * 65536 + old.sRs) (4096 * 65536 + 4096)).accept
    (Obj.cell.learnCmdStatus i) LearnCmd.resetScales Oc.done

def execResetScales (cell : Fin 131072) (s : State) : Host.Outcome State Fault Refusal := s.live (resetScales cell)

/-- RESET_CAPACITY: RATED_CAP, the rejection run cleared. -/
def resetCapacity (i : Nat) : State → State := learnCmd i LearnCmd.resetCapacity fun s =>
  let old := (s.cell i).cap
  let new := s.rated (i / 512)
  let s := (s.setCellLearn i fun x => { x with run := 0 }).learnedCommit i fun x => { x with cap := new }
  (s.raise 0x0DB i LearnCmd.resetCapacity old new).accept (Obj.cell.learnCmdStatus i) LearnCmd.resetCapacity Oc.done

def execResetCapacity (cell : Fin 131072) (s : State) : Host.Outcome State Fault Refusal := s.live (resetCapacity cell)

/-- SET_CAPACITY: BAD_VALUE outside 0.5 to 1.2 × RATED_CAP. -/
def setCapacity (i cap : Nat) : State → State := learnCmd i LearnCmd.setCapacity fun s =>
  let st := Obj.cell.learnCmdStatus i
  let rated := s.rated (i / 512)
  if 2 * cap < rated ∨ 6 * rated < 5 * cap then s.refuse st LearnCmd.setCapacity Oc.badValue
  else
    let old := (s.cell i).cap
    ((s.learnedCommit i fun x => { x with cap := cap }).raise 0x0DB i LearnCmd.setCapacity old cap).accept st
      LearnCmd.setCapacity Oc.done

def execSetCapacity (cell : Fin 131072) (capacity : BitVec 24) (s : State) : Host.Outcome State Fault Refusal :=
  s.live (setCapacity cell capacity.toNat)

/-- CLEAR_LEARNING: batches emptied, the anchor dropped with 0x0E, in any mode. -/
def clearLearning (i : Nat) (s : State) : State :=
  if s.cellExists i then
    let s := (((s.emptyBatch i false).emptyBatch i true).disqualify (i / 512) 0x0E false [i])
    (s.raise 0x0DB i LearnCmd.clearLearning 0 0).accept (Obj.cell.learnCmdStatus i) LearnCmd.clearLearning Oc.done
  else s

def execClearLearning (cell : Fin 131072) (s : State) : Host.Outcome State Fault Refusal := s.live (clearLearning cell)

/-- IMP_CLEAR_COUNTERS (R284): the counters of the learning unit and of the array. -/
def impClearCounters (s : State) : State :=
  (State.clearAll [Obj.imp.capturesUsed, Obj.imp.capturesRejected, Obj.imp.scaleUpdates, Obj.imp.batchesRejected,
    Obj.imp.capAccepted, Obj.imp.capDisqualified, Obj.imp.capRejected] s).accept Obj.imp.cmdStatus 1 Oc.done

def execImpClearCounters (s : State) : Host.Outcome State Fault Refusal := s.live impClearCounters

/-- The check of the learned-value store at power-up and cold restart (R281): bad entries are reset, counted and
reported. -/
def State.checkLearned (s : State) : State :=
  let bad (i : Nat) (u : State) : Bool :=
    let rated := u.rated (i / 512)
    let (cap, r, c) := u.learned i
    decide (2 * cap < rated) || decide (6 * rated < 5 * cap) || decide (r < 0x400) || decide (0x4000 < r) ||
      decide (c < 0x400) || decide (0x4000 < c)
  let all := s.strings.flatMap s.cellIdxOf
  let hit := all.filter fun i => bad i s
  if hit = [] then s
  else
    let s := s.each hit fun i u =>
      (u.wr (Obj.cell.capacity i) (w32 (u.rated (i / 512)))).wr (Obj.cell.scale i) 0x10001000
    let s := s.wrBits Obj.imp.learnStore 31 16 (satAdd 65535 (s.bits Obj.imp.learnStore 31 16) hit.length)
    s.raise 0x0DC 0 hit.length 0 0

end Sys2Proof.Machine
end

