-- ==== Sys2Proof/Machine/Therm.lean ====
section
/-!
DEFINITION. Balancing and thermal supervision of the strings (R289 to R314).
-/

namespace Sys2Proof.Machine

def State.modTherm (f : ThermUnit → ThermUnit) (s : State) : State := { s with therm := f s.therm }
def State.cellBal (s : State) (i : Nat) : CellBal := lookupD .initial s.therm.cells i
def State.setCellBal (i : Nat) (f : CellBal → CellBal) (s : State) : State :=
  s.modTherm fun u => { u with cells := upsert i (f (lookupD .initial u.cells i)) u.cells }
def State.nodeBal (s : State) (a : Nat) : NodeBal := lookupD .initial s.therm.nodes a
def State.setNodeBal (a : Nat) (f : NodeBal → NodeBal) (s : State) : State :=
  s.modTherm fun u => { u with nodes := upsert a (f (lookupD .initial u.nodes a)) u.nodes }
def State.strBal (s : State) (n : Nat) : StrBal := lookupD .initial s.therm.bals n
def State.setStrBal (n : Nat) (f : StrBal → StrBal) (s : State) : State :=
  s.modTherm fun u => { u with bals := upsert n (f (lookupD .initial u.bals n)) u.bals }
def State.strTherm (s : State) (n : Nat) : StrTherm := lookupD .initial s.therm.strs n
def State.setStrTherm (n : Nat) (f : StrTherm → StrTherm) (s : State) : State :=
  s.modTherm fun u => { u with strs := upsert n (f (lookupD .initial u.strs n)) u.strs }

/-! ### Balancing commands -/

/-- Stages a plain command for this cycle's commit. -/
def State.stagePlain (string op : Nat) (scope : Scope) (target : Nat) (payload : List Byte) (s : State) : State :=
  let r : RingReq :=
    { id := 0, string := string, opcode := op, prio := opPrio op, scope := scope, target := target, payload := payload
      owner := .module_, ports := [], host := none }
  { s with ring := { s.ring with staged := s.ring.staged ++ [r] } }

/-- The stopping BALANCE (R293). -/
def stopPayload : List Byte := leBytes 0 2 ++ leBytes 1 1 ++ leBytes 0 5

/-- Whether a stop is staged for a string in this cycle. -/
def State.stopStaged (s : State) (n : Nat) : Bool :=
  s.ring.staged.any fun r => r.string == n && r.opcode == Op.balance && r.payload == stopPayload

/-- Stages a string's BALANCE; a stop replaces a round of the same cycle (R293). -/
def State.stageBalance (n : Nat) (payload : List Byte) (s : State) : State :=
  if s.stopStaged n then s
  else
    let s := if payload = stopPayload then
        { s with ring := { s.ring with staged := s.ring.staged.filter (fun r => !(r.string == n && r.opcode == Op.balance)) } }
      else s
    s.stagePlain n Op.balance .all 0 payload

/-- PLANNED of a string from the masks of its nodes (R309). -/
def State.showMasks (base : Nat → Nat) (n : Nat) (mask : NodeBal → Nat) (s : State) : State :=
  let bits := (s.nodesOf n).foldl (fun (acc : Nat) r =>
    if r.kind = 0 then acc + (mask (s.nodeBal (nodeInst n r.p)) % 2 ^ r.cells) * 2 ^ r.firstCell else acc) 0
  State.wrList (base n) ((List.range 16).map fun k => w32 (bits / 2 ^ (32 * k))) s

/-- The number of set bits below 512 in a list of words. -/
def popWords (l : List Word) : Nat :=
  l.foldl (fun a w => a + ((List.range 32).filter fun i => w.toNat / 2 ^ i % 2 == 1).length) 0

/-- BAL_CELL of a cell (R311). -/
def State.showBalCell (i : Nat) (s : State) : State :=
  let x := s.cellBal i
  let (st, left) := match x.holdoff with
    | some t => (2, (t - s.up + 59999999999) / 60000000000)
    | none => (if x.episode then 1 else if x.ineligible then 3 else 0, 0)
  s.wr (Obj.cell.balCell i) (w32 (st * 2 ^ 30 + min left 15 * 2 ^ 20 + min (x.owed / 1000000) 0xFFFFF))

/-- EPISODES and BLEEDING of BAL_STATUS, with MASK. -/
def State.showBal (n st : Nat) (s : State) : State :=
  let s := (s.showMasks Obj.bal.mask n (fun x => x.reported)).showMasks Obj.bal.planned n (fun x => x.planned)
  let ep := (s.therm.cells.filter fun x => x.1 / 512 == n && x.2.episode).length
  let bl := popWords (s.rdList (Obj.bal.mask n) 16)
  s.wr (Obj.bal.balStatus n) (w32 (bl * 2 ^ 22 + ep * 2 ^ 12 + st))

/-- Ends a cell's episode, with the 15 min hold-off (R291) or without (R295, LOCKOUT). -/
def State.endEpisode (i : Nat) (holdoff : Bool) (s : State) : State :=
  (s.setCellBal i fun x =>
    { x with episode := false, owed := 0, holdoff := if holdoff then some (s.up + 900000000000) else x.holdoff }).showBalCell i

/-- BAL_STOP (R293): the stop of a string's bleeding, with event 0x0E1 where it was bleeding. -/
def State.balStop (n cause st : Nat) (s : State) : State :=
  let s := s.stageBalance n stopPayload
  let s := s.each (s.nodesOf n) fun r u => u.setNodeBal (nodeInst n r.p) fun x => { x with planned := 0 }
  let was := (s.strBal n).active
  let s := s.setStrBal n fun x => { x with duration := 0, commitAt := s.up, active := false }
  (if was then s.raise 0x0E1 n cause (s.rd (Obj.bal.bled n)).toNat 0 else s).showBal n st

/-- Whether the module's mode permits rounds on a string (R295); a listener sends no BALANCE. -/
def State.balMode (s : State) (n : Nat) : Bool :=
  s.commander && (match s.sys.mode with
    | .stop | .solo | .active | .standby => true
    | .dormant => s.bit (Obj.bal.balCfg n) 5
    | _ => false)

/-- Whether a string is balanced at all (R289). -/
def State.balanced (s : State) (n : Nat) : Bool :=
  (match s.stringRec n with | some r => r.balance | none => false) && s.bit (Obj.bal.balCfg n) 4 && s.balMode n

/-- SOC [31:16] of a cell: its estimate in 0.01 %. -/
def State.zOf (s : State) (i : Nat) : Nat := s.bits (Obj.cell.soc i) 31 16

/-- Whether a node was present in the last closed snapshot (R228). -/
def State.nodePresent (s : State) (n p : Nat) : Bool :=
  let w := if p ≤ 32 then (s.rd (Obj.str.snapshot n + 10)).toNat / 2 ^ (p - 1) else s.bits (Obj.str.snapshot n + 11) 7 0 / 2 ^ (p - 33)
  (s.strX n).lastClosed.isSome && w % 2 == 0

/-- Eligibility at a round (R290). -/
def State.eligible (s : State) (n : Nat) (i : Nat) : Bool :=
  let x := s.cell i
  (x.state == 1 || x.state == 2) && decide (s.bits (Obj.cell.socSigma i) 15 0 ≤ s.bits (Obj.bal.balCfg2 n) 15 8 * 10) &&
    x.temp != 0x7FFF && (match s.nodeOfCell n (i % 512) with | some r => s.nodePresent n r.p | none => false)

/-- Whether BAL_CFG.WHEN permits the direction of the last update (R292, R310). -/
def State.directionOk (s : State) (n : Nat) : Bool :=
  let d := s.bits (Obj.str.estStatus n) 3 2
  match s.bits (Obj.bal.balCfg n) 7 6 with
  | 0 => true
  | 1 => d != 2
  | _ => d == 0

/-- The hottest confirmed temperature of a node, broken the hottest. -/
def State.nodeHottest (s : State) (a : Nat) : Option Int :=
  match s.newestSample a with
  | some x => extreme (fun p q : Int => decide (q < p)) ((parseMeas x.payload).temps.map (signedOf 16))
  | none => none

/-- Insertion by decreasing owed charge, lower position first on a tie. -/
def insertOwed (x : Nat × Nat) : List (Nat × Nat) → List (Nat × Nat)
  | [] => [x]
  | y :: t => if y.2 < x.2 then x :: y :: t else y :: insertOwed x t

/-- The mask planned for a node: at most MAX_PER_NODE cells in episode, the largest owed charge first (R292). -/
def State.planMask (s : State) (r : NodeRec) : Nat :=
  let n := r.string
  let eps := (r.cellIdx.filter fun i => (s.cellBal i).episode).map fun i => (i, (s.cellBal i).owed)
  let order := eps.foldl (fun l x => insertOwed x l) []
  let pick := (order.take (s.bits (Obj.bal.balCfg2 n) 3 0 + 1)).map Prod.fst
  pick.foldl (fun m i => m + 2 ^ (i % 512 - r.firstCell)) 0

/-- Exclusion of a hot node, with event 0x0E2 on each change into it (R292). -/
def State.excludeNode (r : NodeRec) (s : State) : State :=
  let n := r.string
  let a := nodeInst n r.p
  let lim := match s.threshOf n with | some t => t.tWarnHi - s.bits (Obj.bal.balCfg2 n) 7 4 * 100 | none => 0x7FFF
  let (hot, t) := match s.nodeHottest a with | some t => (decide (lim ≤ t), t) | none => (false, 0)
  let was := (s.nodeBal a).excluded
  let s := s.setNodeBal a fun x => { x with excluded := hot, removed := false }
  if hot && !was then (s.flag (Obj.bal.balFlags n) 2).raise 0x0E2 n r.p (bitsOfInt 32 t) 0 else s

/-- Starts, continues and ends episodes against the target (R291). -/
def State.balEpisodes (n zt : Nat) (s : State) : State :=
  s.each (s.cellIdxOf n) fun i u =>
    let el := u.eligible n i
    let x := u.cellBal i
    let u := u.setCellBal i fun y => { y with ineligible := !el }
    let excess := u.zOf i - zt
    if x.episode then
      if !el || decide (u.zOf i < zt + u.bits (Obj.bal.balCfg n) 23 16) then u.endEpisode i true else u.showBalCell i
    else if el && x.holdoff.isNone && decide (u.bits (Obj.bal.balCfg n) 31 24 ≤ excess) then
      (u.setCellBal i fun y => { y with episode := true, owed := excess * (u.cell i).cap * 100 }).showBalCell i
    else u.showBalCell i

/-- BAL_ROUND (R292, R293). -/
def balRound (n : Nat) (s : State) : State :=
  if !s.balanced n then
    if s.hasString n then s.showBal n (if s.balMode n then 0 else 5) else s
  else
    let cells := s.cellIdxOf n
    let el := cells.filter fun i => s.eligible n i
    let s := s.wr (Obj.bal.roundSample n) (w32 (cells.foldl (fun m i => max m (s.cell i).estSample) 0))
    let s := s.count (Obj.bal.rounds n) 1
    if 2 * el.length < cells.length ∨ el = [] then
      let s := s.each cells fun i u => if (u.cellBal i).episode && !u.eligible n i then u.endEpisode i true else u
      ((s.wr (Obj.bal.target n) 0xFFFF).flag (Obj.bal.balFlags n) 1).balStop n 5 6
    else
      let zt := el.foldl (fun m i => min m (s.zOf i)) 0xFFFF
      let s := (s.wr (Obj.bal.target n) (w32 zt)).balEpisodes n zt
      let tns := (s.nodesOf n).filter fun r => r.kind == 0
      let s := s.each tns State.excludeNode
      if (s.strTherm n).high ≠ 0 then s.balStop n 2 4
      else if !s.directionOk n then s.balStop n 3 3
      else
        let s := s.each tns fun r u =>
          let a := nodeInst n r.p
          let m := if (u.nodeBal a).excluded then 0 else u.planMask r
          u.setNodeBal a fun x => { x with planned := m }
        let entries := (tns.filter fun r => (s.nodeBal (nodeInst n r.p)).planned != 0).take 32
        if entries = [] then s.balStop n 1 1
        else
          let dur := (s.bits (Obj.bal.balCfg n) 15 8 + 10) * 1000
          let body := entries.flatMap fun r =>
            leBytes r.p 1 ++ leBytes 0 1 ++ leBytes (s.nodeBal (nodeInst n r.p)).planned 2
          let s := s.stageBalance n (leBytes dur 2 ++ leBytes entries.length 1 ++ leBytes 0 1 ++ body)
          let was := (s.strBal n).active
          let s := s.setStrBal n fun x => { x with duration := dur, commitAt := s.up, active := true }
          let s := (s.flag (Obj.bal.balFlags n) 0).showBal n 2
          if was then s else s.raise 0x0E0 n (popWords (s.rdList (Obj.bal.planned n) 16)) zt 0

def execBalRound (string : Fin 256) (s : State) : Host.Outcome State Fault Refusal := s.live (balRound string)

/-- A confirmed MEAS of a TN16 (R291, R294): owed charge falls by the reported mask, and a mask differing from the plan
is counted and reported. -/
def State.balMeas (n p instant : Nat) (m : Meas) (s : State) : State :=
  match s.nodeRec n p with
  | none => s
  | some r =>
    if r.kind ≠ 0 ∨ m.kind ≠ 0 then s
    else
      let a := nodeInst n p
      let x := s.nodeBal a
      let b := s.strBal n
      let dt := match x.lastMeas with | some t => min (instant - t) (b.duration * 1000000) | none => 0
      let ohm := max 1 (s.bits (Obj.bal.balCfg2 n) 31 16)
      let bleed (k : Nat) : Nat := m.cells.getD k 0 * dt / (ohm * 3600000)
      let on := (List.range r.cells).filter fun k => m.aux / 2 ^ k % 2 == 1
      let s := s.each on fun k u =>
        let i := n * 512 + r.firstCell + k
        let u := u.setStrBal n fun y => { y with bledNah := y.bledNah + bleed k }
        if (u.cellBal i).episode then
          if (u.cellBal i).owed ≤ bleed k then u.endEpisode i true
          else (u.setCellBal i fun y => { y with owed := y.owed - bleed k }).showBalCell i
        else u
      let s := s.wr (Obj.bal.bled n) (w32 ((s.strBal n).bledNah / 1000000))
      let s := s.setNodeBal a fun y => { y with reported := m.aux, lastMeas := some instant }
      let s := (s.showMasks Obj.bal.mask n (fun y => y.reported)).wrBits (Obj.bal.balStatus n) 31 22
        (popWords (s.rdList (Obj.bal.mask n) 16))
      if b.commitAt + 1000000000 ≤ s.up ∧ b.active = true ∧ m.aux ≠ x.planned ∧ x.removed = false then
        ((((s.setNodeBal a fun y => { y with removed := true }).count (Obj.bal.maskMismatches n) 1).flag
          (Obj.bal.balFlags n) 3).raise 0x0E3 n p x.planned m.aux)
      else s

/-- BAL_HOLDOFF_EXPIRY (R291). -/
def balHoldoffExpiry (i : Nat) (s : State) : State :=
  if (s.cellBal i).holdoff.isSome then (s.setCellBal i fun x => { x with holdoff := none }).showBalCell i else s

def execBalHoldoffExpiry (cell : Fin 131072) (s : State) : Host.Outcome State Fault Refusal := s.live (balHoldoffExpiry cell)

/-- END_EPISODES (R309): every episode ends with hold-off, and a stop is committed. -/
def endEpisodes (n : Nat) (s : State) : State :=
  if s.hasString n then
    let s := s.each (s.cellIdxOf n) fun i u => if (u.cellBal i).episode then u.endEpisode i true else u
    (s.balStop n 1 1).accept (Obj.bal.cmdStatus n) 2 Oc.done
  else s

def execEndEpisodes (string : Fin 256) (s : State) : Host.Outcome State Fault Refusal := s.live (endEpisodes string)

/-- BAL_CLEAR_COUNTERS (R309). -/
def balClearCounters (n : Nat) (s : State) : State :=
  if s.hasString n then
    (State.clearAll [Obj.bal.bled n, Obj.bal.rounds n, Obj.bal.maskMismatches n] (s.setStrBal n fun x => { x with bledNah := 0 })).accept
      (Obj.bal.cmdStatus n) 1 Oc.done
  else s

def execBalClearCounters (string : Fin 256) (s : State) : Host.Outcome State Fault Refusal := s.live (balClearCounters string)

/-- The ranges of BAL_CFG (R310). -/
def balCfgOk (w : Word) : Bool :=
  let d := bitsOf 31 24 w
  let h := bitsOf 23 16 w
  let p := bitsOf 15 8 w
  decide (10 ≤ d) && decide (5 ≤ h) && decide (h < d) && decide (10 ≤ p) && decide (p ≤ 50) && decide (bitsOf 7 6 w ≤ 2)

/-- BAL_CFG_WRITE (R293, R309): a field outside its range is refused and nothing changes; ENABLE written to 0 commits a
stop. -/
def balCfgWrite (n : Nat) (w : Word) (s : State) : State :=
  if s.hasString n && balCfgOk w then
    let was := s.bit (Obj.bal.balCfg n) 4
    let s := s.wr (Obj.bal.balCfg n) (putBits 3 0 0 w)
    if was && !bitAt 4 w && s.commander then s.balStop n 4 0 else s
  else s

def execBalCfgWrite (string : Fin 256) (value : BitVec 32) (s : State) : Host.Outcome State Fault Refusal :=
  s.live (balCfgWrite string value)

/-- Balancing on leaving a mode that permits it (R293, R295): LOCKOUT ends episodes without hold-off; DORMANT and other
modes but SERVICE commit a stop. -/
def State.balModeExit (s : State) : State :=
  s.each s.strings fun n u =>
    match u.sys.mode with
    | .lockout => u.each (u.cellIdxOf n) fun i v => if (v.cellBal i).episode then v.endEpisode i false else v
    | .service | .boot => u
    | _ => if (u.strBal n).active && !u.balMode n then u.balStop n 6 5 else u

/-! ### Sensors (R297, R299) -/

/-- The history with one more reading, kept back to the first older than 60 s. -/
def pushHist (t : Nat) (v : Int) (l : List (Nat × Int)) : List (Nat × Int) :=
  let recent := l.filter fun x => decide (t < x.1 + 60000000000)
  let old := l.find? fun x => decide (x.1 + 60000000000 ≤ t)
  (t, v) :: recent ++ old.toList

/-- The change of a sensor within the last 60 s. -/
def Sensor.swing (t : Nat) (x : Sensor) : Int :=
  let vs := (x.hist.filter fun h => decide (t ≤ h.1 + 60000000000) && h.2 != 0x7FFF).map Prod.snd
  match vs with
  | [] => 0
  | v :: r => (r.foldl max v) - (r.foldl min v)

/-- Whether every reading of the last 60 s is the same, and 60 s of them are held. -/
def Sensor.flat (t : Nat) (x : Sensor) : Bool :=
  match x.hist with
  | [] => false
  | (_, v) :: _ => v != 0x7FFF && x.hist.all (fun h => h.2 == v) &&
      (match x.hist.getLast? with | some h => decide (h.1 + 60000000000 ≤ t) | none => false)

/-- The rate over a window in 0.001 °C/s, towards zero (R299). -/
def rateOver (w : Nat) (l : List (Nat × Int)) : Option Int :=
  match l with
  | [] => none
  | (t, v) :: r =>
    match r.find? (fun x => decide (x.1 + w ≤ t)) with
    | some (u, b) => if v = 0x7FFF ∨ b = 0x7FFF ∨ t = u then none else some (((v - b) * 10000000000).tdiv ((t : Int) - u))
    | none => none

/-- The value the supervisor judges: 0x7FFF for a broken sensor (R2, R297). -/
def Sensor.value (x : Sensor) : Int :=
  if x.broken ≠ 0 then 0x7FFF else match x.hist with | (_, v) :: _ => v | [] => 0

/-- A new confirmed reading of a sensor: history, break and restore of a 0x7FFF reading, restore of a stuck one. The
event to report is returned: code, kind, value. -/
def Sensor.read (t : Nat) (v : Int) (x : Sensor) : Sensor × Option (Nat × Nat × Int) :=
  let changed := match x.hist with | (_, w) :: _ => w != v | [] => false
  let y := { x with
    hist := pushHist t v x.hist
    lastValid := if v = 0x7FFF then x.lastValid else v
    validSince := if v = 0x7FFF then none else some (x.validSince.getD t) }
  if v = 0x7FFF then
    if x.broken = 1 then (y, none) else ({ y with broken := 1 }, some (0x0EB, 1, x.lastValid))
  else if x.broken = 1 then
    if decide ((y.validSince.getD t) + 60000000000 ≤ t) then ({ y with broken := 0 }, some (0x0EC, 1, v)) else (y, none)
  else if x.broken = 2 ∧ changed = true then ({ y with broken := 0 }, some (0x0EC, 2, v))
  else (y, none)

/-- The latched conditions of a sensor after a reading (R298), by limits and hysteresis in 0.01 °C. -/
def Sensor.judge (th : ThreshRec) (hyst : Int) (x : Sensor) : Sensor :=
  let t := x.value
  let r10 := rateOver 10000000000 x.hist
  let r60 := rateOver 60000000000 x.hist
  let past := decide ((th.ror10 : Int) < r10.getD 0) || decide ((th.ror60 : Int) < r60.getD 0)
  let calm := decide (2 * r10.getD 0 ≤ th.ror10) && decide (2 * r60.getD 0 ≤ th.ror60)
  let held := x.rate10 || x.rate60
  let rate := if past then true else if calm then false else held
  { x with
    warnHi := if th.tWarnHi ≤ t then true else if t < th.tWarnHi - hyst then false else x.warnHi
    alarmHi := if th.tAlarmHi ≤ t then true else if t < th.tAlarmHi - hyst then false else x.alarmHi
    rate10 := rate && (decide ((th.ror10 : Int) < r10.getD 0) || x.rate10)
    rate60 := rate && (decide ((th.ror60 : Int) < r60.getD 0) || x.rate60)
    warnLo := if x.broken ≠ 0 then x.warnLo else if t ≤ th.tWarnLo then true else if th.tWarnLo + hyst < t then false else x.warnLo
    alarmLo := if x.broken ≠ 0 then x.alarmLo else if t ≤ th.tAlarmLo then true else if th.tAlarmLo + hyst < t then false else x.alarmLo
    r10 := r10, r60 := r60 }

/-- A sensor's level on each side. -/
def Sensor.highLevel (x : Sensor) : Nat :=
  if x.alarmHi || x.rate10 || x.rate60 || x.broken != 0 then 2 else if x.warnHi then 1 else 0
def Sensor.lowLevel (x : Sensor) : Nat := if x.alarmLo then 2 else if x.warnLo then 1 else 0

/-- The cause of a high ALARM as event 0x0E9 codes it, with the value it reports. -/
def Sensor.alarmCause (x : Sensor) : Nat × Int :=
  if x.broken ≠ 0 then (4, 0x7FFF)
  else if x.alarmHi then (1, x.value)
  else if x.rate10 then (2, x.r10.getD 0)
  else (3, x.r60.getD 0)

/-- A sensor by position and input, in a list; absent ones start anew. -/
def sensorOf (l : List Sensor) (p input : Nat) : Sensor :=
  match l.find? (fun x => x.p == p && x.input == input) with
  | some x => x
  | none => .initial p input

/-- The list with a sensor replaced or added, in order of position and input. -/
def putSensor (x : Sensor) : List Sensor → List Sensor
  | [] => [x]
  | y :: t =>
    if y.p = x.p ∧ y.input = x.input then x :: t
    else if x.p < y.p ∨ (x.p = y.p ∧ x.input < y.input) then x :: y :: t
    else y :: putSensor x t

/-- Replaces the readings of stuck sensors by 0x7FFF for every consumer (R297). -/
def substituteTemps (l : List Sensor) (q : Snap) : Snap :=
  let off (m : Meas) : Nat := 8 + (match m.kind with | 0 => 2 * m.cells.length | 1 => 16 | _ => 8)
  { q with samples := q.samples.map fun x =>
      let m := parseMeas x.payload
      let stuck := (List.range m.temps.length).filter fun k => (sensorOf l x.p k).broken == 2
      { x with payload := stuck.foldl (fun b k => (b.set (off m + 2 * k) 0xFF).set (off m + 2 * k + 1) 0x7F) x.payload } }

/-- SENSOR_BROKEN (R297): takes up the temperatures of a closed snapshot, with breaks and restores, and finds stuck
sensors; the snapshot as every consumer sees it is returned. -/
def State.thermSensors (n : Nat) (q : Snap) (s : State) : Snap × State :=
  let reads := q.meas.flatMap fun m => m.2.temps.zipIdx.map fun t => (m.1, t.2, signedOf 16 t.1)
  let s := s.each reads fun r u =>
    let (x, ev) := (sensorOf (u.strTherm n).sensors r.1 r.2.1).read q.instant r.2.2
    let u := u.setStrTherm n fun y => { y with sensors := putSensor x y.sensors }
    match ev with
    | some (code, kind, v) =>
      let u := if code = 0x0EB then u.flag (Obj.thm.thermFlags n) 2 else u
      u.raise code n kind (r.1 + 256 * r.2.1) (bitsOfInt 32 v)
    | none => u
  let l := (s.strTherm n).sensors
  let stuck := l.filter fun x => x.broken == 0 && x.flat q.instant &&
    l.any fun y => !(y.p == x.p && y.input == x.input) && decide (10 ≤ y.swing q.instant)
  let s := s.each stuck fun x u =>
    ((u.setStrTherm n fun y => { y with sensors := putSensor { x with broken := 2 } y.sensors }).flag
      (Obj.thm.thermFlags n) 3).raise 0x0EB n 2 (x.p + 256 * x.input) (bitsOfInt 32 x.lastValid)
  (substituteTemps (s.strTherm n).sensors q, s)

/-! ### Levels, requests and enforcement (R298 to R304) -/

/-- The greatest of a list of levels. -/
def maxLevel (l : List Nat) : Nat := l.foldl max 0

/-- Whether a sensor asks for faster scanning, and for which cause: 1 near a limit, 2 rate (R300). -/
def Sensor.fastCause (th : ThreshRec) (near : Int) (x : Sensor) : Nat :=
  let t := x.value
  let nearHi := decide (min th.tWarnHi th.tAlarmHi - near ≤ t)
  let nearLo := x.broken == 0 && decide (t ≤ max th.tWarnLo th.tAlarmLo + near)
  if nearHi || nearLo then 1
  else if decide ((th.ror10 : Int) < 2 * x.r10.getD 0) || decide ((th.ror60 : Int) < 2 * x.r60.getD 0) then 2
  else 0

/-- The derate bounds of a pair of levels, in mA (R301). -/
def derateBounds (th : ThreshRec) (warn alarm high low : Nat) : Nat × Nat :=
  let pct (l : Nat) : Option Nat := match l with | 0 => none | 1 => some warn | _ => some alarm
  let bound (m : Nat) (p : Option Nat) : Nat := match p with | some k => m * k / 100 | none => 0xFFFFFFFF
  let both := match pct high, pct low with
    | some a, some b => some (min a b)
    | some a, none => some a
    | none, b => b
  (bound th.iChgMax both, bound th.iDisMax (pct high))

/-- FAST_SCAN_REQUEST (R300), with event 0x0ED at its start and end. -/
def State.fastRequest (n : Nat) (th : ThreshRec) (s : State) : State :=
  let near : Int := s.bits (Obj.thm.thermCfg n) 31 24 * 100
  let cs := (s.strTherm n).sensors.map (Sensor.fastCause th near)
  let cause := if cs.contains 1 then 1 else if cs.contains 2 then 2 else 0
  let a := Obj.thm.thermStatus n
  let was := s.bit a 11
  let is := cause != 0
  let s := s.wrBit a 11 is
  let s := s.fastCauses n is
  if is && !was then s.raise 0x0ED n 1 cause 0 else if was && !is then s.raise 0x0ED n 0 0 0 else s

/-- DERATE_REQUEST (R301, R302): publishes the bounds; a request that starts begins a grace, one that ends lifts
enforcement with event 0x0F1. -/
def State.derateRequest (n : Nat) (th : ThreshRec) (high low : Nat) (s : State) : State :=
  let cfg := Obj.thm.thermCfg n
  let (c, d) := derateBounds th (s.bits cfg 15 8) (s.bits cfg 7 0) high low
  let oc := (s.rd (Obj.thm.derateChg n)).toNat
  let od := (s.rd (Obj.thm.derateDis n)).toNat
  if oc = c ∧ od = d then s
  else
    let none_ := c == 0xFFFFFFFF && d == 0xFFFFFFFF
    let was := oc != 0xFFFFFFFF || od != 0xFFFFFFFF
    let s := (s.wr (Obj.thm.derateChg n) (w32 c)).wr (Obj.thm.derateDis n) (w32 d)
    let a := Obj.thm.thermStatus n
    let s := (s.wrBit a 12 (!none_)).raise 0x0EE n c d (high + 16 * low)
    if none_ then
      match (s.strTherm n).enforcedAt with
      | some t =>
        ((s.setStrTherm n fun x => { x with grace := none, enforcedAt := none }).wrBit a 13 false).raise 0x0F1 n
          ((s.up - t) / 1000000000) 0 0
      | none => s.setStrTherm n fun x => { x with grace := none }
    else if was then s
    else s.setStrTherm n fun x => { x with grace := some s.up }

/-- One side's change of level with its events (R298). -/
def State.levelChange (n : Nat) (low : Bool) (old new : Nat) (s : State) : State :=
  let l := (s.strTherm n).sensors
  let lv (x : Sensor) : Nat := if low then x.lowLevel else x.highLevel
  let who := match l.find? (fun x => lv x == new) with | some x => x | none => .initial 0 0
  let at_ := who.p + 256 * who.input
  let since := if low then (s.strTherm n).lowSince else (s.strTherm n).highSince
  let s := if old = 0 ∧ new ≠ 0 then
      s.setStrTherm n fun x => if low then { x with lowSince := s.up } else { x with highSince := s.up } else s
  if old < new then
    if new = 1 then
      ((s.count (Obj.thm.warnings n) 1).flag (Obj.thm.thermFlags n) 0).raise 0x0E8 n low.toNat at_ (bitsOfInt 32 who.value)
    else
      let (c, v) := if low then (17, who.value) else who.alarmCause
      ((s.count (Obj.thm.alarms n) 1).flag (Obj.thm.thermFlags n) 1).raise 0x0E9 n c at_ (bitsOfInt 32 v)
  else if new = 0 ∧ old ≠ 0 then s.raise 0x0EA n low.toNat ((s.up - since) / 1000000000) 0
  else s

/-- THERM_EVALUATE (R298 to R303) at a closed snapshot. -/
def State.thermEvaluate (n : Nat) (q : Snap) (s : State) : State :=
  match s.threshOf n with
  | none => s
  | some th =>
    let hyst : Int := s.bits (Obj.thm.thermCfg n) 23 16 * 10
    let s := s.setStrTherm n fun x => { x with sensors := x.sensors.map (Sensor.judge th hyst) }
    let x := s.strTherm n
    let high := maxLevel (x.sensors.map Sensor.highLevel)
    let low := maxLevel (x.sensors.map Sensor.lowLevel)
    let s := s.setStrTherm n fun y => { y with high := high, low := low }
    let s := (s.levelChange n false x.high high).levelChange n true x.low low
    let a := Obj.thm.thermStatus n
    let any (f : Sensor → Bool) : Nat := (x.sensors.any f).toNat
    let cause := any (fun y => y.warnHi || y.alarmHi || y.warnLo || y.alarmLo) + 2 * any (fun y => y.rate10) +
      4 * any (fun y => y.rate60) + 8 * any (fun y => y.broken != 0)
    let s := ((s.wrBits a 17 14 cause).wrBits a 7 4 low).wrBits a 3 0 high
    let hot := extreme (fun y z : Sensor => decide (z.value < y.value)) x.sensors
    let s := match hot with
      | some y => s.wr (Obj.thm.hottest n) (w32 (bitsOfInt 16 y.value * 65536 + y.p * 256 + y.input))
      | none => s
    let best (f : Sensor → Option Int) : Word :=
      match extreme (fun y z : Sensor => decide ((f z).getD 0 < (f y).getD 0)) (x.sensors.filter fun y => (f y).isSome) with
      | some y => w32 (bitsOfInt 16 (clampInt (-32768) 32767 ((f y).getD 0)) * 65536 + y.p * 256 + y.input)
      | none => 0
    let s := (s.wr (Obj.thm.rate10Max n) (best Sensor.r10)).wr (Obj.thm.rate60Max n) (best Sensor.r60)
    let cnt (k : Nat) : Nat := (x.sensors.filter fun y => y.broken == k).length
    let s := s.wr (Obj.thm.broken n) (w32 (cnt 2 * 65536 + cnt 1))
    let s := (s.fastRequest n th).derateRequest n th high low
    let s := if x.high = 0 ∧ high ≠ 0 ∧ s.balMode n = true then s.balStop n 2 4 else s
    -- R303
    match (q.meas.find? fun m => m.2.kind == 1) with
    | none => s
    | some m =>
      let i2 := m.2.iA + m.2.iB
      let c := (s.rd (Obj.thm.derateChg n)).toNat
      let d := (s.rd (Obj.thm.derateDis n)).toNat
      let slack := s.rated n / 100
      let past : Option Nat :=
        if c ≠ 0xFFFFFFFF ∧ (2 * (c + slack : Nat) : Int) < i2 then some c
        else if d ≠ 0xFFFFFFFF ∧ i2 < -(2 * (d + slack : Nat) : Int) then some d else none
      match (s.strTherm n).enforcedAt, past with
      | some _, some b =>
        ((((s.setStrTherm n fun y => { y with openDue := true }).count (Obj.thm.thermalOpens n) 1).flag
          (Obj.thm.thermFlags n) 5).raise 0x0F0 n (bitsOfInt 32 (i2 / 2)) b q.no)
      | _, _ => s

/-- DERATE_ENFORCED (R302): the grace expires and the bounds in force are enforced; event 0x0EF. -/
def derateEnforced (n : Nat) (s : State) : State :=
  match (s.strTherm n).grace with
  | none => s
  | some _ =>
    let a := Obj.thm.thermStatus n
    let g := match s.threshOf n with | some t => t.grace | none => 0
    let s := s.setStrTherm n fun x => { x with grace := none, enforcedAt := some s.up }
    ((s.flag a 13).flag (Obj.thm.thermFlags n) 4).raise 0x0EF n (s.rd (Obj.thm.derateChg n)).toNat
      (s.rd (Obj.thm.derateDis n)).toNat g

/-- THERM_CLEAR_COUNTERS (R312). -/
def thermClearCounters (n : Nat) (s : State) : State :=
  if s.hasString n then
    (State.clearAll [Obj.thm.thermalOpens n, Obj.thm.warnings n, Obj.thm.alarms n] s).accept (Obj.thm.cmdStatus n) 1 Oc.done
  else s

def execThermClearCounters (string : Fin 256) (s : State) : Host.Outcome State Fault Refusal :=
  s.live (thermClearCounters string)

/-- Acceleration by voltage and current of a closed snapshot (R201). -/
def State.scanNear (n : Nat) (q : Snap) (s : State) : State :=
  match s.threshOf n with
  | none => s
  | some th =>
    let vs := (s.snapCells n q.meas).map Prod.fst
    let m := s.bits (Obj.str.scanCfg n) 23 16 * 10
    let v := vs.any fun x => decide (th.vWarnHi ≤ x + m) || decide (x ≤ th.vWarnLo + m)
    let pct := s.bits (Obj.str.scanCfg n) 15 8
    let past (i : Int) : Bool :=
      if 0 ≤ i then decide (pct * th.iChgMax < 100 * i.natAbs) else decide (pct * th.iDisMax < 100 * i.natAbs)
    let i := q.meas.any fun x => x.2.kind == 1 && (past x.2.iA || past x.2.iB)
    let hasTh := q.meas.any fun x => x.2.kind == 1
    let s := s.setStrX n fun x => { x with vNear := v, iNear := if hasTh then i else x.iNear }
    s.fastCauses n (s.bit (Obj.thm.thermStatus n) 11)

end Sys2Proof.Machine
end

