-- ==== Sys2Proof/Machine/Prot.lean ====
section
/-!
DEFINITION. Protection on strings (R315 to R324, R350 to R352, R357).
-/

namespace Sys2Proof.Machine

def State.strProt (s : State) (n : Nat) : StrProt := lookupD .initial s.prot.strs n
def State.setStrProt (n : Nat) (f : StrProt → StrProt) (s : State) : State :=
  { s with prot := { strs := upsert n (f (s.strProt n)) s.prot.strs } }

/-- Protection runs in every mode but BOOT (R19). -/
def State.protRuns (s : State) : Bool := s.sys.mode != .boot && s.catOf.isSome

/-- COUNT of PROT_CFG (R351). -/
def State.protCount (s : State) : Nat := s.bits Obj.prot.protCfg 23 20

def State.tripped (s : State) (n : Nat) : Bool := s.bit (Obj.pstr.pstrStatus n) 8

/-- A check fires: it acts at the next commit point (R318). -/
def State.fire (n : Nat) (t : Trip) (s : State) : State := s.setStrProt n fun x => { x with due := x.due ++ [t] }

/-- A run towards `need` consecutive samples (R319); the check fires when the run reaches it. -/
def State.runTo (n : Nat) (key : Nat × Nat) (past : Bool) (t : Trip) (s : State) : State :=
  let x := s.strProt n
  let rest := x.runs.filter fun r => r.1 != key
  if past then
    let k := satAdd 255 (match x.runs.find? (fun r => r.1 == key) with | some r => r.2 | none => 0) 1
    let s := s.setStrProt n fun y => { y with runs := (key, k) :: rest }
    if k = s.protCount then s.fire n t else s
  else s.setStrProt n fun y => { y with runs := rest }

/-- A single-sample cause: it fires when it begins to stand. -/
def State.standTo (n : Nat) (key : Nat × Nat) (on : Bool) (t : Trip) (s : State) : State :=
  let had := (s.strProt n).standing.contains key
  if on && !had then (s.setStrProt n fun y => { y with standing := key :: y.standing }).fire n t
  else if !on && had then s.setStrProt n fun y => { y with standing := y.standing.filter fun k => k != key }
  else s

/-- The warning limits of one cell (R318): side 0 high, 1 low; they clear 10 mV inside. -/
def State.warnCell (n side pos v : Nat) (enter leave : Bool) (s : State) : State :=
  let w := (s.strProt n).warned
  let key := (side, pos)
  let w' := if enter then (if w.contains key then w else key :: w) else if leave then w.filter (fun k => k != key) else w
  let bit_ := 4 + side
  let was := s.bit (Obj.pstr.pstrStatus n) bit_
  let is := w'.any fun k => k.1 == side
  let s := (s.setStrProt n fun y => { y with warned := w' }).wrBit (Obj.pstr.pstrStatus n) bit_ is
  if is && !was then (s.flag (Obj.pstr.pstrFlags n) 1).raise 0x105 n side pos v
  else if was && !is then s.raise 0x106 n side 0 0 else s

/-- The checks of R318 on one newly confirmed sample of a node (R319). -/
def State.protSample (n p no : Nat) (payload : List Byte) (s : State) : State :=
  match s.threshOf n, s.nodeRec n p with
  | some th, some r =>
    if s.protRuns then
      let m := parseMeas payload
      let s := s.setStrProt n fun y => { y with standing := y.standing.filter fun k => k != (7, p) }
      let s := s.each ((m.cells.take r.cells).zipIdx) fun c s =>
        let v := c.1
        let pos := r.firstCell + c.2
        let s := s.runTo n (1, pos) (decide (th.vAlarmHi ≤ v)) ⟨1, pos, v, no⟩
        let s := s.runTo n (2, pos) (decide (v ≤ th.vAlarmLo)) ⟨2, pos, v, no⟩
        let s := s.warnCell n 0 pos v (decide (th.vWarnHi ≤ v)) (decide (v + 100 ≤ th.vWarnHi))
        s.warnCell n 1 pos v (decide (v ≤ th.vWarnLo)) (decide (th.vWarnLo + 100 ≤ v))
      let s := s.standTo n (6, p) (m.flags % 16 != 0) ⟨6, p, 0, no⟩
      if r.kind = 1 ∧ m.kind = 1 then
        let chg := max m.iA m.iB
        let dis := max (-m.iA) (-m.iB)
        let s := s.runTo n (3, 0) (decide ((th.iChgMax : Int) < chg)) ⟨3, 0xFFFF, bitsOfInt 32 chg, no⟩
        let s := s.runTo n (4, 0) (decide ((th.iDisMax : Int) < dis)) ⟨4, 0xFFFF, bitsOfInt 32 (-dis), no⟩
        let c := m.aux % 8
        let s := s.wrBits (Obj.pstr.pstrStatus n) 2 0 c
        let s := s.standTo n (8, p) (c == 3) ⟨8, 0xFFFF, 0, no⟩
        let s := s.standTo n (9, p) (c == 4) ⟨9, 0xFFFF, 0, no⟩
        if c = 0 ∨ c = 3 ∨ c = 4 then
          (s.setStrProt n fun y => { y with openAt := none }).wrBit (Obj.pstr.pstrStatus n) 11 false
        else s
      else s
    else s
  | _, _ => s

/-- The node comparator through a ring port (R318 cause 0x06): FAULT_ACTIVE newly set at port `i`. -/
def State.protFault (i pos : Nat) (s : State) : State :=
  if s.protRuns && s.hasString (i % 256) then s.fire (i % 256) ⟨6, pos, 0, ((s.strX (i % 256)).lastClosed.getD (0, 0)).1⟩ else s

/-- STRING_TRIPPED (R320). -/
def State.tripString (n : Nat) (t : Trip) (s : State) : State :=
  let a := Obj.pstr.pstrStatus n
  let was := s.tripped n
  let s := ((s.count Obj.prot.trips 1).count (Obj.pstr.strTrips n) 1).flag Obj.prot.protFlags 0
  let s := s.flag (Obj.pstr.pstrFlags n) 0
  let s := if was then s else
    let s := ((s.flag a 8).wrBits a 23 16 t.cause).wr (Obj.pstr.contactReq n) 0
    let s := (s.wr (Obj.pstr.tripWhere n) (w32 t.place)).wr (Obj.pstr.tripValue n) (w32 t.value)
    let s := (s.wr (Obj.pstr.tripSample n) (w32 t.sample)).count Obj.prot.trippedNow 1
    s.setStrProt n fun y => { y with trippedAt := s.now }
  s.raise 0x100 n t.cause t.place t.value

/-- Due checks in the order of R318's table. -/
def sortTrips (l : List Trip) : List Trip :=
  (List.range 11).flatMap fun c => l.filter fun t => t.cause == c

/-- Why a close is inhibited (R321), 0 if it is not: 1 trip, 2 thermal ALARM, 3 function not RUNNING, 4 mode. -/
def State.inhibitReason (s : State) (n : Nat) : Nat :=
  let t := s.rd (Obj.thm.thermStatus n)
  if s.tripped n then 1
  else if bitsOf 3 0 t == 2 || bitsOf 7 4 t == 2 then 2
  else if s.bits (Obj.func.funcStatus n) 3 0 ≠ 2 then 3
  else if s.sys.mode.running then 0 else 4

/-- Commits a CONTACTOR to the string's TH1; a listener only computes the decision (R321). -/
def State.commitContactor (n : Nat) (close : Bool) (s : State) : State :=
  match s.th1 n with
  | none => s
  | some r =>
    let s := (s.wrBit (Obj.pstr.pstrStatus n) 3 close).count (Obj.pstr.contactorCmds n) 1
    let s := s.setStrProt n fun y =>
      { y with resend := false, openAt := if close then none else some (y.openAt.getD s.up) }
    if s.commander then
      let s' := s.request n Op.contactor .single r.p (leBytes close.toNat 4) (.contactor close) none
      if s.portsFor n .single r.p = [] ∧ close = false then s'.raise 0x107 n 0 (s.reachW n) (s.reachE n) else s'
    else s

/-- CONTACTOR_DECIDE (R321): at most one CONTACTOR for the string in a cycle. -/
def State.contactorDecide (n : Nat) (s : State) : State :=
  let a := Obj.pstr.pstrStatus n
  let why := s.inhibitReason n
  let req := s.bit (Obj.pstr.contactReq n) 0
  let held := req && why != 0
  let s := (s.wrBit a 9 (why != 0)).wrBit a 10 held
  let said := (s.strProt n).heldSaid
  let s := s.setStrProt n fun y => { y with heldSaid := held }
  let s := if held && !said then (s.flag (Obj.pstr.pstrFlags n) 3).raise 0x104 n why 0 0 else s
  let want := req && why == 0
  if want != s.bit a 3 || (s.strProt n).resend then s.commitContactor n want else s

/-- The protection of one string at a commit point: fired checks act, then the CONTACTOR is decided (R316, R320). -/
def State.protBoundary (n : Nat) (s : State) : State :=
  let thermal : List Trip :=
    if (s.strTherm n).openDue then [⟨5, 0xFFFF, 0, ((s.strX n).lastClosed.getD (0, 0)).1⟩] else []
  let due := sortTrips ((s.strProt n).due ++ thermal)
  let s := (s.setStrProt n fun y => { y with due := [] }).setStrTherm n fun y => { y with openDue := false }
  (s.each due (State.tripString n)).contactorDecide n

/-- Entry into LOCKOUT trips every configured string in the entry cycle (R324). -/
def State.protLockout (s : State) : State :=
  s.each s.strings fun n s => s.fire n ⟨10, 0xFFFF, 0, ((s.strX n).lastClosed.getD (0, 0)).1⟩

/-- The CONTACTORs of a commit go before the other transactions (R316). -/
def State.contactorsFirst (s : State) : State :=
  let q := s.ring.queue
  { s with ring := { s.ring with queue := q.filter (fun r => r.opcode == Op.contactor) ++ q.filter (fun r => r.opcode != Op.contactor) } }

/-- The end of a CONTACTOR transaction (R322): an open that ends FAILED or DISCARDED is committed again. -/
def contactorResult (r : TxnResult) (s : State) : State :=
  match r.req.owner, r.outcome with
  | .contactor false, .failed | .contactor false, .discarded => s.setStrProt r.req.string fun y => { y with resend := true }
  | _, _ => s

/-- Whether the TH1's reported state differs from the committed one (R322). -/
def State.contactorDiffers (s : State) (n : Nat) : Bool :=
  match s.th1 n with
  | none => false
  | some r =>
    let a := Obj.pstr.pstrStatus n
    let c := s.bits a 2 0
    let known := (s.newestSample (nodeInst n r.p)).isSome
    if s.bit a 3 then known && c != 2
    else (known && c != 0 && c != 3 && c != 4) || (s.portsFor n .single r.p).isEmpty

/-- CONTACTOR_RESEND (R322): the 100 ms mark; the CONTACTOR is due again while the TH1 disagrees, or while an open reaches
no port. -/
def contactorResend (n : Nat) (s : State) : State :=
  if s.protRuns && s.contactorDiffers n then s.setStrProt n fun y => { y with resend := true } else s

def execContactorResend (string : Fin 256) (s : State) : Host.Outcome State Fault Refusal := s.live (contactorResend string)

/-- OPEN_FAILED (R322): CONTACT_TIME has passed since an open was committed. -/
def openFailed (n : Nat) (s : State) : State :=
  match (s.strProt n).openAt with
  | none => s
  | some t =>
    let a := Obj.pstr.pstrStatus n
    let s := ((s.flag a 11).flag (Obj.pstr.pstrFlags n) 2).flag Obj.prot.protFlags 1
    (s.count (Obj.pstr.openFails n) 1).raise 0x103 n (s.bits a 2 0) ((s.up - t) / 1000000) 0

def execOpenFailed (string : Fin 256) (s : State) : Host.Outcome State Fault Refusal := s.live (openFailed string)

/-- DATA_LOSS (R318 cause 0x07): a configured node missing from every snapshot for DATA_LOSS. -/
def dataLoss (n p : Nat) (s : State) : State :=
  if s.protRuns && (s.nodeRec n p).isSome then
    s.standTo n (7, p) true ⟨7, p, 0, ((s.strX n).lastClosed.getD (0, 0)).1⟩
  else s

def execDataLoss (node : NodeId) (s : State) : Host.Outcome State Fault Refusal := s.live (dataLoss node.string node.p)

/-- CONTACT_REQ_WRITE (R321): the wanted contactor state; a 1 for a tripped string stands held until the trip is reset and
ends at 0 when a trip acts (R324) or is reset (R323). -/
def contactReqWrite (n : Nat) (w : Word) (s : State) : State :=
  if s.hasString n then s.wr (Obj.pstr.contactReq n) (w32 (w.toNat % 2)) else s

def execContactReqWrite (string : Fin 256) (value : BitVec 32) (s : State) : Host.Outcome State Fault Refusal :=
  s.live (contactReqWrite string value)

/-- The first cause of R318 still present on the string, or 0 (R323). -/
def State.tripStill (s : State) (n : Nat) : Nat :=
  match s.threshOf n with
  | none => 0
  | some th =>
    let meas (r : NodeRec) : Option Meas := (s.newestSample (nodeInst n r.p)).map fun c => parseMeas c.payload
    let nodes := s.nodesOf n
    let cells := (nodes.filter fun r => s.nodePresent n r.p).flatMap fun r =>
      match meas r with | some m => m.cells.take r.cells | none => []
    let th1 := s.th1 n
    let cur := th1.bind meas
    let some_ (b : Bool) (c : Nat) : List Nat := if b then [c] else []
    let all :=
      some_ (cells.any fun v => decide (th.vWarnHi ≤ v)) 1 ++ some_ (cells.any fun v => decide (v ≤ th.vWarnLo)) 2 ++
      (match th1, cur with
        | some _, some m => some_ (decide ((th.iChgMax : Int) < max m.iA m.iB)) 3 ++
            some_ (decide ((th.iDisMax : Int) < max (-m.iA) (-m.iB))) 4
        | some _, none => [3]
        | none, _ => []) ++
      some_ (s.strTherm n).openDue 5 ++
      some_ (s.bit (Obj.port.portStatus n) 8 || s.bit (Obj.port.portStatus (256 + n)) 8 ||
        nodes.any fun r => match meas r with | some m => m.flags % 16 != 0 | none => false) 6 ++
      some_ (nodes.any fun r => !s.nodePresent n r.p) 7 ++
      some_ (th1.isSome && (s.bits (Obj.pstr.pstrStatus n) 2 0 != 0 || cur.isNone)) 8 ++
      some_ (s.sys.mode == .lockout) 10
    all.headD 0

abbrev PstrCmd.resetTrip : Nat := 1
abbrev PstrCmd.clear : Nat := 2

/-- RESET_TRIP (R323): leaves TRIPPED only if every cause is absent; a reset never closes a string. -/
def resetTrip (n : Nat) (s : State) : State :=
  if s.hasString n then
    let st := Obj.pstr.cmdStatus n
    let a := Obj.pstr.pstrStatus n
    let cause := s.bits a 23 16
    if s.tripped n then
      let still := s.tripStill n
      if still ≠ 0 then (s.refuse st PstrCmd.resetTrip Oc.notReady).raise 0x102 n cause still 0
      else
        let s := (((s.wrBit a 8 false).wrBits a 23 16 0).wr (Obj.pstr.contactReq n) 0).wr Obj.prot.trippedNow (w32 ((s.rd Obj.prot.trippedNow).toNat - 1))
        (s.accept st PstrCmd.resetTrip Oc.done).raise 0x101 n cause
          (min 0xFFFFFFFF ((s.now - (s.strProt n).trippedAt) / 1000000000)) 0
    else s.accept st PstrCmd.resetTrip Oc.done
  else s

def execResetTrip (string : Fin 256) (s : State) : Host.Outcome State Fault Refusal := s.live (resetTrip string)

/-- PSTR_CMD CLEAR_COUNTERS (R351). -/
def pstrClearCounters (n : Nat) (s : State) : State :=
  if s.hasString n then
    (State.clearAll [Obj.pstr.strTrips n, Obj.pstr.openFails n, Obj.pstr.contactorCmds n] s).accept (Obj.pstr.cmdStatus n)
      PstrCmd.clear Oc.done
  else s

def execPstrClearCounters (string : Fin 256) (s : State) : Host.Outcome State Fault Refusal :=
  s.live (pstrClearCounters string)

/-- PROT_CMD CLEAR_COUNTERS (R351). -/
def protClearCounters (s : State) : State := (s.wr Obj.prot.trips 0).accept Obj.prot.cmdStatus 1 Oc.done

def execProtClearCounters (s : State) : Host.Outcome State Fault Refusal := s.live protClearCounters

/-- Protection at a power-up or cold restart (R350): runs and warnings are empty; trips, causes and CONTACT_REQ are kept. -/
def State.protRestart (s : State) : State :=
  s.each s.strings fun n s =>
    let a := Obj.pstr.pstrStatus n
    let s := s.setStrProt n fun y => { StrProt.initial with trippedAt := y.trippedAt }
    let keep := (s.rd a).toNat
    let s := s.wr a (w32 (bitsOf 23 16 (w32 keep) * 65536 + (if bitAt 8 (w32 keep) then 256 else 0)))
    State.clearAll [Obj.pstr.pstrFlags n, Obj.pstr.strTrips n, Obj.pstr.openFails n, Obj.pstr.contactorCmds n] s

end Sys2Proof.Machine
end

