-- ==== Sys2Proof/Machine/Island.lean ====
section
/-!
DEFINITION. The safety island (R325 to R350, R353 to R356, R358): accepted samples, string functions, safety inputs
and outputs, resets and the module-wide lockout.
-/

namespace Sys2Proof.Machine

def State.modIsland (f : Island → Island) (s : State) : State := { s with island := f s.island }
def State.funcX (s : State) (n : Nat) : FuncX := lookupD .initial s.island.funcs n
def State.setFuncX (n : Nat) (f : FuncX → FuncX) (s : State) : State :=
  s.modIsland fun u => { u with funcs := upsert n (f (s.funcX n)) u.funcs }
def State.sqX (s : State) (q : Nat) : SqX := lookupD .initial s.island.sqs q
def State.setSqX (q : Nat) (f : SqX → SqX) (s : State) : State :=
  s.modIsland fun u => { u with sqs := upsert q (f (s.sqX q)) u.sqs }

/-- STATE of a string function (R356): 0 unconfigured, 1 PROVING, 2 RUNNING, 3 LOCKED. -/
def State.funcState (s : State) (n : Nat) : Nat := s.bits (Obj.func.funcStatus n) 3 0

/-- The SAFETY string records in force (R329). -/
def State.safetyStrings (s : State) : List SafetyString := match s.catOf with | some c => c.safetyStrings | none => []

def State.safetyOf (s : State) (n : Nat) : Option SafetyString := s.safetyStrings.find? fun r => r.string == n

/-- The global SAFETY record (R58). -/
def State.safetyGlobal (s : State) : Option SafetyGlobal := s.catOf.map Catalogue.safetyGlobal

/-! ### Safety outputs (R331, R339) -/

/-- DEMAND of SQ.q: every condition of R331 but the latch. -/
def State.sqDemand (s : State) (q : Nat) : Bool :=
  let listed := s.safetyStrings.filter fun r => r.outputs / 2 ^ q % 2 == 1
  s.island.running && !s.sys.lockoutLatch && !listed.isEmpty && listed.all fun r => s.funcState r.string == 2

/-- SQ.q has a SAFETY record or is listed by a string function. -/
def State.sqConfigured (s : State) (q : Nat) : Bool :=
  match s.catOf with
  | none => false
  | some c => (c.safetySq.any fun r => r.channel == q) || c.safetyStrings.any fun r => r.outputs / 2 ^ q % 2 == 1

/-- Every SQ output by R331; a channel in its REARM self-test is off (R336). -/
def State.refreshSq (s : State) : State :=
  s.each (List.range 32) fun q s =>
    let a := Obj.sq.sqStatus q
    let d := s.sqDemand q
    let on := d && !s.bit a 2 && !(s.sqX q).rearming
    (((s.wrBit a 3 d).wrBit a 1 on).wrBit a 0 (s.sqConfigured q)).wrBit Obj.safe.sqOn q on

/-! ### The module-wide lockout (R337) -/

/-- Sets or clears a cause of R337 as present. -/
def State.setCause (bit : Nat) (on : Bool) (s : State) : State :=
  let l := s.island.causes.filter fun b => b != bit
  let l := if on then bit :: l else l
  (s.modIsland fun u => { u with causes := l }).wrBit Obj.safe.safeStatus 1 (!l.isEmpty)

/-- SAFETY_TRIP (R337): declares a module-wide lockout for a cause. SQ go off at once; the mode follows at the next
boundary (R25), or at the end of BOOT (R27). -/
def State.declareLockout (bit : Nat) (siChannel : Nat) (s : State) : State :=
  let a := Obj.safe.lockoutCause
  let s := if s.sys.lockoutLatch then s else (s.wrBits a 4 0 0).modIsland fun u => { u with lockedAt := s.now }
  let s := s.flag a bit
  let s := if bit = 0 then s.wrBits a 15 8 siChannel else s
  let s := (s.count Obj.safe.lockouts 1).flag Obj.safe.safeFlags 0
  let s := { s with sys := { s.sys with lockoutLatch := true, tripPending := true } }
  let s := (s.flag Obj.safe.safeStatus 0).raise 0x124 0 (s.rd a).toNat siChannel 0
  s.refreshSq

/-- A cause of R337 that arises is declared once; one that ends is only absent. -/
def State.lockoutCause (bit : Nat) (on : Bool) (siChannel : Nat) (s : State) : State :=
  let had := s.island.causes.contains bit
  let s := s.setCause bit on
  if on && !had && s.island.running then s.declareLockout bit siChannel else s

/-- ISLAND_XCHECK (R338): the cores disagree; all SQ off and cause 4. Decision kind: 1 sample, 2 boundary. -/
def State.xcheck (kind : Nat) (s : State) : State :=
  let s := ((s.count Obj.safe.xchecks 1).flag Obj.safe.safeFlags 7).wrBit Obj.safe.safeStatus 3 false
  (s.raise 0x131 0 kind 0 0).lockoutCause 4 true 0

/-! ### String functions (R329 to R335, R340) -/

/-- The Catalogue bounds and the effective SL-I bounds of a string (R330). -/
def State.effBounds (s : State) (r : SafetyString) : Nat × Nat :=
  match (s.strTherm r.string).enforcedAt with
  | none => (r.iChgMax, r.iDisMax)
  | some _ =>
    let eff (cat : Nat) (w : Word) : Nat := if w.toNat = 0xFFFFFFFF then cat else min cat (w.toNat + cat / 100)
    (eff r.iChgMax (s.rd (Obj.thm.derateChg r.string)), eff r.iDisMax (s.rd (Obj.thm.derateDis r.string)))

/-- Takes up the effective bounds of a string, with event 0x12A at a change (R330). -/
def State.tighten (n : Nat) (s : State) : State :=
  match s.safetyOf n with
  | none => s
  | some r =>
    let (c, d) := s.effBounds r
    if s.rd (Obj.func.iChgEff n) = w32 c ∧ s.rd (Obj.func.iDisEff n) = w32 d then s
    else
      let t := decide (c < r.iChgMax) || decide (d < r.iDisMax)
      let s := (s.wr (Obj.func.iChgEff n) (w32 c)).wr (Obj.func.iDisEff n) (w32 d)
      let s := if t then s.flag (Obj.func.funcFlags n) 2 else s
      let any := s.safetyStrings.any fun q =>
        decide ((s.rd (Obj.func.iChgEff q.string)).toNat < q.iChgMax) || decide ((s.rd (Obj.func.iDisEff q.string)).toNat < q.iDisMax)
      (s.wrBit Obj.safe.safeStatus 2 any).raise 0x12A n c d t.toNat

/-- Number of LOCKED string functions in SAFE_STATUS (R354). -/
def State.showLocked (s : State) : State :=
  s.wrBits Obj.safe.safeStatus 31 16 (s.safetyStrings.filter fun r => s.funcState r.string == 3).length

/-- The causes of R329 present on a function's latest accepted data, lowest code first; `partner` says whether cause
0x0A counts (R332). -/
def State.funcCauses (s : State) (n : Nat) (partner : Bool) : List Nat :=
  let x := s.funcX n
  let l := x.nodes.flatMap IslandNode.conds
  let f := s.bit (Obj.port.portStatus n) 8 || s.bit (Obj.port.portStatus (256 + n)) 8
  let p := match x.partner with | some r => partner && r.state == 3 && r.cause != 10 && r.present | none => false
  (List.range 11).filter fun c => l.contains c || (c == 5 && f) || (c == 9 && x.nodes.any IslandNode.aged) || (c == 10 && p)

/-- CAUSE_PRESENT of a function (R356). -/
def State.showPresent (n : Nat) (s : State) : State :=
  s.wrBit (Obj.func.funcStatus n) 4 (!(s.funcCauses n true).isEmpty)

/-- FUNC_LOCKED (R335): the first cause is recorded and the function's SQ go off. -/
def State.lockFunc (n cause place value : Nat) (s : State) : State :=
  if (s.safetyOf n).isSome && s.funcState n != 3 then
    let a := Obj.func.funcStatus n
    let s := (s.wrBits a 3 0 3).wrBits a 23 16 cause
    let s := (s.wr (Obj.func.funcWhere n) (w32 place)).wr (Obj.func.funcValue n) (w32 value)
    let s := ((s.count (Obj.func.locks n) 1).wr64 (Obj.func.lockTime n) s.now).flag (Obj.func.funcFlags n) 0
    ((s.flag Obj.safe.safeFlags 1).raise 0x120 n cause place value).showLocked.refreshSq
  else s

/-- The violating conditions in one accepted sample (R329): cause, place, value. -/
def violations (r : SafetyString) (bounds : Nat × Nat) (p firstCell : Nat) (temps : List Int) (m : Meas) :
    List (Nat × Nat × Int) :=
  let cells := m.cells.zipIdx.flatMap fun c =>
    (if r.vMax < c.1 then [(1, firstCell + c.2, (c.1 : Int))] else []) ++ (if c.1 < r.vMin then [(2, firstCell + c.2, (c.1 : Int))] else [])
  let ts := temps.zipIdx.flatMap fun t =>
    if t.1 = 0x7FFF ∨ r.tMax < t.1 then [(3, p + 256 * t.2, t.1)] else if t.1 < r.tMin then [(4, p + 256 * t.2, t.1)] else []
  let comp := if m.flags % 16 ≠ 0 then [(5, p, (0 : Int))] else []
  let chg := max m.iA m.iB
  let dis := max (-m.iA) (-m.iB)
  let cur := if m.kind = 1 then
      (if (bounds.1 : Int) < chg then [(6, 0xFFFF, chg)] else []) ++
      (if (bounds.2 : Int) < dis then [(7, 0xFFFF, -dis)] else []) ++
      (if r.direction = 1 ∧ (r.iDisMax : Int) < 100 * dis then [(8, 0xFFFF, -dis)] else []) ++
      (if r.direction = 2 ∧ (r.iChgMax : Int) < 100 * chg then [(8, 0xFFFF, chg)] else [])
    else []
  cells ++ ts ++ comp ++ cur

/-- SAMPLE_REJECTED (R327): reason 1 CRC, 2 position, 3 order. -/
def State.rejectSample (n p reason : Nat) (s : State) : State :=
  (s.setFuncX n fun x => { x with rejected := x.rejected + 1 }).raise 0x132 n p reason 0

/-- The island's readings of one node's sensors, a stuck one taken as 0x7FFF (R297, R327). -/
def FuncX.temps (x : FuncX) (up p : Nat) (m : Meas) : FuncX × List Int :=
  let raw := m.temps.map (signedOf 16)
  let hist (k : Nat) : List (Nat × Int) :=
    match x.sensors.find? (fun e => e.1 == p && e.2.1 == k) with | some e => e.2.2 | none => []
  let mine := raw.zipIdx.map fun t => (p, t.2, pushHist up t.1 (hist t.2))
  let all := (x.sensors.filter fun e => !mine.any fun f => f.1 == e.1 && f.2.1 == e.2.1) ++ mine
  let sens (e : Nat × Nat × List (Nat × Int)) : Sensor := { Sensor.initial e.1 e.2.1 with hist := e.2.2 }
  let stuck (e : Nat × Nat × List (Nat × Int)) : Bool :=
    (sens e).flat up && all.any fun f => !(f.1 == e.1 && f.2.1 == e.2.1) && decide (10 ≤ (sens f).swing up)
  ({ x with sensors := all }, mine.zip raw |>.map fun e => if stuck e.1 then 0x7FFF else e.2)

/-- One accepted sample against the string function (R329, R340). -/
def State.islandAccept (r : SafetyString) (nr : NodeRec) (no : Nat) (payload : List Byte) (s : State) : State :=
  let n := r.string
  let m := parseMeas payload
  let (x, temps) := (s.funcX n).temps s.up nr.p m
  let m := { m with cells := m.cells.take nr.cells, kind := if nr.kind = 1 then m.kind else 0 }
  let vs := violations r (s.effBounds r) nr.p nr.firstCell temps m
  let keys := vs.map fun v => (v.1, v.2.1)
  -- A run belongs to this node if its key is one of the node's cells, sensors or its TH1 (R329).
  let mine (k : Nat × Nat) : Bool :=
    ((k.1 == 1 || k.1 == 2) && decide (nr.firstCell ≤ k.2) && decide (k.2 < nr.firstCell + nr.cells) && nr.kind == 0) ||
    ((k.1 == 3 || k.1 == 4) && k.2 % 256 == nr.p) || (decide (6 ≤ k.1) && nr.kind == 1)
  let count (k : Nat × Nat) : Nat := min 255 ((match x.runs.find? (fun e => e.1 == k) with | some e => e.2 | none => 0) + 1)
  let runs := (x.runs.filter fun e => !mine e.1) ++ keys.map fun k => (k, count k)
  let old := x.nodes.find? fun e => e.p == nr.p
  let good := if vs.isEmpty then min 255 ((match old with | some e => e.good | none => 0) + 1) else 0
  let node : IslandNode := { p := nr.p, no := no, conds := vs.map Prod.fst, good := good, aged := false }
  let s := s.setFuncX n fun _ => { x with runs := runs, nodes := (x.nodes.filter fun e => e.p != nr.p) ++ [node] }
  let fired := vs.filter fun (v : Nat × Nat × Int) => v.1 == 5 || Nat.ble 2 (count (v.1, v.2.1))
  let first : Option (Nat × Nat × Int) := (List.range 9).findSome? fun c => fired.find? fun v => v.1 == c
  let s : State := match first with
    | some v => s.lockFunc n v.1 v.2.1 (bitsOfInt 32 v.2.2)
    | none => s
  let ready := (s.nodesOf n).all fun q => (s.funcX n).nodes.any fun e => e.p == q.p && decide (2 ≤ e.good)
  let s := if s.funcState n = 1 ∧ ready = true then (s.wrBits (Obj.func.funcStatus n) 3 0 2).refreshSq else s
  s.showPresent n

/-- ISLAND_SAMPLE (R327, R329, R338): acceptance, evaluation and the cores' comparison. -/
def islandSample (m : IslandSample) (s : State) : State :=
  if s.island.running then
    let n := m.string.val
    let p := m.p.toNat
    match s.safetyOf n with
    | none => s
    | some r =>
      if m.crcOk then
        match s.nodeRec n p with
        | none => s.rejectSample n p 2
        | some nr =>
          let last := (s.funcX n).nodes.find? fun e => e.p == p
          let newer := match last with
            | some e => decide (0 < signedOf 32 (m.no.toNat + 2 ^ 32 - e.no))
            | none => true
          if newer then
            let s := s.islandAccept r nr m.no.toNat m.payload
            if m.coresAgree then s else s.xcheck 1
          else s.rejectSample n p 3
      else s.rejectSample n p 1
  else s

def execIslandSample (m : IslandSample) (s : State) : Host.Outcome State Fault Refusal := s.live (islandSample m)

/-- DATA_AGE_EXPIRY (R329 cause 0x09): 3 s without an accepted sample of a configured node. -/
def dataAgeExpiry (n p : Nat) (s : State) : State :=
  if s.island.running && (s.nodeRec n p).isSome && (s.safetyOf n).isSome then
    let x := s.funcX n
    let node : IslandNode := match x.nodes.find? (fun e => e.p == p) with
      | some e => { e with aged := true }
      | none => { p := p, no := 0, conds := [], good := 0, aged := true }
    let s := if (x.nodes.any fun e => e.p == p) then
        s.setFuncX n fun x => { x with nodes := x.nodes.map fun e => if e.p = p then node else e } else s
    (s.lockFunc n 9 p 0).showPresent n
  else s

def execDataAgeExpiry (node : NodeId) (s : State) : Host.Outcome State Fault Refusal := s.live (dataAgeExpiry node.string node.p)

/-- ISLAND_FAULT (R325, R329 cause 0x05): a FAULT recognised at W.n or E.n violates the function at once. -/
def State.islandFault (n pos : Nat) (s : State) : State :=
  if s.island.running then (s.lockFunc n 5 pos 0).showPresent n else s

/-- DERATE_ENFORCED (R302, R304, R330): the grace expires; the island takes up the tightened bounds. -/
def execDerateEnforced (string : Fin 256) (s : State) : Host.Outcome State Fault Refusal :=
  s.live fun s => (derateEnforced string s).tighten string

/-! ### The partner island (R332, R337) -/

/-- ISLAND_MESSAGE_RECEIVE: the partner's function states act under R332, its lockout notice under R337 cause 2. -/
def islandMessageReceive (m : IslandMessage) (s : State) : State :=
  let s := s.each m.funcs fun f s =>
    let n := f.1.val
    let r : FuncReport := ⟨f.2.1.val, f.2.2.1.val, f.2.2.2⟩
    let old := (s.funcX n).partner
    let wasLocked := match old with | some o => o.state == 3 && o.cause != 10 | none => false
    let s := s.setFuncX n fun x => { x with partner := some r }
    let s := if r.state = 3 ∧ r.cause ≠ 10 ∧ wasLocked = false ∧ s.island.running = true then s.lockFunc n 10 0xFFFF 0 else s
    s.showPresent n
  let old := s.island.notice
  let new := m.lockout.map fun x => (x.1.toNat, x.2.toNat)
  let s := s.modIsland fun u => { u with notice := new }
  match new with
  | none => s.lockoutCause 2 false 0
  | some (rec_, pres) =>
    let other (v : Nat) : Bool := v % 4 != 0 || decide (8 ≤ v)
    let s := if old.isNone && other rec_ then s.lockoutCause 2 true 0 else s
    if other pres then s else s.lockoutCause 2 false 0

/-- What the island holds present of its partner ends when the partner is declared failed (R332, R337). -/
def State.islandPartnerLost (s : State) : State :=
  let s := s.modIsland fun u => { u with funcs := u.funcs.map fun f => (f.1, { f.2 with partner := none }), notice := none }
  (s.each (s.safetyStrings.map SafetyString.string) State.showPresent).lockoutCause 2 false 0

/-- The report sent to the partner island in every protection cycle (R332, R337). -/
def State.islandReport (s : State) : State :=
  if s.pairRole && s.island.running then
    let fs := s.safetyStrings.map fun r => (r.string, (s.funcState r.string, s.bits (Obj.func.funcStatus r.string) 23 16,
      !(s.funcCauses r.string false).isEmpty))
    let mask := s.island.causes.foldl (fun a b => a + 2 ^ b) 0
    s.emit (.islandReport fs (if s.sys.lockoutLatch then some (s.bits Obj.safe.lockoutCause 4 0, mask) else none))
  else s

/-! ### Safety inputs (R333, R334, R449) -/

/-- The value of an SI channel (R333), and cause 0 of R337 with it. -/
def State.siValue (c : Nat) (s : State) : State :=
  let a := Obj.si.siStatus c
  let v := s.bit a 0 && s.bit a 1 && s.bits a 7 4 == 0
  let s := (s.wrBit a 2 v).wrBit Obj.safe.siValue c v
  match s.safetyGlobal with
  | none => s
  | some g =>
    let low := (List.range 32).filter fun k => g.tripInputs / 2 ^ k % 2 == 1 && !s.bit Obj.safe.siValue k
    match low with
    | [] => s.lockoutCause 0 false 0
    | k :: _ => s.lockoutCause 0 true k

/-- SI_INPUT_CHANGE: an internal channel changes after its filter (R333, R450). -/
def siInputChange (c : Nat) (second level : Bool) (s : State) : State :=
  (s.wrBit (Obj.si.siStatus c) second.toNat level).siValue c

def execSiInputChange (channel : Fin 32) (second level : Bool) (s : State) : Host.Outcome State Fault Refusal :=
  s.live (siInputChange channel second level)

/-- Latches an SI fault: 1 discrepancy, 2 test pulse A, 3 test pulse B (R333, R355). -/
def State.siFault (c code : Nat) (s : State) : State :=
  let a := Obj.si.siStatus c
  if s.bits a 7 4 = 0 then
    let s := (s.wrBits a 7 4 code).modIsland fun u => { u with sis := upsert c ⟨s.up⟩ u.sis }
    (((s.flag (Obj.si.siFlags c) 0).flag Obj.safe.safeFlags 3).raise 0x128 c code 0 0).siValue c
  else s

/-- SI_DISCREPANCY (R333): the internal channels have differed for longer than DISCREPANCY. -/
def siDiscrepancy (c : Nat) (s : State) : State :=
  let a := Obj.si.siStatus c
  if s.bit a 0 != s.bit a 1 then s.siFault c 1 else s

def execSiDiscrepancy (channel : Fin 32) (s : State) : Host.Outcome State Fault Refusal := s.live (siDiscrepancy channel)

/-- TEST of an SI record (R58), 1 where none is given. -/
def State.siTested (s : State) (c : Nat) : Bool :=
  match s.catOf with
  | some k => match k.safetySi.find? (fun r => r.channel == c) with | some r => r.test | none => true
  | none => false

/-- SI_TEST_PULSE (R333, R449): with TEST 1 a source pulses; a pulse not returned latches a fault. -/
def siTestPulse (c : Nat) (second returned : Bool) (s : State) : State :=
  if s.siTested c then if returned then s else s.siFault c (2 + second.toNat) else s

def execSiTestPulse (channel : Fin 32) (second returned : Bool) (s : State) : Host.Outcome State Fault Refusal :=
  s.live (siTestPulse channel second returned)

/-- SI_FAULT_CLEAR (R333): both channels have been low together for 50 ms and passed their pulses; event 0x129. -/
def siFaultClear (c : Nat) (s : State) : State :=
  let a := Obj.si.siStatus c
  if s.bits a 7 4 = 0 then s
  else
    let t := (lookupD ⟨s.up⟩ s.island.sis c).faultAt
    ((s.wrBits a 7 4 0).raise 0x129 c (min 0xFFFFFFFF ((s.up - t) / 1000000)) 0 0).siValue c

def execSiFaultClear (channel : Fin 32) (s : State) : Host.Outcome State Fault Refusal := s.live (siFaultClear channel)

/-- A LOCKED function named by the pulse's channel: RUNNING where no cause is present, else event 0x122 (R335). -/
def State.resetFunc (n c : Nat) (s : State) : State :=
  if s.funcState n = 3 then
    match s.funcCauses n true with
    | k :: _ => (((s.flag (Obj.func.funcFlags n) 1).flag Obj.safe.safeFlags 8).raise 0x122 n k c 0)
    | [] =>
      let s := s.setFuncX n fun x => { x with runs := [] }
      ((s.wrBits (Obj.func.funcStatus n) 3 0 2).raise 0x121 n c
        (min 0xFFFFFFFF ((s.now - s.rd64 (Obj.func.lockTime n)) / 1000000000)) 0).showLocked.refreshSq
  else s

/-- RESET_EDGE (R23 (i), R337): the latch clears in LOCKOUT only, with every cause absent. -/
def State.resetEdge (c : Nat) (s : State) : State :=
  if s.sys.mode = .boot then s
  else if s.sys.trans != .none then
    { s with sys := { s.sys with latched := s.sys.latched ++ [(Trigger.resetEdge, c, 0)] } }.raise 0x008 s.unit Trigger.resetEdge.code
      s.sys.trans.code 0
  else if s.sys.mode = .lockout then
    match (List.range 5).filter fun b => s.island.causes.contains b with
    | b :: _ => s.raise 0x00B s.unit c b 0
    | [] =>
      let t := s.island.lockedAt
      let s := { s with sys := { s.sys with lockoutLatch := false, resetDue := true } }
      ((s.wrBit Obj.safe.safeStatus 0 false).raise 0x125 0 (min 0xFFFFFFFF ((s.now - t) / 1000000000)) 0 0).refreshSq
  else s

/-- A reset pulse's limits: a low of at least 50 ms, a high of 50 to 3,000 ms (R334). -/
def pulseValid (low high : Nat) : Bool := decide (50 ≤ low) && decide (50 ≤ high) && decide (high ≤ 3000)

/-- RESET_PULSE (R334): the falling edge that ends a pulse, with its times in ms. -/
def resetPulse (c low high : Nat) (s : State) : State :=
  let s := s.wr (Obj.si.siLastPulse c) (w32 (min 65535 low * 65536 + min 65535 high))
  let a := Obj.si.siPulses c
  if pulseValid low high then
    let s := (s.wrBits a 15 0 (satAdd 65535 (s.bits a 15 0) 1)).flag (Obj.si.siFlags c) 1
    if s.island.running then
      let s := s.each (s.safetyStrings.filter fun r => r.reset == c) fun r s => s.resetFunc r.string c
      match s.safetyGlobal with
      | some g => if g.lockoutReset = c then s.resetEdge c else s
      | none => s
    else s
  else
    ((s.wrBits a 31 16 (satAdd 65535 (s.bits a 31 16) 1)).flag (Obj.si.siFlags c) 2).raise 0x123 c
      (min 0xFFFFFFFF high) (min 0xFFFFFFFF low) 0

def execResetPulse (channel : Fin 32) (lowMs highMs : Nat) (s : State) : Host.Outcome State Fault Refusal :=
  s.live (resetPulse channel lowMs highMs)

/-! ### Output stages (R336, R451) -/

/-- SQ_STAGE_FAULT (R336): the channel latches off; code 1 applies only where TEST is 1. -/
def sqStageFault (q code : Nat) (s : State) : State :=
  let a := Obj.sq.sqStatus q
  if code = 0 then s
  else
    let s := ((s.flag a 2).wrBits a 11 8 code).flag Obj.safe.sqLatched q
    let s := ((s.flag (Obj.sq.sqFlags q) 0).flag Obj.safe.safeFlags 2).count (Obj.sq.sqLatches q) 1
    (s.raise 0x126 q code 0 0).refreshSq

def execSqStageFault (channel : Fin 32) (code : Fin 6) (s : State) : Host.Outcome State Fault Refusal :=
  s.live (sqStageFault channel code)

/-- TEST of an SQ record (R58), 1 where none is given. -/
def State.sqTested (s : State) (q : Nat) : Bool :=
  match s.catOf with
  | some k => match k.safetySq.find? (fun r => r.channel == q) with | some r => r.test | none => true
  | none => false

/-- SQ_TEST_PULSE (R451): an on channel with TEST 1 gets an off-pulse, alternating between its switches. -/
def sqTestPulse (q : Nat) (s : State) : State :=
  if s.sqTested q && s.bit (Obj.sq.sqStatus q) 1 then
    let b := (s.sqX q).second
    (s.emit (.sqPulse q b)).setSqX q fun x => { x with second := !b }
  else s

def execSqTestPulse (channel : Fin 32) (s : State) : Host.Outcome State Fault Refusal := s.live (sqTestPulse channel)

abbrev SqCmd.rearm : Nat := 1

/-- SQ_REARM (R336): a 10 ms self-test with the output off. -/
def sqRearm (q : Nat) (s : State) : State :=
  if (s.sqX q).rearming then s.refuse (Obj.sq.cmdStatus q) SqCmd.rearm Oc.busy
  else ((s.setSqX q fun x => { x with rearming := true }).accept (Obj.sq.cmdStatus q) SqCmd.rearm Oc.inProgress).refreshSq

def execSqRearm (channel : Fin 32) (s : State) : Host.Outcome State Fault Refusal := s.live (sqRearm channel)

/-- SQ_REARM_DONE (R336): a pass releases the latch with event 0x127; a fail leaves it latched. -/
def sqRearmDone (q : Nat) (passed : Bool) (s : State) : State :=
  if (s.sqX q).rearming then
    let a := Obj.sq.sqStatus q
    let s := s.setSqX q fun x => { x with rearming := false }
    let s := if passed then
        ((((s.wrBit a 2 false).wrBits a 11 8 0).wrBit Obj.safe.sqLatched q false).flag (Obj.sq.sqFlags q) 1).setOutcome
          (Obj.sq.cmdStatus q) Oc.done
      else s.setOutcome (Obj.sq.cmdStatus q) Oc.selfTestFailed
    (s.raise 0x127 q passed.toNat 0 0).refreshSq
  else s

def execSqRearmDone (channel : Fin 32) (passed : Bool) (s : State) : Host.Outcome State Fault Refusal :=
  s.live (sqRearmDone channel passed)

/-! ### Start of the island (R339, R340, R350) -/

/-- The island stops and all SQ go off (R339): BOOT, SUPPLY_LOST. -/
def State.islandStop (s : State) : State := (s.modIsland fun u => { u with running := false }).refreshSq

/-- SI status bits that the Catalogue gives (R355). -/
def State.showSi (s : State) : State :=
  match s.catOf with
  | none => s
  | some c => s.each (List.range 32) fun k s =>
    let a := Obj.si.siStatus k
    let f := c.safetyStrings.any fun r => r.reset == k
    let l := c.safetyGlobal.lockoutReset == k
    let t := c.safetyGlobal.tripInputs / 2 ^ k % 2 == 1
    (((s.wrBit a 10 f).wrBit a 9 l).wrBit a 8 t).wrBit a 3 (f || l || t || c.safetySi.any fun r => r.channel == k)

/-- Takes up the safety parameters of the Catalogue in force (R339, R340): functions not LOCKED are PROVING where
`proving`, else keep their states; those of removed strings are deleted. -/
def State.islandTake (proving : Bool) (s : State) : State :=
  let s := s.each (List.range 256) fun n s =>
    let a := Obj.func.funcStatus n
    match s.safetyOf n with
    | none =>
      if s.rd a = 0 then s
      else (State.clearAll ((List.range 9).map fun k => a + k) s).modIsland fun u => { u with funcs := eraseKey n u.funcs }
    | some r =>
      let st := s.funcState n
      let s := if st = 3 then s else if proving || st == 0 then s.wrBits a 3 0 1 else s
      let s := if proving then s.setFuncX n fun _ => .initial else s
      let (c, d) := s.effBounds r
      ((s.wrBits a 15 8 r.reset).wr (Obj.func.iChgEff n) (w32 c)).wr (Obj.func.iDisEff n) (w32 d)
  let s := match s.catOf with
    | some c => (s.flag Obj.safe.safeStatus 4).wr Obj.safe.safetyCrc (w32 c.head.safetyCrc)
    | none => s.wrBit Obj.safe.safeStatus 4 false
  s.showSi.showLocked.refreshSq

/-- The island starts after BOOT (R340): a full self-test of its cores passes, and the causes of R337 are read anew. -/
def State.islandStart (s : State) : State :=
  let s := (s.modIsland fun u => { u with running := true, causes := u.causes.filter fun b => b != 4 && b != 3 && b != 1 }).flag
    Obj.safe.safeStatus 3
  let s := (s.wrBit Obj.safe.safeStatus 6 s.island.key.isSome).wrBit Obj.safe.safeStatus 0 s.sys.lockoutLatch
  ((s.islandTake true).setCause 0 false).siValue 0

end Sys2Proof.Machine
end

