-- ==== Sys2Proof/Machine/Session.lean ====
section
/-!
DEFINITION. SAFE_CMD, the safety password, authorised safety sessions and the change log (R342, R344 to R349, R353).
-/

namespace Sys2Proof.Machine

abbrev SafeCmd.trip : Nat := 1
abbrev SafeCmd.newNonce : Nat := 2
abbrev SafeCmd.open_ : Nat := 3
abbrev SafeCmd.close : Nat := 4
abbrev SafeCmd.setPassword : Nat := 5
abbrev SafeCmd.clearPassword : Nat := 6
abbrev SafeCmd.clear : Nat := 7

/-- SAFE_TRIP (R337, R342): SAFE_CMD TRIP declares a module-wide lockout; its cause is absent at once after. -/
def safeTrip (s : State) : State :=
  let s := s.accept Obj.safe.cmdStatus SafeCmd.trip Oc.done
  (s.setCause 1 false).declareLockout 1 0

def execSafeTrip (s : State) : Host.Outcome State Fault Refusal := s.live safeTrip

/-! ### The change log (R348, R349) -/

/-- The words 0 to 6 of an entry (R348). -/
def LogEntry.words (e : LogEntry) : List Word :=
  [w32 e.seq, w32 e.time, w32 (e.time / 2 ^ 32), w32 e.user, w32 (e.kind * 256 + e.state), w32 e.old, w32 e.new]

/-- CHAIN over words 0 to 6 and the previous CHAIN (R348). -/
def LogEntry.chained (prev : Nat) (e : LogEntry) : LogEntry :=
  { e with chain := crc32c (bytesOfWords (e.words ++ [w32 prev])) }

/-- Entries with a SEQ above LOG_ACK (R349). -/
def State.unacked (s : State) : Nat := (s.rd Obj.safe.logNewest).toNat - (s.rd Obj.safe.logAck).toNat

/-- LOG_STATUS (R353). -/
def State.showLog (s : State) : State :=
  s.wr Obj.safe.logStatus (w32 (s.island.log.length * 65536 + min 65535 s.unacked))

/-- SAFETY_CHANGE_LOGGED (R348, R349): a new entry, with events 0x12E, 0x12F and 0x130. -/
def State.appendLog (user kind state old new : Nat) (s : State) : State :=
  let seq := (s.rd Obj.safe.logNewest).toNat + 1
  let prev := match s.island.log with | e :: _ => e.chain | [] => 0
  let e := LogEntry.chained prev
    { seq := seq, time := s.now, user := user, kind := kind, state := state, old := old, new := new, chain := 0 }
  let past := if 4096 ≤ s.island.log.length then s.island.log.getLast?.map LogEntry.seq else none
  let s := (s.modIsland fun u => { u with log := (e :: u.log).take 4096 }).wr Obj.safe.logNewest (w32 seq)
  let s := s.showLog.raise 0x12E 0 seq (kind + 256 * state) user
  let s := if s.unacked = 3686 then (s.flag Obj.safe.safeFlags 6).raise 0x12F 0 s.unacked 0 0 else s
  match past with
  | some q => (s.flag Obj.safe.safeFlags 5).raise 0x130 0 q 0 0
  | none => s

/-- Rewrites the STATE and CHAIN of the newest pending safety-section entry (R348): 2 completed, 3 withdrawn. -/
def State.settleLog (state : Nat) (s : State) : State :=
  let rec go : List LogEntry → List LogEntry
    | [] => []
    | e :: t =>
      if e.kind = 1 ∧ e.state = 1 then
        LogEntry.chained (match t with | p :: _ => p.chain | [] => 0) { e with state := state } :: t
      else e :: go t
  match s.island.log.find? (fun e => e.kind == 1 && e.state == 1) with
  | some e => (s.modIsland fun u => { u with log := go u.log }).raise 0x12E 0 e.seq (1 + 256 * state) e.user
  | none => s

/-! ### Authorised sessions (R345 to R347) -/

/-- Bytes of items kept for a session. -/
def State.sessBytes (s : State) (session a n : Nat) : List Byte :=
  bytesOfWords ((List.range n).map fun i => s.rd (sessKey session (a + i)))

/-- M of R345 with the nonce given: NONCE, AUTH_USER, SERIAL. -/
def State.authMessage (s : State) (session : Nat) (nonce : List Byte) : List Byte :=
  nonce ++ s.sessBytes session Obj.safe.authUser 1 ++ bytesOfWords (s.rdList Obj.mod.serial 4)

def State.authUser (s : State) (session : Nat) : Nat := (s.rd (sessKey session Obj.safe.authUser)).toNat

/-- The port of an exchange session (R548): 0 to 7 plant, 8 SV. -/
def State.sessPort (s : State) (session : Nat) : Nat := s.bits (Obj.sess.sessStatus session) 7 4

/-- The session items as the safety session stands (R353, R354). -/
def State.showSession (s : State) : State :=
  match s.island.session with
  | none => ((s.wrBits Obj.safe.session 7 0 0xFF).wr Obj.safe.sessionUser 0).wrBit Obj.safe.safeStatus 5 false
  | some x => ((s.wrBits Obj.safe.session 7 0 x.session).wr Obj.safe.sessionUser (w32 x.user)).wrBit Obj.safe.safeStatus 5 true

/-- Ends the authorised session (R346): cause 1 CLOSE, 2 idle, 3 exchange session ended, 4 restart; event 0x12C. -/
def State.endSafetySession (cause : Nat) (s : State) : State :=
  match s.island.session with
  | none => s
  | some x => (s.modIsland fun u => { u with session := none }).showSession.raise 0x12C 0 x.user cause 0

/-- A write by the authorised session restarts its idle time (R346). -/
def State.touchSafety (session : Nat) (s : State) : State :=
  s.modIsland fun u => { u with session := u.session.map fun x => if x.session = session then { x with lastWrite := s.up } else x }

/-- Whether an exchange session holds the authorisation, fully. -/
def State.authorised (s : State) (session : Nat) : Bool :=
  match s.island.session with | some x => x.session == session && !x.passwordOnly | none => false

/-- NEW_NONCE (R345): a nonce valid for one OPEN within 60 s. -/
def newNonce (session : Nat) (s : State) : State :=
  let b := Config.randomBytes s.free 48
  let s := { s with free := s.free + 1 }
  let s := (s.modIsland fun u => { u with nonce := some (b, s.up, session) }).wrList Obj.safe.nonce (wordsOfBytes b 12)
  s.accept Obj.safe.cmdStatus SafeCmd.newNonce Oc.done

def execNewNonce (session : Fin 68) (s : State) : Host.Outcome State Fault Refusal := s.live (newNonce session)

/-- A failed OPEN (R345): NOT_AUTHORISED and event 0x12D; five within 10 min block every session. -/
def State.authFailed (session cause : Nat) (counts : Bool) (s : State) : State :=
  let s := ((s.refuse Obj.safe.cmdStatus SafeCmd.open_ Oc.notAuthorised).flag Obj.safe.safeFlags 4).raise 0x12D 0
    (s.authUser session) cause 0
  if counts then
    let l := s.up :: s.island.fails.filter fun t => decide (s.up < t + 600000000000)
    (s.modIsland fun u => { u with fails := l, blocked := u.blocked || decide (5 ≤ l.length) }).wrBits Obj.safe.session 15 8 l.length
  else s

/-- The nonce that a session may use now (R345). -/
def State.freshNonce (s : State) (session : Nat) : Option (List Byte) :=
  match s.island.nonce with
  | some (b, t, q) => if q = session ∧ s.up ≤ t + 60000000000 then some b else none
  | none => none

/-- SAFE_OPEN (R345 to R347): MAC under K and signature under slot 5; without K only over SV, for SET_PASSWORD alone. -/
def safeOpen (session : Nat) (s : State) : State :=
  if s.island.session.isSome then s.refuse Obj.safe.cmdStatus SafeCmd.open_ Oc.busy
  else if s.island.blocked then s.authFailed session 4 false
  else
    match (if s.bits (Obj.key.keyStatus 5) 7 4 = 0 then none else s.island.safetyKey) with
    | none => s.refuse Obj.safe.cmdStatus SafeCmd.open_ Oc.notReady
    | some pub =>
      if s.island.key.isNone && s.sessPort session != 8 then s.authFailed session 5 true
      else
        match s.freshNonce session with
        | none => s.authFailed session 3 true
        | some b =>
          let msg := s.authMessage session b
          let s := s.modIsland fun u => { u with nonce := none }
          let mac := s.sessBytes session Obj.safe.authMac 12
          let macOk := match s.island.key with | some k => Config.hmac384 k msg == digestAt mac 0 | none => true
          if macOk = false then s.authFailed session 1 true
          else if Config.ecdsaVerify pub msg (s.sessBytes session Obj.safe.authSig 24) = false then s.authFailed session 2 true
          else
            let x : SafetySession := ⟨session, s.authUser session, s.up, s.island.key.isNone⟩
            let s := (s.modIsland fun u => { u with session := some x }).showSession
            (s.accept Obj.safe.cmdStatus SafeCmd.open_ Oc.done).raise 0x12B 0 x.user session (s.sessPort session)

def execSafeOpen (session : Fin 68) (s : State) : Host.Outcome State Fault Refusal := s.live (safeOpen session)

/-- SAFE_CLOSE (R346). -/
def safeClose (session : Nat) (s : State) : State :=
  if (match s.island.session with | some x => x.session == session | none => false) then
    (s.accept Obj.safe.cmdStatus SafeCmd.close Oc.done).endSafetySession 1
  else s.refuse Obj.safe.cmdStatus SafeCmd.close Oc.notAuthorised

def execSafeClose (session : Fin 68) (s : State) : Host.Outcome State Fault Refusal := s.live (safeClose session)

/-- SET_PASSWORD (R347, R348): replaces K by NEW_KEY, logged first; a session opened without K then ends. -/
def setPassword (session : Nat) (s : State) : State :=
  match s.island.session with
  | some x =>
    if x.session = session then
      let s := (s.touchSafety session).appendLog x.user 2 2 0 0
      let k := s.sessBytes session Obj.safe.newKey 12
      let s := ((s.modIsland fun u => { u with key := some k }).flag Obj.safe.safeStatus 6).accept Obj.safe.cmdStatus
        SafeCmd.setPassword Oc.done
      if x.passwordOnly then s.endSafetySession 1 else s
    else s.refuse Obj.safe.cmdStatus SafeCmd.setPassword Oc.notAuthorised
  | none => s.refuse Obj.safe.cmdStatus SafeCmd.setPassword Oc.notAuthorised

def execSetPassword (session : Fin 68) (s : State) : Host.Outcome State Fault Refusal := s.live (setPassword session)

/-- CLEAR_PASSWORD (R347): over SV, in LOCKOUT, with a signature over a fresh nonce and LOCKOUT_RESET at 1. -/
def clearPassword (session : Nat) (s : State) : State :=
  let reset := match s.safetyGlobal with | some g => s.bit Obj.safe.siValue g.lockoutReset | none => false
  let sig := match s.freshNonce session, s.island.safetyKey with
    | some b, some pub => Config.ecdsaVerify pub (s.authMessage session b) (s.sessBytes session Obj.safe.authSig 24)
    | _, _ => false
  let s := s.modIsland fun u => { u with nonce := none }
  if s.sessPort session = 8 ∧ s.sys.mode = .lockout ∧ reset = true ∧ sig = true then
    let s := s.appendLog (s.authUser session) 3 2 0 0
    ((s.modIsland fun u => { u with key := none }).wrBit Obj.safe.safeStatus 6 false).accept Obj.safe.cmdStatus
      SafeCmd.clearPassword Oc.done
  else s.refuse Obj.safe.cmdStatus SafeCmd.clearPassword Oc.notAuthorised

def execClearPassword (session : Fin 68) (s : State) : Host.Outcome State Fault Refusal := s.live (clearPassword session)

/-- SAFE_CMD CLEAR_COUNTERS: the counters of space 0x0B (R353, R355, R356). -/
def safeClearCounters (s : State) : State :=
  let l := [Obj.safe.lockouts, Obj.safe.xchecks] ++ (List.range 32).flatMap (fun c => [Obj.si.siPulses c, Obj.sq.sqLatches c]) ++
    (List.range 256).map Obj.func.locks
  (State.clearAll l s).accept Obj.safe.cmdStatus SafeCmd.clear Oc.done

def execSafeClearCounters (s : State) : Host.Outcome State Fault Refusal := s.live safeClearCounters

/-- SESSION_IDLE (R346): no write by the authorised session for SESSION_IDLE. -/
def execSessionIdle (s : State) : Host.Outcome State Fault Refusal := s.live (State.endSafetySession 2)

/-- AUTH_BLOCK_EXPIRY (R345): the 10 min block on OPEN ends. -/
def authBlockExpiry (s : State) : State :=
  (s.modIsland fun u => { u with blocked := false, fails := [] }).wrBits Obj.safe.session 15 8 0

def execAuthBlockExpiry (s : State) : Host.Outcome State Fault Refusal := s.live authBlockExpiry

/-- SAFE_CFG_WRITE (R348, R353): SESSION_IDLE 1 to 60 min, in the authorised session, logged first. -/
def safeCfgWrite (session : Nat) (w : Word) (s : State) : State :=
  let v := bitsOf 7 0 w
  if s.authorised session && decide (1 ≤ v) && decide (v ≤ 60) then
    let s := (s.touchSafety session).appendLog (s.rd Obj.safe.sessionUser).toNat 4 2 (s.rd Obj.safe.safeCfg).toNat v
    s.wr Obj.safe.safeCfg (w32 v)
  else s

def execSafeCfgWrite (session : Fin 68) (value : BitVec 32) (s : State) : Host.Outcome State Fault Refusal :=
  s.live (safeCfgWrite session value)

/-- LOG_ACK_WRITE (R348, R349): accepts values from the current one to the newest SEQ, logged first. -/
def logAckWrite (session : Nat) (w : Word) (s : State) : State :=
  let old := s.rd Obj.safe.logAck
  if s.authorised session && decide (old.toNat ≤ w.toNat) && decide (w.toNat ≤ (s.rd Obj.safe.logNewest).toNat) then
    let s := (s.touchSafety session).appendLog (s.rd Obj.safe.sessionUser).toNat 5 2 old.toNat w.toNat
    (s.wr Obj.safe.logAck w).showLog
  else s

def execLogAckWrite (session : Fin 68) (value : BitVec 32) (s : State) : Host.Outcome State Fault Refusal :=
  s.live (logAckWrite session value)

end Sys2Proof.Machine
end

