-- ==== Sys2Proof/Machine/SchedBase.lean ====
section
/-!
DEFINITION. Tasks and program data: accessors, triggers of event tasks (R364, R365), the staging of host writes (R370,
R390) and wake sources (R22, R23 (k)).
-/

namespace Sys2Proof.Machine

def State.modSched (f : SchedUnit → SchedUnit) (s : State) : State := { s with sched := f s.sched }
def State.taskX (s : State) (t : Nat) : TaskX := lookupD .initial s.sched.tasks t
def State.setTaskX (t : Nat) (f : TaskX → TaskX) (s : State) : State :=
  s.modSched fun u => { u with tasks := upsert t (f (s.taskX t)) u.tasks }

/-- The configured tasks. -/
def State.tasks (s : State) : List TaskRec := match s.catOf with | some c => c.tasks | none => []

def State.taskRec (s : State) (t : Nat) : Option TaskRec := match s.catOf with | some c => c.taskRec t | none => none

/-- Task time, µs (R361). -/
def State.taskTime (s : State) : Nat := s.rd64 Obj.sched.taskTime

/-- PROT_PERIOD, µs. -/
def State.protUs (s : State) : Nat := s.protPeriod / 1000

/-- The stretch factor of cyclic plant tasks in force (R306, MOD_THERM.STRETCH). -/
def State.stretch (s : State) : Nat := match s.bits Obj.mthm.modTherm 11 8 with | 0 => 1 | 1 => 2 | _ => 4

/-- Whether a task's class is released in the present mode (R359, R379), or by a joining module that computes from its copy (R505). -/
def State.releasable (s : State) (r : TaskRec) : Bool :=
  s.sys.mode != .boot && s.sched.loaded &&
    (r.cls == 0 || ((s.sys.mode.running || (match s.red.join with | some j => j.gotModule | none => false)) && !s.sched.draining))

/-- STATE of TASK_STATUS (R393) as the task stands. -/
def State.showTask (t : Nat) (s : State) : State :=
  match s.taskRec t with
  | none => s
  | some r =>
    let a := Obj.task.taskStatus t
    let x := s.taskX t
    let st := if s.bit a 13 then 7
      else match x.job with
        | some j => if j.moved && !j.finished then 6 else if j.finished then 5 else 4
        | none => if s.releasable r then 2 else 1
    let f := if r.cls = 1 ∧ r.kind = 0 then s.bits Obj.mthm.modTherm 11 8 else 0
    ((((((s.wrBits a 3 0 st).wrBits a 14 14 r.kind).wrBits a 15 15 r.cls).wrBits a 17 16 f).wrBits a 23 19 r.priority).wrBits
      a 25 24 r.core)

/-! ### Program variables -/

/-- The images of the running Catalogue, by IMAGE_CRC. -/
def State.images (s : State) : List Nat := match s.catOf with | some c => c.codes.map CodeRec.imageCrc | none => []

/-- The RETAINED record of a variable. -/
def State.retainedRec (s : State) (v : Nat) : Option RetainedRec :=
  match s.catOf with | some c => c.retained.find? fun r => r.var == v | none => none

/-- What the task images declare of an exported variable (R390). -/
def State.varDecl (s : State) (v : Nat) : Option Config.VarDecl := Config.varDecl s.images v

/-- The committed bytes of a variable: as last written, else as INITIAL gives them. -/
def State.varBytes (s : State) (v : Nat) : List Byte :=
  match s.sched.vars.find? (fun x => x.1 == v) with
  | some x => x.2
  | none => match s.catOf with | some c => Config.initialValue s.images c.initial v | none => []

/-- A byte string overwritten from an offset, filled with zeros up to it. -/
def overlay (old : List Byte) (off : Nat) (new : List Byte) : List Byte :=
  (old.take off ++ List.replicate (off - old.length) 0) ++ new ++ old.drop (off + new.length)

/-- A write to a program variable. -/
def State.writeVar (v off : Nat) (b : List Byte) (s : State) : State :=
  let new := overlay (s.varBytes v) off b
  s.modSched fun u => { u with vars := upsert v new u.vars, applied := u.applied ++ Config.writeBytes v off b }

/-- The word of the variable window at an index (R389, R390): VAR_SELECT and VAR_OFFSET are the session's. -/
def State.varWord (s : State) (session k : Nat) : Word :=
  let v := (s.rd (sessKey session Obj.sched.varSelect)).toNat
  let off := (s.rd (sessKey session Obj.sched.varOffset)).toNat + 4 * k
  match s.varDecl v with
  | some d => if off < d.size then w32 (leAt ((s.varBytes v).take d.size) off 4) else 0
  | none => 0

/-! ### Host writes that take effect at a commit point (R370, R490) -/

/-- An agreed input leaves for the partner (R490): the active module sends it. -/
def State.agree (i : AgreeInput) (s : State) : State := if s.sys.mode = .active then s.xSend (.agreeInput i) else s

/-- Stages a pair-agreed host write; the active module's agreement carries it with its boundary (R490). -/
def State.stageHost (session : Nat) (w : JobWrite) (s : State) : State :=
  (s.modSched fun u => { u with hostStaged := u.hostStaged ++ [⟨session, s.up, none, none, .job w⟩] }).agree
    (.write (w32 s.applyCycle) (.job w))

/-! ### Triggers of event tasks (R364, R365) -/

/-- A confirmed trigger for one event task; beyond the first it merges, with event 0x144. -/
def State.triggerTask (r : TaskRec) (s : State) : State :=
  let n := (s.taskX r.task).triggers + 1
  let s := s.setTaskX r.task fun x => { x with triggers := n }
  if n = 1 then s
  else ((s.count (Obj.task.eventsMerged r.task) 1).flag (Obj.task.taskFlags r.task) 4).raise 0x144 r.task (n - 1) (r.eventSrc / 2 ^ 24) 0

/-- EVENT_TRIGGER: a trigger of a source, as EVENT_SRC names it. -/
def State.trigger (kind low : Nat) (s : State) : State :=
  s.each (s.tasks.filter fun r => r.kind == 1 && r.eventSrc / 2 ^ 24 == kind && (match kind with
    | 1 => r.eventSrc % 256 == low
    | 2 => r.eventSrc % 32 == low
    | _ => r.eventSrc % 512 == low)) State.triggerTask

/-- Event-code triggers since each task last looked (R365): matching records by their record number; beyond 16 they are
counted in EVENTS_MERGED. The agreement carries each (R490). -/
def State.eventTriggers (s : State) : State :=
  s.each (s.tasks.filter fun r => r.kind == 1 && r.eventSrc / 2 ^ 24 == 3) fun r s =>
    let from_ := (s.taskX r.task).lastRn
    let inst := r.eventSrc / 512 % 2 ^ 15
    let hits := s.rcd.buffer.filter fun e => decide (from_ ≤ e.rn) && e.code == r.eventSrc % 512 && (inst == 0x7FFF || e.inst == inst)
    let s := s.setTaskX r.task fun x => { x with lastRn := s.rcd.nextRn }
    hits.foldl (fun s _ => (s.triggerTask r).agree (.trigger (Fin.ofNat 64 r.task))) s

/-- A failed standby self-test (R501): HEALTH_WORD bit 14 for 24 h, event 0x1B2. -/
def State.selfTestFailed (test place : Nat) (s : State) : State :=
  ({ s with red := { s.red with testFailedAt := some s.up } }.flag Obj.red.redFlags 4).raise 0x1B2 0 test place 0

/-! ### Wake sources (R22, R23 (k)) -/

/-- A wake source: in DORMANT it wakes the module at the next boundary, with event 0x00D; during the entry it is latched,
with event 0x008. -/
def State.wakeSource (source channel : Nat) (s : State) : State :=
  if s.sys.mode = .dormant then
    if s.sys.wakeDue then s
    else { s with sys := { s.sys with wakeDue := true, trans := .wake } }.raise 0x00D s.unit source channel 0
  else if s.sys.trans = .park then
    { s with sys := { s.sys with latched := s.sys.latched ++ [(Trigger.wake, source, channel)] } }.raise 0x008 s.unit Trigger.wake.code s.sys.trans.code 0
  else s

end Sys2Proof.Machine
end

