-- ==== Sys2Proof/Machine/FieldIo.lean ====
section
/-!
DEFINITION. Field inputs and outputs (R421 to R448, R454 to R462).
-/

namespace Sys2Proof.Machine

def State.modIo (f : IoUnit → IoUnit) (s : State) : State := { s with io := f s.io }
def State.diX (s : State) (c : Nat) : DiX := lookupD .initial s.io.dis c
def State.setDiX (c : Nat) (f : DiX → DiX) (s : State) : State :=
  s.modIo fun u => { u with dis := upsert c (f (s.diX c)) u.dis }
def State.doX (s : State) (c : Nat) : DoX := lookupD .initial s.io.dos c
def State.setDoX (c : Nat) (f : DoX → DoX) (s : State) : State :=
  s.modIo fun u => { u with dos := upsert c (f (s.doX c)) u.dos }
def State.aoX (s : State) (c : Nat) : AoX := lookupD .initial s.io.aos c
def State.setAoX (c : Nat) (f : AoX → AoX) (s : State) : State :=
  s.modIo fun u => { u with aos := upsert c (f (s.aoX c)) u.aos }

/-- The FIELD_IO record of a channel: class 0 DI, 1 DO, 2 AO (R54). -/
def State.fieldRec (s : State) (cls c : Nat) : Option FieldRec :=
  match s.catOf with | some k => k.fieldIo.find? fun r => r.cls == cls && r.channel == c | none => none

/-- Where a channel's common objects stand: instance, STATUS, FLAGS, CMD_STATUS, SCORE, and its RETIRED bit. -/
structure Chan where
  inst : Nat
  status : Nat
  flags : Nat
  cmdStatus : Nat
  score : Nat
  retBit : Nat
  deriving DecidableEq, Repr

def ioChan : IoChannel → Chan
  | .di c => ⟨256 + c, Obj.di.diStatus c, Obj.di.diFlags c, Obj.di.cmdStatus c, Obj.di.score c, 2⟩
  | .dout c => ⟨512 + c, Obj.dout.doStatus c, Obj.dout.doFlags c, Obj.dout.cmdStatus c, Obj.dout.score c, 3⟩
  | .ao c => ⟨640 + c, Obj.ao.aoStatus c, Obj.ao.aoFlags c, Obj.ao.cmdStatus c, Obj.ao.score c, 3⟩

/-- The field supply that feeds a channel's group (R422); DI take none. -/
def ioSupply : IoChannel → Option Nat
  | .di _ => none
  | .dout c => some (if c.val < 64 then 0 else 1)
  | .ao c => some (if c.val < 32 then 2 else 3)

def State.ioRetired (s : State) (ch : IoChannel) : Bool := s.bit (ioChan ch).status (ioChan ch).retBit

/-- A field supply is present and not lost (R423). -/
def State.supplyOk (s : State) (f : Nat) : Bool := s.bit (Obj.fs.fsStatus f) 1

/-! ### Outputs (R21, R25, R431, R437, R438) -/

/-- The first channel of a DO's gang (R432). -/
def State.gangHead (s : State) (c : Nat) : Nat :=
  match s.catOf with
  | none => c
  | some k =>
    match k.fieldIo.find? (fun r => r.cls == 1 && decide (r.channel ≤ c) && decide (c < r.channel + r.parallel)) with
    | some r => r.channel
    | none => c

/-- Whether the module drives program values: a running mode after its first plant commit (R25). -/
def State.programDrive (s : State) : Bool := s.sys.mode.running && !s.sched.outHold

/-- The commanded state of a DO (R21, R25, R431, R455). -/
def State.doWanted (s : State) (c : Nat) : Bool :=
  let h := s.gangHead c
  let stop := match s.fieldRec 1 h with | some r => r.stopValue == 1 | none => false
  if s.bit (Obj.dout.doStatus c) 3 then false
  else match s.sys.mode with
    | .boot => false
    | .solo | .active => if s.programDrive then s.bit (Obj.dout.doValue h) 0 else stop
    | .standby => s.programDrive && !s.io.shut && s.bit (Obj.dout.doValue h) 0
    | _ => s.owner && stop

/-- The integer nearest to the square root of n (R438): the largest r with (2r − 1)² ≤ 4n. -/
def nearSqrt (n : Nat) : Nat :=
  let rec go : Nat → Nat → Nat → Nat
    | 0, lo, _ => lo
    | k + 1, lo, hi =>
      let mid := (lo + hi + 1) / 2
      if hi ≤ lo then lo
      else if (2 * mid - 1) * (2 * mid - 1) ≤ 4 * n then go k mid hi else go k lo (mid - 1)
  go 40 0 (n + 1)

/-- The output of a CURVES record in units of 0.01 % / den (R438): piecewise linear, ends held. -/
def curveOut (pts : List (Nat × Nat)) (v : Int) : Int × Nat :=
  match pts with
  | [] => (v, 1)
  | (x0, y0) :: _ =>
    if v ≤ x0 then (y0, 1)
    else
      match (pts.zip (pts.drop 1)).find? (fun s => decide (v ≤ (s.2.1 : Int))) with
      | some ((xa, ya), (xb, yb)) =>
        if xa = xb then (yb, 1) else ((ya : Int) * (xb - xa : Nat) + ((yb : Int) - ya) * (v - xa), xb - xa)
      | none => match pts.getLast? with | some p => (p.2, 1) | none => (v, 1)

/-- The target current of an AO_VALUE in µA (R438). -/
def aoTarget (char : Nat) (curve : List (Nat × Nat)) (w : Word) : Nat :=
  if w = 0x80000000 then 3600
  else if w = 0x7FFFFFFF then 21000
  else
    let v := signedOf 32 w.toNat
    let near (n : Int) (d : Nat) : Int := (2 * n + d) / (2 * d)
    let t : Int := match char with
      | 0 => 4000 + near (16 * v) 10
      | 1 => if v ≤ 0 then 4000 else 4000 + nearSqrt (25600 * v.toNat)
      | _ => let (n, d) := curveOut curve v; 4000 + near (16 * n) (10 * d)
    (clampInt 3800 20500 t).toNat

/-- The DAC code of a target (R440). -/
def dacCode (target : Nat) : Nat := (2 * target * 65536 + 24000) / 48000

/-- DRIVE of an AO (R21, R445, R455): 0 high-impedance, 1 driving, 2 tracking, 3 self-test. -/
def State.aoDrive (s : State) (c : Nat) : Nat :=
  let a := Obj.ao.aoStatus c
  match s.fieldRec 2 c with
  | none => 0
  | some r =>
    if r.aoMode = 2 then 0
    else if hasKey (640 + c) s.io.tests then 3
    else if s.bit a 3 then 0
    else match s.sys.mode with
      | .boot => 0
      | .standby => if s.bit a 6 then 1 else 2
      | .solo | .active => 1
      | _ => if s.owner then 1 else 0

/-- The target current in force: the program's, or the stop value (R21, R25). -/
def State.aoTargetNow (s : State) (c : Nat) : Nat :=
  match s.fieldRec 2 c, s.catOf with
  | some r, some k =>
    if s.programDrive then aoTarget r.aoChar (k.curves.getD r.curve []) (s.rd (Obj.ao.aoValue c)) else r.stopValue
  | _, _ => 0

/-- The DO and AO stages at the output instant of a commit (R316, R491). -/
def State.driveOutputs (s : State) : State :=
  let s := s.each (List.range 128) fun c s =>
    let a := Obj.dout.doStatus c
    let v := s.doWanted c
    let stage := v && (s.doX c).cut == 0
    let s := if (s.doX c).lost then s.setDoX c fun x => { x with lost := false } else s
    let s := if s.bit a 1 = stage then s else s.count (Obj.dout.switches c) 1
    ((s.wrBit a 0 v).wrBit a 1 stage).wrBit a 2 (stage && s.supplyOk (if c < 64 then 0 else 1))
  s.each (List.range 64) fun c s =>
    let a := Obj.ao.aoStatus c
    match s.fieldRec 2 c with
    | none => s
    | some r =>
      let d := s.aoDrive c
      let t := s.aoTargetNow c
      let s := if (s.aoX c).lost then s.setAoX c fun x => { x with lost := false } else s
      let s := (((s.wrBits a 1 0 d).wrBits a 9 8 r.aoMode).wrBits a 11 10 r.aoChar).wrBit a 5 (t == 3600 || t == 21000)
      ((s.wrBit a 2 false).wr (Obj.ao.aoTarget c) (w32 t)).wrBit (Obj.io.aoDriven + c / 32) (c % 32) (d == 1)

/-- A committed DO_VALUE (R431, R432): every channel of a gang reports its first channel's value. -/
def State.commitDo (c v : Nat) (s : State) : State :=
  let n := match s.fieldRec 1 c with | some r => max 1 r.parallel | none => 1
  s.each ((List.range n).map fun k => c + k) fun k s =>
    (s.wr (Obj.dout.doValue k) (w32 (v % 2))).wrBit (Obj.io.doValues + k / 32) (k % 32) (v % 2 == 1)

/-- An AO in use. -/
def State.aoUsed (s : State) (c : Nat) : Bool := match s.fieldRec 2 c with | some r => r.aoMode != 2 | none => false

/-- A committed AO_VALUE (R438, R461). -/
def State.commitAo (c : Nat) (w : Word) (s : State) : State := if s.aoUsed c then s.wr (Obj.ao.aoValue c) w else s

/-- DO_VALUE_WRITE (R431, R432): staged for the next commit; refused on a gang's later members. -/
def doValueWrite (session c : Nat) (w : Word) (s : State) : State :=
  if s.gangHead c = c then s.stageHost session (.object (w32 (Obj.dout.doValue c)) w) else s

def execDoValueWrite (channel : Fin 128) (value : BitVec 32) (s : State) : Host.Outcome State Fault Refusal :=
  s.live (doValueWrite 0 channel value)

/-- AO_VALUE_WRITE (R438, R461): staged for the next commit; refused on an unused channel. -/
def aoValueWrite (session c : Nat) (w : Word) (s : State) : State :=
  if s.aoUsed c then s.stageHost session (.object (w32 (Obj.ao.aoValue c)) w) else s

def execAoValueWrite (channel : Fin 64) (value : BitVec 32) (s : State) : Host.Outcome State Fault Refusal :=
  s.live (aoValueWrite 0 channel value)

/-! ### Scoring and retirement (R454, R455) -/

/-- The number of retired channels of a class, as IO_STATUS shows it (R458). -/
def State.showRetired (s : State) : State :=
  let n (l : List IoChannel) : Nat := (l.filter s.ioRetired).length
  let s := s.wrBits Obj.io.ioStatus 31 23 (n ((List.finRange 256).map .di))
  let s := s.wrBits Obj.io.ioStatus 22 15 (n ((List.finRange 128).map .dout))
  s.wrBits Obj.io.ioStatus 14 8 (n ((List.finRange 64).map .ao))

/-- A retired DI reads 0 (R455). -/
def State.diValue (c : Nat) (v : Bool) (s : State) : State :=
  (s.wrBit (Obj.di.diStatus c) 0 v).wrBit (Obj.io.diValues + c / 32) (c % 32) v

/-- A channel is retired (R454, R455), held in MRAM; event 0x169. -/
def State.ioRetireFor (ch : IoChannel) (reason : Nat) (s : State) : State :=
  let k := (ioChan ch)
  if s.ioRetired ch then s
  else
    let s := ((s.flag k.status k.retBit).wrBits k.status 31 24 reason).flag k.flags 1
    let s := (s.flag Obj.io.ioFlags 1).showRetired.raise 0x169 k.inst reason (s.bits k.score 15 0) 0
    match ch with
    | .di c => s.diValue c false
    | _ => s.driveOutputs

/-- Points on a channel's score (R454); none while its field supply is lost (R423). -/
def State.ioScore (ch : IoChannel) (d : Nat) (s : State) : State :=
  let k := (ioChan ch)
  if (match (ioSupply ch) with | some f => !s.supplyOk f | none => false) then s
  else
    let old := s.bits k.score 15 0
    let new := satAdd 65535 old d
    let s := (s.wrBits k.score 15 0 new).wrBits k.score 31 16 (max new (s.bits k.score 31 16))
    let s := if old < 256 ∧ 256 ≤ new then (s.flag k.flags 3).raise 0x16C k.inst new 0 0 else s
    if 512 < new then s.ioRetireFor ch 1 else s

/-- IO_SCORE_DECAY (R454): every 10 ms each score falls by 1. -/
def ioScoreDecay (s : State) : State :=
  let dec (a : Nat) (s : State) : State := if s.bits a 15 0 = 0 then s else s.wrBits a 15 0 (s.bits a 15 0 - 1)
  s.each ((List.range 256).map Obj.di.score ++ (List.range 128).map Obj.dout.score ++ (List.range 64).map Obj.ao.score) dec

def execIoScoreDecay (s : State) : Host.Outcome State Fault Refusal := s.live ioScoreDecay

abbrev IoCmd.retire : Nat := 1
abbrev IoCmd.reinstate : Nat := 2
abbrev IoCmd.clear : Nat := 3

/-- IO_RETIRE (R454, R456). -/
def ioRetire (ch : IoChannel) (s : State) : State := (s.accept (ioChan ch).cmdStatus IoCmd.retire Oc.done).ioRetireFor ch 5

def execIoRetire (channel : IoChannel) (s : State) : Host.Outcome State Fault Refusal := s.live (ioRetire channel)

/-- IO_REINSTATE (R456): starts the self-test of a retired channel, its terminal untouched. -/
def ioReinstate (ch : IoChannel) (s : State) : State :=
  let k := (ioChan ch)
  if s.ioRetired ch = false then s.refuse k.cmdStatus IoCmd.reinstate Oc.notReady
  else if hasKey k.inst s.io.tests then s.refuse k.cmdStatus IoCmd.reinstate Oc.busy
  else
    let s := (s.modIo fun u => { u with tests := upsert k.inst s.up u.tests }).accept k.cmdStatus IoCmd.reinstate Oc.inProgress
    match ch with
    | .di _ => s.flag k.status 3
    | .ao _ => s.wrBits k.status 1 0 3
    | .dout _ => s

def execIoReinstate (channel : IoChannel) (s : State) : Host.Outcome State Fault Refusal := s.live (ioReinstate channel)

/-- IO_SELF_TEST_DONE (R456): a pass returns the channel to service with its score at 0. -/
def ioSelfTestDone (ch : IoChannel) (failedStep : Nat) (s : State) : State :=
  let k := (ioChan ch)
  match s.io.tests.find? (fun x => x.1 == k.inst) with
  | none => s
  | some (_, t) =>
    let s := s.modIo fun u => { u with tests := eraseKey k.inst u.tests }
    let s := match ch with | .di _ => s.wrBit k.status 3 false | .ao _ => s.wrBits k.status 1 0 0 | .dout _ => s
    if failedStep = 0 then
      let s := ((s.wrBit k.status k.retBit false).wrBits k.status 31 24 0).wrBits k.score 15 0 0
      let s := match ch with
        | .di _ => s
        | .dout c => (s.wrBits k.status 11 8 0).setDoX c fun x => { x with cut := 0 }
        | .ao c =>
          let s := s.wrBits k.status 23 20 0
          if s.bit k.status 6 then
            (((s.wrBit k.status 6 false).count (Obj.ao.handovers c) 1).flag k.flags 4).raise 0x168 k.inst 0 2 0
          else s
      ((s.setOutcome k.cmdStatus Oc.done).showRetired.raise 0x16A k.inst ((s.up - t) / 1000000) 0 0).driveOutputs
    else ((s.setOutcome k.cmdStatus Oc.selfTestFailed).raise 0x16B k.inst failedStep 0 0).driveOutputs

def execIoSelfTestDone (channel : IoChannel) (failedStep : Fin 8) (s : State) : Host.Outcome State Fault Refusal :=
  s.live (ioSelfTestDone channel failedStep)

/-- IO_CLEAR_COUNTERS (R458 to R461): of the block, or of one channel. -/
def ioClearCounters (ch : Option IoChannel) (s : State) : State :=
  match ch with
  | none => (State.clearAll ((List.range 4).map Obj.fs.fsLosses) s).accept Obj.io.cmdStatus IoCmd.clear Oc.done
  | some k =>
    let l := match k with
      | .di c => [Obj.di.rising c, Obj.di.falling c, Obj.di.overruns c, Obj.di.differs c]
      | .dout c => [Obj.dout.overloads c, Obj.dout.switches c]
      | .ao c => [Obj.ao.foldbacks c, Obj.ao.handovers c]
    (State.clearAll l s).accept (ioChan k).cmdStatus IoCmd.clear Oc.done

def execIoClearCounters (channel : Option IoChannel) (s : State) : Host.Outcome State Fault Refusal :=
  s.live (ioClearCounters channel)

/-- ISOLATOR_FRAME_ERROR (R454): DI points, 4 a frame error and 1 a rejected sample; event 0x161 for a frame error. -/
def isolatorFrameError (ch : IoChannel) (parity : Bool) (s : State) : State :=
  match ch with
  | .di c =>
    if parity then s.ioScore ch 1
    else
      let l := s.up :: (s.diX c).errs.filter fun t => decide (s.up < t + 1000000000)
      let s := (s.setDiX c fun x => { x with errs := l }).ioScore ch 4
      s.raise 0x161 (ioChan ch).inst l.length (s.bits (ioChan ch).score 15 0) 0
  | _ => s

def execIsolatorFrameError (channel : IoChannel) (parity : Bool) (s : State) : Host.Outcome State Fault Refusal :=
  s.live (isolatorFrameError channel parity)

/-- ISOLATOR_LINK_SILENT (R454 reason 0x02). -/
def execIsolatorLinkSilent (channel : IoChannel) (s : State) : Host.Outcome State Fault Refusal :=
  s.live (State.ioRetireFor channel 2)

/-- STAGE_REFRESH_LOSS (R457): 2 s without refresh; a DO goes off and an AO to high-impedance on its own. -/
def stageRefreshLoss (ch : IoChannel) (s : State) : State :=
  match ch with
  | .di _ => s
  | .dout c =>
    let a := Obj.dout.doStatus c
    let s := if s.bit a 1 then s.count (Obj.dout.switches c) 1 else s
    ((s.setDoX c fun x => { x with lost := true }).wrBit a 1 false).wrBit a 2 false
  | .ao c => (((s.setAoX c fun x => { x with lost := true }).wrBits (Obj.ao.aoStatus c) 1 0 0).wrBit (Obj.ao.aoStatus c) 2 false).wrBit
      (Obj.io.aoDriven + c / 32) (c % 32) false

def execStageRefreshLoss (channel : IoChannel) (s : State) : Host.Outcome State Fault Refusal := s.live (stageRefreshLoss channel)

/-! ### Digital inputs (R424 to R429) -/

/-- FILTER_N of a DI (R424). -/
def State.filterN (s : State) (c : Nat) : Nat := match s.fieldRec 0 c with | some r => r.filterN | none => 10

/-- One entry of the edge FIFO, or a drop (R425). -/
def State.pushEdge (c : Nat) (e : Nat) (s : State) : State :=
  let x := s.diX c
  let s := s.wr64 (Obj.di.edgeNewest c) e
  let s := if s.sys.mode = .active then s.modIo fun u => { u with newEdges := u.newEdges ++ [(c, e)] } else s
  if x.fifo.length < 16 then
    (s.setDiX c fun x => { x with fifo := x.fifo ++ [e], drops := 0 }).wrBits (Obj.di.diStatus c) 12 8 (x.fifo.length + 1)
  else
    let s := ((s.setDiX c fun x => { x with drops := x.drops + 1 }).count (Obj.di.overruns c) 1).flag (Obj.di.diFlags c) 0
    if x.drops = 0 then s.raise 0x160 (256 + c) 1 16 0 else s

/-- A change of the value that stands (R424, R425, R429): counts, the FIFO, triggers, and the wake in DORMANT. -/
def State.diChange (c : Nat) (v : Bool) (e : Nat) (s : State) : State :=
  let s := (s.diValue c v).count (if v then Obj.di.rising c else Obj.di.falling c) 1
  let s := (s.pushEdge c e).trigger 1 c
  let wake := match s.fieldRec 0 c with | some r => r.wake | none => 0
  if s.sys.mode = .dormant ∨ s.sys.trans = .park then
    if (wake = 1 ∧ v = true) ∨ (wake = 2 ∧ v = false) ∨ wake = 3 then s.wakeSource 2 c else s
  else s

/-- The 10 µs sample of one channel: its counter and its filtered value (R424). -/
def diFilter (n : Nat) (raw : Bool) (x : DiX) : DiX :=
  let k := if raw then min n (x.counter + 1) else x.counter - 1
  { x with counter := k, own := if k = n then true else if k = 0 then false else x.own }

/-- One channel at a 10 µs sample. On a lockstep standby the agreed value stands, and a lasting difference from the
module's own is counted once, with event 0x171 (R427). -/
def State.diSampleOne (c : Nat) (raw : Bool) (s : State) : State :=
  let x := s.diX c
  let a := Obj.di.diStatus c
  let n := s.filterN c
  let y := diFilter n raw x
  let s := if s.bit a 1 = raw then s else s.wrBit a 1 raw
  if y = x ∧ s.bit a 0 = x.own then s
  else
    let s := s.setDiX c fun _ => y
    if s.bit a 2 then s
    else if s.lockstepStandby then
      let agreed := s.bit a 0
      if y.own = agreed then s.setDiX c fun z => { z with differs := none }
      else
        match y.differs with
        | none => s.setDiX c fun z => { z with differs := some (s.up, false) }
        | some (_, true) => s
        | some (t, false) =>
          if t + 2 * n * 10000 + 1000000 < s.up then
            ((((s.setDiX c fun z => { z with differs := some (t, true) }).count (Obj.di.differs c) 1).flag (Obj.di.diFlags c) 2).raise
              0x171 (256 + c) y.own.toNat agreed.toNat (min 0xFFFFFFFF ((s.up - t) / 1000)))
          else s
    else if s.bit a 0 = y.own then s
    else s.diChange c y.own ((s.now / 10000 * 10000) / 2 * 2 + y.own.toNat)

/-- DI_SAMPLE (R424): every mode but BOOT. -/
def diSample (levels : BitVec 256) (s : State) : State :=
  if s.sys.mode = .boot then s else s.each (List.range 256) fun c s => s.diSampleOne c (levels.getLsbD c)

def execDiSample (levels : BitVec 256) (s : State) : Host.Outcome State Fault Refusal := s.live (diSample levels)

/-- Entries that a committed job read leave the FIFO (R426). -/
def State.takeEdges (c n : Nat) (s : State) : State :=
  let l := (s.diX c).fifo.drop n
  (s.setDiX c fun x => { x with fifo := l, drops := 0 }).wrBits (Obj.di.diStatus c) 12 8 l.length

/-! ### Output stage conditions (R434, R435, R441 to R447) -/

/-- DO_OVERLOAD (R434): current limit for 500 µs, or over-temperature; the stage switches off. -/
def doOverload (c : Nat) (overTemp : Bool) (current : BitVec 16) (s : State) : State :=
  let a := Obj.dout.doStatus c
  let code := if overTemp then 2 else 1
  if s.bit a 3 then s
  else
    let s := (((s.wrBits a 11 8 code).flag (Obj.dout.doFlags c) 0).count (Obj.dout.overloads c) 1).setDoX c fun x => { x with cut := code }
    let s := s.wr (Obj.dout.doCurrent c) (w32 current.toNat)
    let s := if s.bit a 1 then (s.count (Obj.dout.switches c) 1).wrBit a 1 false else s
    let ch : IoChannel := .dout (Fin.ofNat 128 c)
    let s := (s.wrBit a 2 false).ioScore ch (if overTemp then 32 else 16)
    s.raise 0x162 (512 + c) code current.toNat (s.bits (Obj.dout.score c) 15 0)

def execDoOverload (channel : Fin 128) (overTemp : Bool) (current : BitVec 16) (s : State) : Host.Outcome State Fault Refusal :=
  s.live (doOverload channel overTemp current)

/-- A stage that its own protection switched off returns to its command. -/
def State.doReturn (c code : Nat) (s : State) : State :=
  if (s.doX c).cut = code then
    ((s.setDoX c fun x => { x with cut := 0 }).wrBits (Obj.dout.doStatus c) 11 8 0).driveOutputs
  else s

/-- DO_RETRY (R434): 100 ms after a turn-off by the current limit. -/
def execDoRetry (channel : Fin 128) (s : State) : Host.Outcome State Fault Refusal := s.live (State.doReturn channel 1)

/-- DO_COOLED (R434): the stage has cooled by 20 °C. -/
def execDoCooled (channel : Fin 128) (s : State) : Host.Outcome State Fault Refusal := s.live (State.doReturn channel 2)

/-- DO_OPEN_LOAD (R434), with DO_CFG.OPEN_LOAD 1. -/
def doOpenLoad (c : Nat) (current : BitVec 16) (s : State) : State :=
  if s.bit (Obj.dout.doCfg c) 0 && s.bit (Obj.dout.doStatus c) 1 then
    let s := ((s.wrBits (Obj.dout.doStatus c) 11 8 3).flag (Obj.dout.doFlags c) 0).raise 0x163 (512 + c) current.toNat 0 0
    s.ioScore (.dout (Fin.ofNat 128 c)) 8
  else s

def execDoOpenLoad (channel : Fin 128) (current : BitVec 16) (s : State) : Host.Outcome State Fault Refusal :=
  s.live (doOpenLoad channel current)

/-- FAULT 4 of a DO: the channel is retired, a hard signature (R434). -/
def State.doFault4 (c : Nat) (s : State) : State :=
  ((s.wrBits (Obj.dout.doStatus c) 11 8 4).flag (Obj.dout.doFlags c) 0).ioRetireFor (.dout (Fin.ofNat 128 c)) 3

/-- DO_READBACK_FAULT (R434). -/
def doReadbackFault (c : Nat) (command readback : Bool) (s : State) : State :=
  if s.bit (Obj.dout.doStatus c) 3 then s
  else (s.raise 0x164 (512 + c) command.toNat readback.toNat 0).doFault4 c

def execDoReadbackFault (channel : Fin 128) (command readback : Bool) (s : State) : Host.Outcome State Fault Refusal :=
  s.live (doReadbackFault channel command readback)

/-- A non-owner in STANDBY tests its stages (R435, R447). -/
def State.testsStages (s : State) : Bool := s.sys.mode == .standby && !s.owner

/-- DO_STANDBY_TEST (R435): the failed channels with what was expected and found. -/
def doStandbyTest (failed : List (Fin 128 × Bool × Bool)) (s : State) : State :=
  if s.testsStages then
    s.each failed fun f s =>
      let c := f.1.val
      if s.bit (Obj.dout.doStatus c) 3 then s
      else
        let s := ((s.flag (Obj.dout.doFlags c) 2).flag Obj.io.ioFlags 2).raise 0x170 (512 + c) 1 f.2.1.toNat f.2.2.toNat
        (s.selfTestFailed 2 (512 + c)).doFault4 c
  else s

def execDoStandbyTest (failed : List (Fin 128 × Bool × Bool)) (s : State) : Host.Outcome State Fault Refusal :=
  s.live (doStandbyTest failed)

/-- Records the FAULT of an AO. -/
def State.aoFault (c code : Nat) (s : State) : State :=
  (s.wrBits (Obj.ao.aoStatus c) 23 20 code).flag (Obj.ao.aoFlags c) 0

/-- AO_COMPLIANCE (R441): event 0x166 and 8 points. -/
def aoCompliance (c : Nat) (readback voltage : Word) (s : State) : State :=
  let s := (s.aoFault c 2).raise 0x166 (640 + c) (s.rd (Obj.ao.aoTarget c)).toNat readback.toNat voltage.toNat
  s.ioScore (.ao (Fin.ofNat 64 c)) 8

def execAoCompliance (channel : Fin 64) (readback voltage : BitVec 32) (s : State) : Host.Outcome State Fault Refusal :=
  s.live (aoCompliance channel readback voltage)

/-- AO_OPEN_LOOP (R442): a hard signature; event 0x165, and the channel is retired. -/
def aoOpenLoop (c : Nat) (readback voltage : Word) (s : State) : State :=
  if s.bit (Obj.ao.aoStatus c) 3 then s
  else
    let s := (s.aoFault c 1).raise 0x165 (640 + c) (s.rd (Obj.ao.aoTarget c)).toNat readback.toNat voltage.toNat
    s.ioRetireFor (.ao (Fin.ofNat 64 c)) 4

def execAoOpenLoop (channel : Fin 64) (readback voltage : BitVec 32) (s : State) : Host.Outcome State Fault Refusal :=
  s.live (aoOpenLoop channel readback voltage)

/-- AO_READBACK_DEVIATION (R442): FAULT 4 and 16 points. -/
def aoReadbackDeviation (c : Nat) (_readback : Word) (s : State) : State := (s.aoFault c 4).ioScore (.ao (Fin.ofNat 64 c)) 16

def execAoReadbackDeviation (channel : Fin 64) (readback : BitVec 32) (s : State) : Host.Outcome State Fault Refusal :=
  s.live (aoReadbackDeviation channel readback)

/-- AO_FOLDBACK (R443): above 135 °C the channel drives 3,600 µA whatever its target. -/
def aoFoldback (c : Nat) (temp : Word) (s : State) : State :=
  let a := Obj.ao.aoStatus c
  if s.bit a 4 then s
  else
    let s := ((s.flag a 4).aoFault c 3).count (Obj.ao.foldbacks c) 1
    let s := (s.flag (Obj.ao.aoFlags c) 2).setAoX c fun x => { x with foldAt := s.up }
    s.raise 0x167 (640 + c) temp.toNat (s.rd (Obj.ao.aoTarget c)).toNat 0

def execAoFoldback (channel : Fin 64) (temp : BitVec 32) (s : State) : Host.Outcome State Fault Refusal :=
  s.live (aoFoldback channel temp)

/-- AO_FOLDBACK_CLEARED (R443): below 115 °C the channel returns to its target; event 0x172. -/
def aoFoldbackCleared (c : Nat) (temp : Word) (s : State) : State :=
  let a := Obj.ao.aoStatus c
  if s.bit a 4 then
    ((s.wrBit a 4 false).wrBits a 23 20 0).raise 0x172 (640 + c) temp.toNat (min 0xFFFFFFFF ((s.up - (s.aoX c).foldAt) / 1000000)) 0
  else s

def execAoFoldbackCleared (channel : Fin 64) (temp : BitVec 32) (s : State) : Host.Outcome State Fault Refusal :=
  s.live (aoFoldbackCleared channel temp)

/-- The current an AO regulates, µA: 3,600 in fold-back, else its target (R443). -/
def State.aoCurrent (s : State) (c : Nat) : Nat :=
  if s.bit (Obj.ao.aoStatus c) 4 then 3600 else (s.rd (Obj.ao.aoTarget c)).toNat

/-- AO_TRACKING_CHECK (R447): the tracking readbacks of a non-owner in STANDBY; above 100 µA off counts as FAULT 4. -/
def aoTrackingCheck (l : List (Fin 64 × BitVec 32)) (s : State) : State :=
  if s.testsStages then
    s.each l fun f s =>
      let c := f.1.val
      let t := (s.rd (Obj.ao.aoTarget c)).toNat
      let r := f.2.toNat
      if s.bits (Obj.ao.aoStatus c) 1 0 = 2 ∧ (t + 100 < r ∨ r + 100 < t) then
        let s := ((s.aoFault c 4).flag Obj.io.ioFlags 2).raise 0x170 (640 + c) 2 t r
        (s.selfTestFailed 3 (640 + c)).ioScore (.ao (Fin.ofNat 64 c)) 16
      else s
  else s

def execAoTrackingCheck (readbacks : List (Fin 64 × BitVec 32)) (s : State) : Host.Outcome State Fault Refusal :=
  s.live (aoTrackingCheck readbacks)

/-- One channel's part of AO_HANDOVER (R446): the driver, its cause and event 0x168. -/
def State.aoPass (c : Nat) (toPartner : Bool) (s : State) : State :=
  (((s.wrBit (Obj.ao.aoStatus c) 6 toPartner).count (Obj.ao.handovers c) 1).flag (Obj.ao.aoFlags c) 4).raise 0x168 (640 + c)
    toPartner.toNat (if toPartner then 1 else 2) 0

/-- AO_HANDOVER (R446): at a commit the partner takes over the loops of the owner's retired channels; `partnerOk` says
which channels are healthy at the partner. The module that does not own sees the owner's channel retired and drives it, and
gives it back once the owner reinstated it. -/
def State.aoHandover (partnerOk : Nat → Bool) (s : State) : State :=
  if s.pairRole && s.sys.mode.running && s.bit Obj.red.redStatus 17 then
    s.each (List.range 64) fun c s =>
      let a := Obj.ao.aoStatus c
      if !s.aoUsed c then s
      else if s.owner then (if s.bit a 3 && !s.bit a 6 && partnerOk c then s.aoPass c true else s)
      else if !s.bit a 3 && !s.bit a 6 && !partnerOk c then s.aoPass c true
      else if s.bit a 6 && (s.bit a 3 || partnerOk c) then s.aoPass c false
      else s
  else s

/-! ### FSK (R444) -/

def State.fskOn (s : State) (c : Nat) : Bool := match s.fieldRec 2 c with | some r => r.fsk && r.aoMode != 2 | none => false

/-- FSK_STATUS's buffer levels (R461), an eight-bit field saturating. -/
def State.showFsk (c : Nat) (s : State) : State :=
  let x := s.aoX c
  (s.wrBits (Obj.ao.fskStatus c) 31 24 (min 255 x.rx.length)).wrBits (Obj.ao.fskStatus c) 23 16 (min 255 x.tx.length)

/-- A received byte enters the receive buffer; a full one drops it with FSK_OVERRUN. -/
def State.fskByte (c : Nat) (v : Byte) (bad : Bool) (s : State) : State :=
  let s := if s.sys.mode = .active then s.modIo fun u => { u with newFsk := u.newFsk ++ [(c, v, bad)] } else s
  if (s.aoX c).rx.length < 256 then (s.setAoX c fun x => { x with rx := x.rx ++ [(v, bad)] }).showFsk c
  else (s.flag (Obj.ao.aoFlags c) 5).raise 0x16F (640 + c) 3 1 0

/-- FSK_RECEIVE (R444): a byte with a parity or framing error is kept, marked and counted. On a lockstep standby the
agreed bytes stand (R216). -/
def fskReceive (c : Nat) (v : Byte) (par frame : Bool) (s : State) : State :=
  if s.fskOn c then
    let bad := par || frame
    let a := Obj.ao.fskStatus c
    let s := if bad then (s.wrBits a 15 0 ((s.bits a 15 0 + 1) % 65536)).raise 0x16F (640 + c) (if par then 1 else 2) 1 0 else s
    if s.lockstepStandby then s else s.fskByte c v bad
  else s

def execFskReceive (channel : Fin 64) (value : Byte) (parityError framingError : Bool) (s : State) :
    Host.Outcome State Fault Refusal := s.live (fskReceive channel value parityError framingError)

/-- FSK_SEND (R444): queued up to 256 bytes; accepted and discarded on a channel the module does not drive. -/
def fskSend (c : Nat) (b : List Byte) (s : State) : State :=
  if s.fskOn c && s.bits (Obj.ao.aoStatus c) 1 0 == 1 then
    let b := b.take (256 - (s.aoX c).tx.length)
    if b.isEmpty then s
    else (((s.setAoX c fun x => { x with tx := x.tx ++ b }).flag (Obj.ao.aoStatus c) 16).showFsk c).emit (.fsk c b)
  else s

def execFskSend (channel : Fin 64) (bytes : List Byte) (s : State) : Host.Outcome State Fault Refusal := s.live (fskSend channel bytes)

/-- FSK_CARRIER_CHANGE (R444). -/
def fskCarrierChange (c : Nat) (on : Bool) (s : State) : State :=
  if s.fskOn c then s.wrBit (Obj.ao.aoStatus c) 17 on else s

def execFskCarrierChange (channel : Fin 64) (on : Bool) (s : State) : Host.Outcome State Fault Refusal :=
  s.live (fskCarrierChange channel on)

/-- FSK_TX_DONE (R444): the transmit buffer has emptied. -/
def fskTxDone (c : Nat) (s : State) : State :=
  ((s.setAoX c fun x => { x with tx := [] }).wrBit (Obj.ao.aoStatus c) 16 false).showFsk c

def execFskTxDone (channel : Fin 64) (s : State) : Host.Outcome State Fault Refusal := s.live (fskTxDone channel)

/-! ### Field supplies (R423) -/

/-- AO channels of a supply's group. -/
def aoGroup (f : Nat) : List Nat := match f with | 2 => List.range 32 | 3 => (List.range 32).map (· + 32) | _ => []

/-- FIELD_SUPPLY_LOST (R423): event 0x16D; AO of the group report FAULT 5, and SQ of it that were on latch off. -/
def fieldSupplyLost (f : Nat) (v : BitVec 16) (s : State) : State :=
  let a := Obj.fs.fsStatus f
  if s.supplyOk f = false then s
  else
    let s := s.wr a (w32 (v.toNat * 65536 + (if 500 < v.toNat then 1 else 0)))
    let s := ((s.count (Obj.fs.fsLosses f) 1).wrBit Obj.io.ioStatus f false).flag Obj.io.ioFlags 0
    let s := (s.modIo fun u => { u with lostAt := upsert f s.up u.lostAt }).raise 0x16D (16 + f) f v.toNat 0
    let s := s.each ((aoGroup f).filter s.aoUsed) fun c s => s.aoFault c 5
    let sqs := match f with | 0 => List.range 16 | 1 => (List.range 16).map (· + 16) | _ => []
    (s.each (sqs.filter fun q => s.bit (Obj.sq.sqStatus q) 1) fun q s => sqStageFault q 2 s).driveOutputs

def execFieldSupplyLost (supply : Fin 4) (voltage : BitVec 16) (s : State) : Host.Outcome State Fault Refusal :=
  s.live (fieldSupplyLost supply voltage)

/-- FIELD_SUPPLY_RESTORED (R423): above 18.0 V for 100 ms; event 0x16E. -/
def fieldSupplyRestored (f : Nat) (v : BitVec 16) (s : State) : State :=
  if s.supplyOk f then s
  else
    let s := (s.wr (Obj.fs.fsStatus f) (w32 (v.toNat * 65536 + 3))).wrBit Obj.io.ioStatus f true
    let s := match s.io.lostAt.find? (fun x => x.1 == f) with
      | some (_, t) =>
        (s.modIo fun u => { u with lostAt := eraseKey f u.lostAt }).raise 0x16E (16 + f) f (min 0xFFFFFFFF ((s.up - t) / 1000000)) 0
      | none => s
    let s := s.each (aoGroup f) fun c s =>
      if s.bits (Obj.ao.aoStatus c) 23 20 = 5 then s.wrBits (Obj.ao.aoStatus c) 23 20 0 else s
    s.driveOutputs

def execFieldSupplyRestored (supply : Fin 4) (voltage : BitVec 16) (s : State) : Host.Outcome State Fault Refusal :=
  s.live (fieldSupplyRestored supply voltage)

/-! ### Restarts (R457) -/

/-- Field I/O at power-up, FATAL or a cold restart: counters 0, FIFOs and buffers empty; retirements are restored. -/
def State.ioColdStart (s : State) : State :=
  let kept := ((List.finRange 256).map IoChannel.di ++ (List.finRange 128).map IoChannel.dout ++
    (List.finRange 64).map IoChannel.ao).filter s.ioRetired
  let kept := kept.map fun c => (c, s.bits (ioChan c).status 31 24)
  let fs := (List.range 4).map fun f => (f, s.rd (Obj.fs.fsStatus f))
  let cfg := (List.range 128).map fun c => (c, s.rd (Obj.dout.doCfg c))
  let s := { s with regs := s.regs.filter fun x => x.1 / 2 ^ 24 != 0x0E, io := { IoUnit.initial with lostAt := s.io.lostAt } }
  let s := s.each kept fun c s => (s.flag (ioChan c.1).status (ioChan c.1).retBit).wrBits (ioChan c.1).status 31 24 c.2
  let s := s.each fs fun f s => (s.wr (Obj.fs.fsStatus f.1) f.2).wrBit Obj.io.ioStatus f.1 (bitAt 1 f.2)
  (s.each cfg fun c s => s.wr (Obj.dout.doCfg c.1) c.2).showRetired

/-- Field I/O at the start of a warm restart or firmware pause: stages hold, transmit buffers are emptied. -/
def State.ioWarmStart (s : State) : State :=
  s.each (List.range 64) fun c s =>
    if s.bits (Obj.ao.aoStatus c) 1 0 = 1 ∨ s.bits (Obj.ao.aoStatus c) 1 0 = 2 then
      (((s.setAoX c fun x => { x with tx := [] }).flag (Obj.ao.aoStatus c) 2).wrBit (Obj.ao.aoStatus c) 16 false).showFsk c
    else s

end Sys2Proof.Machine
end

