-- ==== Sys2Proof/Machine/Can.lean ====
section
/-!
DEFINITION. The CAN FD controllers (R463 to R480).
-/

namespace Sys2Proof.Machine

def State.busX (s : State) (b : Nat) : BusX := lookupD .initial s.can.buses b
def State.setBusX (b : Nat) (f : BusX → BusX) (s : State) : State :=
  { s with can := { s.can with buses := upsert b (f (s.busX b)) s.can.buses } }

/-- The CAN record of a bus (R54). -/
def State.canRec (s : State) (b : Nat) : Option CanRec :=
  match s.catOf with | some c => c.can.find? fun r => r.bus == b | none => none

def State.buses (s : State) : List Nat := match s.catOf with | some c => c.can.map CanRec.bus | none => []

/-! ### Bit timing and identifiers (R464, R468) -/

/-- Prescaler and quanta per bit of a rate in kbit/s: the smallest prescaler that divides T and gives at most 80 quanta
(R464). -/
def canTiming (rate : Nat) : Nat × Nat :=
  let t := 80000 / rate
  match (List.range 8000).find? (fun k => decide (t ≤ 80 * (k + 1)) && t % (k + 1) == 0) with
  | some k => (k + 1, t / (k + 1))
  | none => (0, 0)

/-- BIT_TIMING (R478). -/
def bitTiming (r : CanRec) : Word :=
  let (pn, qn) := canTiming r.nominal
  let (pd, qd) := canTiming r.data
  w32 (pn * 2 ^ 24 + qn * 65536 + pd * 256 + qd)

def CanFrameExt (f : CanFrame) : Bool := bitAt 31 f.id
def CanFrameFd (f : CanFrame) : Bool := bitAt 30 f.id
def CanFrameIdent (f : CanFrame) : Nat := f.id.toNat % 2 ^ 29

/-- Whether a filter accepts a frame (R468). -/
def CanFilter.accepts (r : CanFilter) (f : CanFrame) : Bool :=
  Nat.land (Nat.xor (CanFrameIdent f) (r.match_ % 2 ^ 29)) (r.mask % 2 ^ 29) == 0 &&
    (r.mask / 2 ^ 31 % 2 == 0 || CanFrameExt f == (r.match_ / 2 ^ 31 % 2 == 1))

/-- Where a record's filters place a frame: the filter's index and its queue (R468); `none` is unmatched. -/
def CanRec.place (r : CanRec) (f : CanFrame) : Option (Nat × Bool) :=
  if r.filters.isEmpty then some (0xFF, false)
  else
    match (List.range r.filters.length).find? (fun i => ((r.filters.getD i ⟨0, 0⟩).accepts f)) with
    | some i => some (i, (r.filters.getD i ⟨0, 0⟩).match_ / 2 ^ 30 % 2 == 1)
    | none => none

/-- A frame's arbitration field as a number: the lowest wins; a standard frame precedes an extended one of the same
base identifier, and a data frame a remote one (R466). -/
def canArbitration (f : CanFrame) : Nat :=
  let i := CanFrameIdent f
  if CanFrameExt f then i / 2 ^ 18 % 2 ^ 11 * 2 ^ 22 + 2 ^ 20 + 2 ^ 19 + i % 2 ^ 18 * 2 + f.remote.toNat
  else i % 2 ^ 11 * 2 ^ 22 + f.remote.toNat * 2 ^ 20

/-! ### Controller states (R473, R479) -/

abbrev BusSt.off : Nat := 0
abbrev BusSt.normal : Nat := 1
abbrev BusSt.listen : Nat := 2
abbrev BusSt.asleep : Nat := 3
abbrev BusSt.retired : Nat := 4
abbrev BusSt.test : Nat := 5

def State.busState (s : State) (b : Nat) : Nat := s.bits (Obj.bus.busStatus b) 2 0
def State.busRetired (s : State) (b : Nat) : Bool := s.bit Obj.cans.canSummary (16 + b)
def State.busOff (s : State) (b : Nat) : Bool := s.bit Obj.cans.canSummary b

/-- The state of R473 that a controller takes at a boundary. -/
def State.busTarget (s : State) (b : Nat) : Nat :=
  if (s.busX b).testing.isSome then BusSt.test
  else if s.busRetired b then BusSt.retired
  else if s.sys.mode = .boot ∨ s.restarting = true then BusSt.off
  else if s.sys.mode = .dormant then (if s.busState b = BusSt.normal then BusSt.normal else BusSt.asleep)
  else if s.owner && (s.sys.mode == .solo || s.sys.mode == .active) then BusSt.normal
  else BusSt.listen

/-- TX_PENDING and the queue levels (R478, R479). -/
def State.showBus (b : Nat) (s : State) : State :=
  let x := s.busX b
  let s := s.wr (Obj.bus.txPending b) (w32 (x.bufs.foldl (fun n k => n + 2 ^ k.1) 0))
  (s.wrBits (Obj.bus.busStatus b) 22 16 x.rx1.length).wrBits (Obj.bus.busStatus b) 14 8 x.rx0.length

/-- Empties every buffer `p` names, counting the frames in TX_DROPPED, with event 0x185 and its cause. -/
def State.dropBufs (b cause : Nat) (p : TxBuf → Bool) (s : State) : State :=
  let l := (s.busX b).bufs.filter fun k => p k.2
  match l with
  | [] => s
  | k :: _ =>
    let s := s.setBusX b fun x => { x with bufs := x.bufs.filter fun k => !p k.2 }
    let s := ((s.count (Obj.bus.txDropped b) l.length).flag (Obj.bus.busFlags b) 4).showBus b
    s.raise 0x185 b l.length (CanFrameIdent k.2.frame) cause

/-- Each controller enters the state of R473 at a protection-cycle boundary. One that leaves the transmitting state
cancels the buffers whose start-of-frame was not sent; one that enters it as its module becomes owner arms its shadows,
with event 0x18A (R474). -/
def State.canBoundary (becameOwner : Bool) (s : State) : State :=
  s.each s.buses fun b s =>
    let old := s.busState b
    let new := s.busTarget b
    let s := match s.canRec b with | some r => s.wr (Obj.bus.bitTiming b) (bitTiming r) | none => s
    let s := s.wrBits (Obj.bus.busStatus b) 2 0 new
    if old = BusSt.normal ∧ new ≠ BusSt.normal then
      (s.setBusX b fun x => { x with bufs := x.bufs.filter fun k => k.2.started }).showBus b
    else if old ≠ BusSt.normal ∧ new = BusSt.normal then
      let s := s.setBusX b fun x => { x with bufs := x.bufs.filter fun k => k.2.shadow || !k.2.started }
      let n := ((s.busX b).bufs.filter fun k => k.2.shadow).length
      let s := s.setBusX b fun x => { x with bufs := x.bufs.map fun k => (k.1, { k.2 with shadow := false }) }
      let s := s.showBus b
      if becameOwner && s.pairRole then s.raise 0x18A b n 0 0 else s
    else s

/-! ### Error confinement (R471, R472) -/

def State.tec (s : State) (b : Nat) : Nat := s.bits (Obj.bus.errCounters b) 8 0
def State.rec_ (s : State) (b : Nat) : Nat := s.bits (Obj.bus.errCounters b) 23 16

/-- A bus is retired (R472), held in MRAM: off the bus with its buffers emptied; event 0x186. -/
def State.retireBus (b reason : Nat) (s : State) : State :=
  if s.busRetired b then s
  else
    let a := Obj.bus.busStatus b
    let s := s.dropBufs b 2 fun _ => true
    let s := ((s.wrBits a 31 24 reason).wrBits a 2 0 BusSt.retired).flag Obj.cans.canSummary (16 + b)
    (s.flag (Obj.bus.busFlags b) 0).raise 0x186 b reason (s.bits (Obj.bus.score b) 15 0) 0

/-- Points on a bus's score (R472): a warning at 512, retirement above 1,024. -/
def State.canScore (b d : Nat) (s : State) : State :=
  let a := Obj.bus.score b
  let old := s.bits a 15 0
  let new := satAdd 65535 old d
  let s := (s.wrBits a 15 0 new).wrBits a 31 16 (max new (s.bits a 31 16))
  let s := if old < 512 ∧ 512 ≤ new then (s.flag (Obj.bus.busFlags b) 6).raise 0x189 b new 0 0 else s
  if 1024 < new then s.retireBus b 1 else s

/-- The error counters after a change, with WARNING and the confinement state they put the controller in (R471): error
passive above 127, bus-off when the transmit counter passes 255. -/
def State.setErr (b tec rec_ : Nat) (s : State) : State :=
  let a := Obj.bus.busStatus b
  let conf := s.bits a 5 4
  let t := min tec 511
  let r := min rec_ 255
  let s := s.wr (Obj.bus.errCounters b) (w32 (r * 65536 + t))
  let s := s.wrBit a 3 (decide (96 ≤ t) || decide (96 ≤ r))
  if 255 < t ∧ conf ≠ 2 then
    let s := (s.wrBits a 5 4 2).flag Obj.cans.canSummary b
    let s := (s.count (Obj.bus.busOffs b) 1).flag (Obj.bus.busFlags b) 2
    let s := s.setBusX b fun x => { x with busOffAt := s.up, recovering := false }
    (s.raise 0x180 b t (s.busX b).bufs.length 0).canScore b 128
  else if conf = 0 ∧ (127 < t ∨ 127 < r) then
    (((s.wrBits a 5 4 1).flag (Obj.bus.busFlags b) 1).raise 0x182 b t r 0).canScore b 32
  else if conf = 1 ∧ t ≤ 127 ∧ r ≤ 127 then (s.wrBits a 5 4 0).raise 0x183 b t r 0
  else s

/-- The error counters and the confinement state at 0 (R472, R477). -/
def State.resetErr (b : Nat) (s : State) : State :=
  let s := s.wr (Obj.bus.errCounters b) 0
  let s := (s.wrBits (Obj.bus.busStatus b) 5 3 0).wrBit Obj.cans.canSummary b false
  s.setBusX b fun x => { x with recovering := false }

/-- An error frame detected: counted, with one point (R472). -/
def State.errorFrame (b : Nat) (s : State) : State := (s.count (Obj.bus.errorFrames b) 1).canScore b 1

/-- Whether a controller is on the bus: transmitting or listening. -/
def State.onBus (s : State) (b : Nat) : Bool := s.busState b == BusSt.normal || s.busState b == BusSt.listen

/-! ### Transmission (R465 to R467) -/

/-- Whether frames committed here stand as shadows of the partner's buffers (R474). -/
def State.shadows (s : State) (b : Nat) : Bool := s.pairRole && s.busState b == BusSt.listen && s.sys.peerOwn

/-- The lowest free buffer of a bus. -/
def BusX.freeBuf (x : BusX) : Option Nat := (List.range 32).find? fun k => !hasKey k x.bufs

/-- A frame takes a free buffer; false where it finds none. -/
def State.placeFrame (b : Nat) (f : CanFrame) (s : State) : Bool × State :=
  match (if s.onBus b then (s.busX b).freeBuf else none) with
  | some k =>
    let sh := s.shadows b
    (true, (s.setBusX b fun x =>
      { x with
        bufs := upsert k { frame := f, order := x.nextOrder, shadow := sh, started := false } x.bufs
        nextOrder := x.nextOrder + 1 }).showBus b)
  | none => (false, s)

/-- Frames of one bus placed at one commit, in order; those that find no free buffer are dropped, with event 0x185
once (R465). -/
def State.canSend (b : Nat) (l : List CanFrame) (s : State) : State :=
  let r := l.foldl (fun (p : List CanFrame × State) f =>
    let (ok, t) := p.2.placeFrame b f
    (if ok then p.1 else p.1 ++ [f], t)) ([], s)
  match r.1 with
  | [] => r.2
  | f :: _ =>
    ((r.2.count (Obj.bus.txDropped b) r.1.length).flag (Obj.bus.busFlags b) 4).raise 0x185 b r.1.length (CanFrameIdent f) 1

/-- CAN_FRAME_SEND (R465). -/
def canFrameSend (b : Nat) (f : CanFrame) (s : State) : State := if (s.canRec b).isSome then s.canSend b [f] else s

def execCanFrameSend (bus : Fin 16) (f : CanFrame) (s : State) : Host.Outcome State Fault Refusal := s.live (canFrameSend bus f)

/-- CAN_TX_COMPLETE (R466): the buffer frees; an FD frame with bit-rate switching above 1,000 kbit/s leaves its measured
transmitter delay in TDC (R464). -/
def canTxComplete (b k : Nat) (delay : Byte) (s : State) : State :=
  match (s.busX b).bufs.find? (fun x => x.1 == k) with
  | none => s
  | some (_, x) =>
    if x.shadow ∨ s.bits (Obj.bus.busStatus b) 5 4 = 2 ∨ s.onBus b = false then s
    else
      let s := (s.setBusX b fun y => { y with bufs := eraseKey k y.bufs }).showBus b
      let s := s.count (Obj.bus.txFrames b) 1
      let s := if (match s.canRec b with | some r => r.brs && decide (1000 < r.data) && CanFrameFd x.frame | none => false) then
          s.wr (Obj.bus.tdc b) (w32 delay.toNat) else s
      s.setErr b (s.tec b - 1) (s.rec_ b)

def execCanTxComplete (bus : Fin 16) (buffer : Fin 32) (delay : Byte) (s : State) : Host.Outcome State Fault Refusal :=
  s.live (canTxComplete bus buffer delay)

/-- CAN_TX_ERROR (R466, R471): the frame has started and is past cancelling; it contends again while its controller
transmits. A transmit error raises the counter by 8, except where the standard exempts it. -/
def canTxError (b : Nat) (e : CanTxError) (s : State) : State :=
  match (s.busX b).bufs.find? (fun x => x.1 == e.buffer.val) with
  | none => s
  | some (_, x) =>
    if x.shadow ∨ s.bits (Obj.bus.busStatus b) 5 4 = 2 ∨ s.onBus b = false then s
    else
      let s := if s.busState b = BusSt.normal then
          s.setBusX b fun y => { y with bufs := upsert e.buffer.val { x with started := true } y.bufs }
        else (s.setBusX b fun y => { y with bufs := eraseKey e.buffer.val y.bufs }).showBus b
      if e.lostArbitration then s
      else (s.errorFrame b).setErr b (s.tec b + (if e.exempt then 0 else 8)) (s.rec_ b)

def execCanTxError (bus : Fin 16) (e : CanTxError) (s : State) : Host.Outcome State Fault Refusal := s.live (canTxError bus e)

/-- CAN_RX_ERROR (R471): 1 on the receive error counter, or 8 where the standard says so. -/
def canRxError (b : Nat) (heavy : Bool) (s : State) : State :=
  if s.onBus b then (s.errorFrame b).setErr b (s.tec b) (s.rec_ b + (if heavy then 8 else 1)) else s

def execCanRxError (bus : Fin 16) (heavy : Bool) (s : State) : Host.Outcome State Fault Refusal := s.live (canRxError bus heavy)

/-- The buffer that the controller offers now: the lowest arbitration field, then filling order (R466). -/
def BusX.offered (x : BusX) : Option Nat :=
  let best := (x.bufs.filter fun k => !k.2.shadow).foldl (fun (o : Option (Nat × TxBuf)) k => match o with
    | none => some k
    | some m =>
      let a := canArbitration k.2.frame
      let c := canArbitration m.2.frame
      if a < c ∨ (a = c ∧ k.2.order < m.2.order) then some k else some m) none
  best.map Prod.fst

/-- A CANCEL at its commit point (R467): true where the frame was not past cancelling, and its buffer is free. -/
def State.cancelBuf (b k : Nat) (sofSent : Bool) (s : State) : Bool × State :=
  match (s.busX b).bufs.find? (fun x => x.1 == k) with
  | none => (true, s)
  | some (_, x) =>
    if x.started || sofSent then
      (false, s.setBusX b fun y => { y with bufs := upsert k { x with started := !x.shadow } y.bufs })
    else (true, (s.setBusX b fun y => { y with bufs := eraseKey k y.bufs }).showBus b)

/-- A job's CANCEL (R467): whether the frame now offered has reached its start-of-frame bit is the bus's matter and a
free value (log 1). -/
def State.jobCancel (b k : Nat) (s : State) : State :=
  if (s.busX b).offered = some k ∧ s.busState b = BusSt.normal then
    let (w, s) := s.fresh
    (s.cancelBuf b k (w.toNat % 2 == 1)).2
  else (s.cancelBuf b k false).2

abbrev BusCmd.retire : Nat := 1
abbrev BusCmd.reinstate : Nat := 2
abbrev BusCmd.clear : Nat := 3
abbrev BusCmd.recover : Nat := 4
abbrev BusCmd.cancel : Nat := 5
abbrev Oc.tooLate : Nat := 0x0A

/-- BUS_CANCEL (R467): done, or TOO_LATE. -/
def busCancel (b k : Nat) (sofSent : Bool) (s : State) : State :=
  let r := s.cancelBuf b k sofSent
  r.2.accept (Obj.bus.cmdStatus b) BusCmd.cancel (if r.1 then Oc.done else Oc.tooLate)

def execBusCancel (bus : Fin 16) (buffer : Fin 32) (sofSent : Bool) (s : State) : Host.Outcome State Fault Refusal :=
  s.live (busCancel bus buffer sofSent)

/-! ### Reception (R468 to R470, R474) -/

/-- One frame enters its queue, or is dropped or unmatched; a frame queued is a trigger (R365). -/
def State.queueFrame (b : Nat) (e : RxEntry) (second : Bool) (s : State) : State :=
  let x := s.busX b
  let q := if second then x.rx1 else x.rx0
  if q.length < 64 then
    let s := s.setBusX b fun x => if second then { x with rx1 := x.rx1 ++ [e], drops1 := 0 } else { x with rx0 := x.rx0 ++ [e], drops0 := 0 }
    ((s.count (Obj.bus.rxFrames b) 1).showBus b).trigger 2 (b * 2 + second.toNat)
  else
    let d := if second then x.drops1 else x.drops0
    let s := s.setBusX b fun x => if second then { x with drops1 := x.drops1 + 1 } else { x with drops0 := x.drops0 + 1 }
    let s := (s.flag (Obj.bus.busFlags b) 3).count (Obj.bus.rxOverruns b) 1
    if d = 0 then s.raise 0x184 b second.toNat 1 0 else s

/-- A frame is filtered into a queue or counted as unmatched (R468). -/
def State.filterFrame (b : Nat) (f : CanFrame) (sof : Nat) (s : State) : State :=
  match s.canRec b with
  | none => s
  | some r =>
    match r.place f with
    | none => s.count (Obj.bus.rxUnmatched b) 1
    | some (i, second) => s.queueFrame b ⟨sof / 40 * 40, f, i⟩ second

/-- The first shadow, in filling order, that equals a frame seen complete on the bus is removed (R474). -/
def BusX.seeShadow (f : CanFrame) (x : BusX) : BusX :=
  let same (k : Nat × TxBuf) : Bool := k.2.shadow && k.2.frame.id == f.id && k.2.frame.length == f.length &&
    k.2.frame.remote == f.remote && k.2.frame.data == f.data
  let first := (x.bufs.filter same).foldl (fun (o : Option (Nat × TxBuf)) k => match o with
    | none => some k
    | some m => if k.2.order < m.2.order then some k else some m) none
  match first with
  | some (k, _) => { x with bufs := eraseKey k x.bufs }
  | none => x

/-- CAN_FRAME_RECEIVE (R468, R470, R474). On a lockstep standby its own receiver's frame is kept for comparison and
the agreed entries enter the queues. -/
def canFrameReceive (b : Nat) (f : CanFrame) (sof : Nat) (s : State) : State :=
  if s.onBus b && (s.canRec b).isSome then
    let s := (s.setBusX b (BusX.seeShadow f)).showBus b
    let s := if s.rec_ b ≤ 127 then s.setErr b (s.tec b) (s.rec_ b - 1)
      else
        let (w, s) := s.fresh
        s.setErr b (s.tec b) (119 + w.toNat % 9)
    if s.lockstepStandby then
      match s.canRec b with
      | some r => match r.place f with
        | some (i, _) => s.setBusX b fun x => { x with ownRx := x.ownRx ++ [⟨sof / 40 * 40, f, i⟩] }
        | none => s.count (Obj.bus.rxUnmatched b) 1
      | none => s
    else
      let placed := match s.canRec b with | some r => r.place f | none => none
      let s : State := match placed with
        | some (i, _) => if s.sys.mode = .active then s.setBusX b fun x => { x with ownRx := x.ownRx ++ [⟨sof / 40 * 40, f, i⟩] } else s
        | none => s
      s.filterFrame b f sof
  else s

def execCanFrameReceive (bus : Fin 16) (f : CanFrame) (sof : BitVec 64) (s : State) : Host.Outcome State Fault Refusal :=
  s.live (canFrameReceive bus f sof.toNat)

/-- The entries of the active module's agreement message for one bus (R470): they stand; a difference from the module's
own reception over the cycle is counted, with event 0x18B. -/
def State.agreeFrames (b : Nat) (l : List (CanFrame × Nat)) (s : State) : State :=
  let own := (s.busX b).ownRx.map RxEntry.frame
  let s := s.setBusX b fun x => { x with ownRx := [] }
  let s := l.foldl (fun s e => s.filterFrame b e.1 e.2) s
  if own = l.map Prod.fst then s
  else (s.count (Obj.bus.rxDiffers b) 1).raise 0x18B b own.length l.length (s.rd Obj.prot.cycleNo).toNat

/-- Entries that a committed job read leave the queue (R469). -/
def State.takeFrames (b : Nat) (second : Bool) (n : Nat) (s : State) : State :=
  (s.setBusX b fun x => if second then { x with rx1 := x.rx1.drop n, drops1 := 0 } else { x with rx0 := x.rx0.drop n, drops0 := 0 }).showBus b

/-! ### Bus commands (R471, R472, R478) -/

/-- BUS_RECOVER (R471). -/
def busRecover (b : Nat) (s : State) : State :=
  if s.bits (Obj.bus.busStatus b) 5 4 = 2 then
    if (s.busX b).recovering then s.refuse (Obj.bus.cmdStatus b) BusCmd.recover Oc.busy
    else (s.setBusX b fun x => { x with recovering := true }).accept (Obj.bus.cmdStatus b) BusCmd.recover Oc.inProgress
  else s.accept (Obj.bus.cmdStatus b) BusCmd.recover Oc.done

def execBusRecover (bus : Fin 16) (s : State) : Host.Outcome State Fault Refusal := s.live (busRecover bus)

/-- BUS_RECOVERED (R471): error-active again, event 0x181; pending buffers contend again. -/
def busRecovered (b : Nat) (s : State) : State :=
  if (s.busX b).recovering then
    let ms := min 0xFFFFFFFF ((s.up - (s.busX b).busOffAt) / 1000000)
    ((s.resetErr b).setOutcome (Obj.bus.cmdStatus b) Oc.done).raise 0x181 b ms 0 0
  else s

def execBusRecovered (bus : Fin 16) (s : State) : Host.Outcome State Fault Refusal := s.live (busRecovered bus)

/-- BUS_RETIRE (R472). -/
def busRetire (b : Nat) (s : State) : State := (s.accept (Obj.bus.cmdStatus b) BusCmd.retire Oc.done).retireBus b 3

def execBusRetire (bus : Fin 16) (s : State) : Host.Outcome State Fault Refusal := s.live (busRetire bus)

/-- BUS_REINSTATE (R472): starts the loopback self-test of a retired bus. -/
def busReinstate (b : Nat) (s : State) : State :=
  if s.busRetired b = false then s.refuse (Obj.bus.cmdStatus b) BusCmd.reinstate Oc.notReady
  else if (s.busX b).testing.isSome then s.refuse (Obj.bus.cmdStatus b) BusCmd.reinstate Oc.busy
  else
    let s := s.setBusX b fun x => { x with testing := some s.up }
    (s.wrBits (Obj.bus.busStatus b) 2 0 BusSt.test).accept (Obj.bus.cmdStatus b) BusCmd.reinstate Oc.inProgress

def execBusReinstate (bus : Fin 16) (s : State) : Host.Outcome State Fault Refusal := s.live (busReinstate bus)

/-- BUS_SELF_TEST_DONE (R472): a pass returns the bus to service, listening until the next boundary (R473). -/
def busSelfTestDone (b failed : Nat) (s : State) : State :=
  match (s.busX b).testing with
  | none => s
  | some t =>
    let s := s.setBusX b fun x => { x with testing := none }
    if failed = 0 then
      let a := Obj.bus.busStatus b
      let s := ((s.wrBits a 31 24 0).wrBit Obj.cans.canSummary (16 + b) false).wrBits (Obj.bus.score b) 15 0 0
      let s := s.resetErr b
      let n := s.busTarget b
      let s := s.wrBits a 2 0 (if n = BusSt.normal then BusSt.listen else n)
      (s.setOutcome (Obj.bus.cmdStatus b) Oc.done).raise 0x187 b ((s.up - t) / 1000000) 0 0
    else
      let s := s.wrBits (Obj.bus.busStatus b) 2 0 BusSt.retired
      (s.setOutcome (Obj.bus.cmdStatus b) Oc.selfTestFailed).raise 0x188 b failed 0 0

def execBusSelfTestDone (bus : Fin 16) (failedFrames : Fin 101) (s : State) : Host.Outcome State Fault Refusal :=
  s.live (busSelfTestDone bus failedFrames)

/-- BUS_CLEAR_COUNTERS (R478). -/
def busClearCounters (b : Nat) (s : State) : State :=
  (State.clearAll [Obj.bus.txFrames b, Obj.bus.rxFrames b, Obj.bus.rxUnmatched b, Obj.bus.rxOverruns b, Obj.bus.rxDiffers b,
    Obj.bus.txDropped b, Obj.bus.errorFrames b, Obj.bus.busOffs b] s).accept (Obj.bus.cmdStatus b) BusCmd.clear Oc.done

def execBusClearCounters (bus : Fin 16) (s : State) : Host.Outcome State Fault Refusal := s.live (busClearCounters bus)

/-- DOMINANT_TIMEOUT (R463, R472). -/
def execDominantTimeout (bus : Fin 16) (s : State) : Host.Outcome State Fault Refusal := s.live (State.retireBus bus 2)

/-- CAN_SCORE_DECAY (R472): every 10 ms each score falls by 1. -/
def canScoreDecay (s : State) : State :=
  s.each (List.range 16) fun b s =>
    let a := Obj.bus.score b
    if s.bits a 15 0 = 0 then s else s.wrBits a 15 0 (s.bits a 15 0 - 1)

def execCanScoreDecay (s : State) : Host.Outcome State Fault Refusal := s.live canScoreDecay

/-! ### Sleep and wake (R475) -/

/-- CAN_SLEEP (R475): on entry to DORMANT, once the buffers are empty or after 100 ms. -/
def canSleep (b : Nat) (s : State) : State :=
  if (s.sys.mode = .dormant ∨ s.sys.trans = .park) ∧ s.busRetired b = false ∧ (s.busX b).testing = none then
    (s.dropBufs b 3 fun _ => true).wrBits (Obj.bus.busStatus b) 2 0 BusSt.asleep
  else s

def execCanSleep (bus : Fin 16) (s : State) : Host.Outcome State Fault Refusal := s.live (canSleep bus)

/-- A wake by a bus whose transceiver is armed (R475). -/
def State.canWake (b source : Nat) (s : State) : State :=
  if s.busState b = BusSt.asleep then (s.flag (Obj.bus.busFlags b) 5).wakeSource source b else s

/-- CAN_WAKE_DOMINANT (R475): WAKE_MODE 0. -/
def canWakeDominant (b : Nat) (s : State) : State :=
  match s.canRec b with
  | some r => if r.wakeMode = 0 then s.canWake b 1 else s
  | none => s

def execCanWakeDominant (bus : Fin 16) (s : State) : Host.Outcome State Fault Refusal := s.live (canWakeDominant bus)

/-- A wake frame by ID and by its first 8 bytes (R475); bytes a frame does not have read 0. -/
def CanRec.wakes (r : CanRec) (f : CanFrame) : Bool :=
  !CanFrameFd f && !f.remote && Nat.land (Nat.xor f.id.toNat r.wakeId) r.wakeMask == 0 &&
    (List.range 8).all fun i =>
      Nat.land (Nat.xor (byteAt f.data i) (byteAt r.wakeData i)) (byteAt r.wakeDmask i) == 0

/-- CAN_WAKE_FRAME (R475): WAKE_MODE 1; the waking frame is not queued. -/
def canWakeFrame (b : Nat) (f : CanFrame) (s : State) : State :=
  match s.canRec b with
  | some r => if r.wakeMode = 1 ∧ r.wakes f = true then s.canWake b 0 else s
  | none => s

def execCanWakeFrame (bus : Fin 16) (f : CanFrame) (s : State) : Host.Outcome State Fault Refusal := s.live (canWakeFrame bus f)

/-! ### Start-up and restart (R477) -/

/-- CAN state at power-up, FATAL or a cold restart: retirements stay. -/
def State.canColdStart (s : State) : State :=
  let kept := (List.range 16).filter s.busRetired
  let why := kept.map fun b => (b, s.bits (Obj.bus.busStatus b) 31 24)
  let s := { s with regs := s.regs.filter fun x => x.1 / 2 ^ 24 != 0x0F, can := .initial }
  s.each why fun b s =>
    (s.flag Obj.cans.canSummary (16 + b.1)).wr (Obj.bus.busStatus b.1) (w32 (b.2 * 2 ^ 24 + BusSt.retired))

/-- CAN state at the start of a warm restart or firmware pause: off the bus, transmit buffers emptied and counted. -/
def State.canWarmStart (s : State) : State :=
  s.each s.buses fun b s =>
    let s := (s.dropBufs b 4 fun _ => true).resetErr b
    s.wrBits (Obj.bus.busStatus b) 2 0 (if s.busRetired b then BusSt.retired else BusSt.off)

end Sys2Proof.Machine
end

