-- ==== Sys2Proof/Machine/ViewsB.lean ====
section
/-!
DEFINITION. Items of the recorder and of the Archive that the module computes when they are read (R565, R579, R580).
-/

namespace Sys2Proof.Machine

/-- The 32 bytes of a record (R552, R553). -/
def EvRecord.bytes (r : EvRecord) : List Byte :=
  let flags := r.sealed_.toNat + 2 * r.untraceable.toNat + 4 * r.unitB.toNat + 8 * r.seqSat.toNat + 16 * r.prevLost.toNat + 32 * r.powerFail.toNat
  let last := min 127 ((r.lastAt - r.time) / 10000000)
  leBytes (r.code + 512 * flags) 2 ++ leBytes r.repeat_ 2 ++ leBytes (r.inst + last * 2 ^ 17 + r.gen * 2 ^ 24) 4 ++ leBytes r.seq 4 ++
    leBytes r.time 8 ++ leBytes r.p1.toNat 4 ++ leBytes r.p2.toNat 4 ++ leBytes r.p3.toNat 4

/-! ### The read window (R565, R579) -/

/-- A record by its number: 1 from the buffer, 2 from the store, 0 where it is not held. -/
def State.recordAt (s : State) (rn : Nat) : Nat × List Word :=
  match s.rcd.buffer.find? (fun e => e.rn == rn) with
  | some e => (1, wordsOfBytes e.bytes 8)
  | none =>
    match s.rcd.pages.findSome? (fun p => if p.crcOk then p.recs.find? fun e => e.rn == rn else none) with
    | some e => (2, wordsOfBytes e.bytes 8)
    | none => (0, List.replicate 8 0)

/-- RN of the oldest record held. -/
def State.oldestRn (s : State) : Nat :=
  let l := (match s.rcd.pages.getLast? with | some p => p.recs.map EvRecord.rn | none => []) ++
    (match s.rcd.buffer.getLast? with | some e => [e.rn] | none => [])
  l.foldl min s.rcd.nextRn

/-- Items of space 0x12 computed at a read (R579). -/
def State.viewRcd (item session : Nat) (s : State) : Option Word :=
  let r := s.rcd
  let pair (n k : Nat) : Option Word := some (w32 (n / 2 ^ (32 * k)))
  let rn := (s.rd (sessKey session Obj.rcd.rdRn)).toNat + 2 ^ 32 * (s.rd (sessKey session (Obj.rcd.rdRn + 1))).toNat
  match item with
  | 0 => some (w32 (min 100 (r.unflushed * 100 / 65536) * 2 ^ 24 + r.wrapped.toNat * 4 + (decide (64512 ≤ r.unflushed)).toNat * 2 + r.flushing.toNat))
  | 5 => pair s.oldestRn 0
  | 6 => pair s.oldestRn 1
  | 7 => pair (r.nextRn - 1) 0
  | 8 => pair (r.nextRn - 1) 1
  | 9 => pair r.flushedRn 0
  | 0xA => pair r.flushedRn 1
  | 0xB => some (w32 r.seqFloor)
  | 0x10 => some (w32 (r.retired.length * 65536))
  | 0x13 => some (w32 (s.recordAt rn).1)
  | _ => if 0x14 ≤ item ∧ item ≤ 0x1B then some ((s.recordAt rn).2.getD (item - 0x14) 0) else none

/-! ### The Archive (R580) -/

def State.ns (s : State) (n : Nat) : NsX := lookupD .initial s.arc.nss n
def State.st (s : State) (p : Nat) : StPort := lookupD .initial s.arc.ports p
def State.archiveRec (s : State) (n : Nat) : Option ArchiveRec :=
  match s.catOf with | some c => c.archive.find? fun r => r.nsid == n | none => none

/-- Bytes of a segment (R572). -/
abbrev segBytes : Nat := 67108864

/-- Items of instance 0 of space 0x13. -/
def State.viewArc (item session : Nat) (s : State) : Option Word :=
  let n (f : NsX → Bool) : Nat := (s.arc.nss.filter fun x => f x.2).length
  let run := decide (s.bits (sessKey session Obj.arc.qStatus) 1 0 = 1) || decide (s.bits (sessKey session Obj.arc.qStatus) 1 0 = 2)
  match item with
  | 0 => some (w32 (n NsX.mounted * 2 ^ 24 + n NsX.full * 2 ^ 16 + n NsX.degraded * 256 + run.toNat))
  | _ => none

/-- ST_STATUS and CAPACITY of a storage port. -/
def State.viewSt (p item : Nat) (s : State) : Option Word :=
  let x := s.st p
  let mode := if x.testing then 4 else if x.retired.isSome then 3 else if !x.present then 0
    else if x.spaces.any fun y => !y.2.1 then 2
    else if s.arc.nss.any fun y => y.2.mounted && x.spaces.any fun z => z.1 == y.1 then 1 else 0
  match item with
  | 0 => some (w32 (x.retired.getD 0 * 2 ^ 24 + s.bits (Obj.st.stStatus p) 23 8 * 256 + mode))
  | 3 => some (w32 x.capacity)
  | _ => none

/-- Items of a namespace, by NSID. -/
def State.viewNs (n item : Nat) (s : State) : Option Word :=
  let x := s.ns n
  let r := s.archiveRec n
  let old := match x.segs.getLast? with | some g => g.firstTime | none => 0
  let new := match x.segs with | g :: _ => (match g.entries.getLast? with | some e => e.time | none => g.firstTime) | [] => 0
  match item with
  | 0 => some (w32 ((r.map ArchiveRec.content).getD 0 * 2 ^ 24 + (r.map ArchiveRec.port).getD 0 * 65536 + x.degraded.toNat * 128 +
      x.short.toNat * 64 + x.full.toNat * 32 + x.resilver.isSome.toNat * 16 + x.mounted.toNat))
  | 1 => some (w32 (min 100 (if x.gb = 0 then 0 else x.segs.length * segBytes * 100 / (x.gb * 1000000000)) * 65536))
  | 2 => some (w32 x.gb)
  | 3 => some (w32 old)
  | 4 => some (w32 (old / 2 ^ 32))
  | 5 => some (w32 new)
  | 6 => some (w32 (new / 2 ^ 32))
  | 7 => some (w32 (min 0xFFFFFFFF x.nextSeg))
  | 9 => some (w32 (x.resilver.getD 0))
  | _ => none

/-! ### Security and update (R610 to R616) -/

/-- The running firmware slot: the copy of the selection with the higher valid count (R583). -/
def UpdUnit.running (u : UpdUnit) : Nat :=
  if u.selA.valid && (!u.selB.valid || decide (u.selB.count ≤ u.selA.count)) then u.selA.slot else u.selB.slot
def UpdUnit.slot (u : UpdUnit) (k : Nat) : FwSlot := if k = 0 then u.slotA else u.slotB
/-- The header of the running image. -/
def UpdUnit.runningFw (u : UpdUnit) : FwHead := ((u.slot u.running).head).getD .factory

/-- Items of the security core (R610, R611). -/
def State.viewSec (item session : Nat) (s : State) : Option Word :=
  let u := s.sec
  let anchors := (List.range 10).any fun k => s.bits (Obj.key.keyStatus (k + 6)) 7 4 == 4
  match item with
  | 0 => some (w32 (s.sys.recovery.toNat * 128 + anchors.toNat * 64 + s.red.pairKey.isSome.toNat * 32 + u.logFull.toNat * 16 +
      (u.quotes.any fun q => q.1 == session).toNat * 8 + 1))
  | 4 => some (w32 u.log.length)
  | _ =>
    if 6 ≤ item ∧ item ≤ 0x14 then
      let k := (s.rd (sessKey session Obj.sec.logIndex)).toNat
      match u.log[k]? with
      | none => some 0
      | some e =>
        let j := item - 6
        some (if j = 0 then w32 (k * 65536 + e.kind * 256 + e.reg) else if j = 1 then w32 e.time else if j = 2 then w32 (e.time / 2 ^ 32)
          else w32 (e.digest.toNat / 2 ^ (32 * (j - 3))))
    else none

/-- MR0 to MR7 (R612). -/
def State.viewMr (item : Nat) (s : State) : Option Word := some (w32 ((s.sec.mrs.getD (item / 12) 0).toNat / 2 ^ (32 * (item % 12))))

/-- Items of a key slot that no object stores (R613, R614): those of the factory slots, IN_USE and PAIR. -/
def State.viewKey (k item : Nat) (s : State) : Option Word :=
  let factory := k == 0 || k == 2 || k == 3
  let pub := if k = 0 then Config.ecdsaPublic Config.deviceScalar else Config.firmwareKey k
  let use := k == 0 && !s.sec.quotes.isEmpty
  if item = 0 then
    if factory then some (w32 ((if k = 0 then 1 else 2) * 16 + use.toNat * 4 + 1))
    else some (putBit 1 (decide (16 ≤ k) && s.pairRole) (s.rd (Obj.key.keyStatus k)))
  else if factory then
    if item = 4 ∨ item = 5 then some (w32 ((Config.sha384 pub).toNat / 2 ^ (32 * (item - 4))))
    else if 8 ≤ item ∧ item ≤ 0x1F then some ((wordsOfBytes pub 24).getD (item - 8) 0)
    else none
  else if 0x20 ≤ item then some 0
  else none

/-- Items of the update unit (R615). -/
def State.viewUpd (item : Nat) (s : State) : Option Word :=
  let u := s.upd
  match item with
  | 0 => some (w32 (u.floor * 2 ^ 24 + u.runningFw.svn * 65536 + u.trial.toNat * 4 + (1 - u.running) * 2 + u.running))
  | 6 => some (if u.trial then w32 ((600000000000 - (u.trialUsed + (s.up - u.trialAt)) + 999999999) / 1000000000) else 0)
  | _ => none

/-- Items of a firmware slot, 0 A or 1 B (R615, R616). -/
def State.viewFw (k item : Nat) (s : State) : Option Word :=
  let x := s.upd.slot k
  let h := if x.state = 0 ∨ x.state = 1 ∨ x.state = 5 then none else x.head
  let n (f : FwHead → Nat) : Nat := (h.map f).getD 0
  match item with
  | 0 => some (w32 (x.reject * 65536 + (decide (x.state = 6) && s.upd.trial).toNat * 512 + x.previous.toNat * 256 + x.state))
  | 1 => some (w32 (n FwHead.version))
  | 2 => some (w32 (n FwHead.svn))
  | 3 => some (w32 (n FwHead.length))
  | 4 => some (w32 (n FwHead.buildTime))
  | 5 => some (w32 (n FwHead.buildTime / 2 ^ 32))
  | 6 => some (w32 x.pages.length)
  | 7 => some (w32 (n FwHead.keyId))
  | 8 => some (w32 (n FwHead.keyId / 2 ^ 32))
  | _ => if 9 ≤ item ∧ item ≤ 0x14 then some (w32 (n (fun f => f.digest.toNat) / 2 ^ (32 * (item - 9)))) else none

/-- Items of the certificate window (R612): CERT_SIZE, and 64 words from CERT_OFFSET. -/
def State.viewCert (item session : Nat) (s : State) : Option Word :=
  let pub := bytesOfWords (s.rdList (Obj.key.public 1) 24)
  let b := match (s.rd (sessKey session Obj.cert.certSelect)).toNat with
    | 0 => Config.deviceCert
    | 1 => s.sec.cert.getD []
    | 2 => if s.bits (Obj.key.keyStatus 1) 7 4 = 0 then [] else Config.signingRequest pub
    | _ => lookupD [] s.sec.staged session
  if item = 2 then some (w32 b.length)
  else if 0x40 ≤ item then some (w32 (leAt b ((s.rd (sessKey session Obj.cert.certOffset)).toNat + 4 * (item - 0x40)) 4))
  else none

end Sys2Proof.Machine
end

