-- ==== Sys2Proof/Machine/Views.lean ====
section
/-!
DEFINITION. What a read of an object item returns: which instances exist (R7, R9), items the module computes when they
are read, and items whose value no rule gives.
-/

namespace Sys2Proof.Machine

/-- Items kept separately for each exchange session (R353, R389, R573, R598, R601). -/
def perSession (k : ObjKind) (item : Nat) : Bool :=
  match k with
  | .safe => item == 0x1E || decide (0x28 ≤ item ∧ item ≤ 0x58)
  | .sched => item == 0x0B || item == 0x0C
  | .rcd => item == 0x11 || item == 0x12
  | .arc => decide (0x04 ≤ item ∧ item ≤ 0x0C)
  | .sec => item == 0x05 || decide (0x15 ≤ item ∧ item ≤ 0x5F)
  | .key => decide (0x20 ≤ item)
  | .cert => true
  | _ => false

/-- The key under which an item stands, for a session. -/
def itemKey (session a : Nat) : Nat :=
  match kindOf (a / 2 ^ 24 % 256) (a / 2 ^ 7 % 2 ^ 17) with
  | some k => if perSession k (a % 128) then sessKey session a else a
  | none => a

/-- Whether an instance exists, as the running Catalogue configures it (R7). -/
def State.present (s : State) (k : ObjKind) (inst : Nat) : Bool :=
  match k with
  | .cal | .impS | .thm | .pstr | .func => s.hasString (inst - 256)
  | .port => s.portEnabled inst
  | .node => (s.nodeRec (inst / 64) (inst % 64)).isSome
  | .str | .bal => s.hasString inst
  | .cell => s.cellExists inst
  | .task => (s.taskRec (inst - 64)).isSome
  | .loop => match s.catOf with | some c => (c.loopRec (inst - 256)).isSome | none => false
  | .bus => (s.canRec (inst - 16)).isSome
  | .wk => s.role == 2 && decide (inst - 64 ≤ 63)
  | .sess => s.bits (Obj.sess.sessStatus (inst - 64)) 2 0 != 0
  | .ns => match s.catOf with | some c => c.archive.any fun r => r.nsid == inst - 64 | none => false
  | _ => true

/-- The table row of an address whose instance exists. -/
def State.objAt (s : State) (a : Nat) : Option (ObjKind × ObjDef) :=
  match kindOf (a / 2 ^ 24 % 256) (a / 2 ^ 7 % 2 ^ 17), objDefAt a with
  | some k, some d => if s.present k (a / 2 ^ 7 % 2 ^ 17) then some (k, d) else none
  | _, _ => none

/-- A word with a field replaced by a free value (log 1). -/
def freeField (hi lo : Nat) (w : Word) (s : State) : Word × State :=
  let (f, s) := s.fresh
  (putBits hi lo f.toNat w, s)

/-- Milliseconds left of a grace of `secs` seconds that began at a run time. -/
def State.graceLeft (s : State) (secs : Nat) (from_ : Option Nat) : Word :=
  match from_ with
  | some t => w32 (min 65535 ((t + secs * 1000000000 - s.up) / 1000000))
  | none => 0

/-- MODE (R31). -/
def State.modeWord (s : State) : Word :=
  let y := s.sys
  let own := y.own || (!s.pairRole && y.mode != .boot)
  w32 ((y.mismatchHold || s.bit Obj.mod.faults 1).toNat * 2 ^ 19 + y.lockstep.toNat * 2 ^ 18 +
    (s.bit Obj.red.redStatus 17 || s.bit Obj.red.redStatus 18).toNat * 2 ^ 17 + s.commander.toNat * 2 ^ 16 + own.toNat * 2 ^ 15 +
    y.unitB.toNat * 2 ^ 14 + s.role * 2 ^ 12 + y.trans.code * 256 + y.prev.code * 16 + y.mode.code)

/-- CONFIG (R33, R70). -/
def State.configWord (s : State) : Word :=
  match s.catOf with
  | some c => w32 (c.module_.partnerWait * 65536 + c.module_.startKind * 2 + c.module_.autoRun.toNat)
  | none => w32 0x001E0001

/-- The declared load of a core pair in percent, from periods and WCETs (R53, R394). -/
def State.declaredLoad (s : State) (cls core : Nat) : Nat :=
  ((s.tasks.filter fun r => r.cls == cls && r.core == core).foldl (fun n r => n + (if r.period = 0 then 0 else r.wcet * 10000 / r.period)) 0) / 100

/-- The change-log entry with a SEQ, as LOG_ENTRY shows it (R348). -/
def State.logWords (s : State) (seq : Nat) : List Word :=
  match s.island.log.find? (fun e => e.seq == seq) with
  | some e => e.words ++ [w32 e.chain]
  | none => List.replicate 8 0

/-- Bytes of retained area that the Catalogue declares. -/
def State.retainUsed (s : State) : Nat :=
  match s.catOf with | some c => c.retained.foldl (fun n r => max n (r.offset + r.size)) 0 | none => 0

/-- HB_AGE (R513): silence of each path in µs, saturating. -/
def State.hbAge (s : State) : Nat :=
  let age (t : Option Nat) : Nat := match t with | some t => min 0xFFFF ((s.up - t) / 1000) | none => 0xFFFF
  age s.red.ilAt * 65536 + age s.red.xAt

/-- DISP_AGE (R515): ms since the last accepted dispatch, saturating. -/
def State.dispAge (s : State) : Nat := match s.red.dispAt with | some t => min 0xFFFFFFFF ((s.up - t) / 1000000) | none => 0xFFFFFFFF

/-- TRANSFER (R513): strings in, and the step of R505 in progress, 0 none. -/
def State.transferWord (s : State) : Nat :=
  match s.red.join with
  | none => 0
  | some j =>
    let step := if s.red.pairKey.isNone then 1 else if !s.bit Obj.time.timeStatus 8 then 2 else if !j.gotModule then 3
      else match s.catOf with
        | some c => if c.strings.all fun r => j.strings.contains r.string then 5 else 4
        | none => 4
    j.strings.length * 65536 + step

/-- IDENTITY_MAC (R518) as a number, its first byte the most significant; 0 without a Catalogue. -/
def State.identityMac (s : State) : Nat :=
  match s.catOf with
  | some c => 0x024750 * 2 ^ 24 + c.head.catalogueId % 65536 * 256 + 2 * c.redundancy.pairIndex
  | none => 0

/-- Pinned rings (R46). -/
def State.pinnedCount (s : State) : Nat :=
  match s.catOf with | some c => ((c.ringAlloc.filter RingAllocRec.pin).map RingAllocRec.count).foldl (· + ·) 0 | none => 0

/-- CLASS_USE of a class (R542): entries held and operations waiting. -/
def State.classUse (s : State) (c : Nat) : Nat :=
  (s.net.vit.held.filter fun o => o.cls == c).length * 65536 + min 65535 (s.net.vit.waiting.filter fun o => o.cls == c).length

/-- Items that the module computes at a read, and items with no stated value. `none` stands for the stored item. -/
def State.viewItem (k : ObjKind) (inst item session : Nat) (s : State) : Option (Word × State) :=
  let v (w : Word) : Option (Word × State) := some (w, s)
  let a := 0
  match k, item with
  | .mod, 6 => v s.modeWord
  | .mod, 0xF => v s.configWord
  | .time, 0 => v (w32 s.now)
  | .time, 1 => v (w32 (s.now / 2 ^ 32))
  | .time, 2 => v (w32 (shortOf s.now))
  | .time, 3 => v (putBit 4 s.leader (s.rd Obj.time.timeStatus))
  | .cal, 0 =>
    let n := inst - 256
    let w := s.rd (Obj.cal.calStatus n)
    v (putBits 23 16 (s.reaching n).length (putBits 15 8 (s.lockedNodes n) w))
  | .port, _ =>
    if 256 ≤ inst ∧ obj 0x03 (inst - 256) item = Obj.port.ring (inst - 256) then v (s.rd (Obj.port.ring (inst - 256))) else none
  | .node, 0 =>
    let p := inst % 64
    let n := inst / 64
    let w := s.rd (Obj.node.nodeStatus inst)
    v (putBit 6 (decide (p ≤ s.reachW n)) (putBit 7 (decide (s.reachE n ≤ p)) w))
  | .str, _ =>
    let p := Obj.str.provSnapshot inst % 128
    if p ≤ item ∧ item < p + 12 then v ((s.provWords inst).getD (item - p) 0) else none
  | .mthm, 2 => v (s.graceLeft (match s.catOf with | some c => c.module_.moduleGrace | none => 5) s.therm.modGrace)
  | .thm, 0xA =>
    let n := inst - 256
    v (s.graceLeft (match s.threshOf n with | some t => t.grace | none => 5) (s.strTherm n).grace)
  | .prot, 0 =>
    let (w, s) := freeField 31 16 (w32 s.protUs) s
    some (w, s)
  | .safe, 4 =>
    match s.island.session with
    | some x =>
      let left := (s.bits Obj.safe.safeCfg 7 0 * 60000000000 + x.lastWrite - s.up) / 60000000000
      v (putBits 23 16 left (s.rd Obj.safe.session))
    | none => none
  | .sched, 9 => v (w32 s.retainUsed)
  | .sched, 0xD =>
    let var := (s.rd (sessKey session Obj.sched.varSelect)).toNat
    match s.varDecl var with
    | some d => v (w32 (2 ^ 31 + d.writable.toNat * 2 ^ 30 + (s.retainedRec var).isSome.toNat * 2 ^ 29 + d.type % 65536))
    | none => v 0
  | .sched, 0xE =>
    match s.varDecl (s.rd (sessKey session Obj.sched.varSelect)).toNat with
    | some d => v (w32 d.size)
    | none => v 0
  | .task, 4 => match s.taskRec (inst - 64) with | some r => v (w32 r.period) | none => none
  | .task, 5 => match s.taskRec (inst - 64) with | some r => v (w32 r.wcet) | none => none
  | .core, 0 =>
    let cls := if inst < 132 then 1 else 0
    let j := if inst < 132 then inst - 128 else inst - 132
    let w := w32 (s.declaredLoad cls j * 2 ^ 24 + (s.tasks.filter fun r => r.cls == cls && r.core == j).length)
    some (freeField 23 8 w s)
  | .core, 1 => some s.fresh
  | .eng, 0 => some (freeField 31 16 (w32 (match s.catOf with | some c => c.loops.length | none => 0)) s)
  | .di, _ =>
    if item = Obj.di.diCfg 0 % 128 then
      match s.fieldRec 0 (inst - 256) with
      | some r => v (w32 (r.wake * 1024 + r.filterN))
      | none => v (w32 10)
    else none
  | .dout, _ => if item = Obj.dout.doCurrent 0 % 128 then some s.fresh else none
  | .ao, 6 => if s.bits (Obj.ao.aoStatus (inst - 640)) 1 0 = 0 then v 0x80000000 else some s.fresh
  | .ao, 7 => some s.fresh
  | .ao, 8 => some s.fresh
  | .red, 9 => v (w32 s.hbAge)
  | .red, 0xA => v (w32 s.transferWord)
  | .hier, 0 =>
    let (w, p) := match s.catOf with | some c => (c.redundancy.workers, c.redundancy.pairIndex) | none => (0, 0)
    v (putBits 23 16 w (putBits 15 10 p (s.rd Obj.hier.hierStatus)))
  | .hier, 3 => v (w32 s.dispAge)
  | .net, 0 =>
    v (w32 (min 255 s.net.sessions.length * 2 ^ 24 + s.net.modbus.length * 2 ^ 16 + min 4095 s.net.subs.length * 16 + s.owner.toNat * 8))
  | .net, 5 => v (w32 s.identityMac)
  | .net, 6 => v (w32 (s.identityMac / 2 ^ 32))
  | .net, 7 => v (w32 (s.identityMac + (if s.catOf.isSome then 1 else 0)))
  | .net, 8 => v (w32 (s.identityMac / 2 ^ 32))
  | .vit, 0 => v (w32 (s.pinnedCount * 2 ^ 19 + s.net.vit.held.length * 64))
  | .vit, 0xD => v (match s.catOf with | some c => w32 (c.vitrine.prot * 65536 + c.vitrine.plant) | none => 0)
  | .vit, 0xE => v (match s.catOf with | some c => w32 (c.vitrine.host * 65536 + c.vitrine.arch) | none => 0)
  | .vit, _ => if 2 ≤ item ∧ item ≤ 5 then v (w32 (s.classUse (item - 2))) else none
  | .sess, 0 =>
    let i := inst - 64
    let n := (s.net.reqs.filter fun r => r.dest == .session i).length
    v (putBits 23 16 (min 255 n) (s.rd (Obj.sess.sessStatus i)))
  | .pwr, 4 => some s.fresh
  | .pwr, 5 => some s.fresh
  | .pwr, 6 => some s.fresh
  | .pwr, 7 => some (freeField 31 16 (s.rd Obj.pwr.holdup) s)
  | .rcd, _ => (s.viewRcd item session).map fun w => (w, s)
  | .arc, _ => (s.viewArc item session).map fun w => (w, s)
  | .sec, _ => (s.viewSec item session).map fun w => (w, s)
  | .cert, _ => (s.viewCert item session).map fun w => (w, s)
  | .mr, _ => (s.viewMr item).map fun w => (w, s)
  | .key, _ => (s.viewKey (inst - 16) item).map fun w => (w, s)
  | .upd, _ => (s.viewUpd item).map fun w => (w, s)
  | .fw, _ => (s.viewFw (inst - 1) item).map fun w => (w, s)
  | .st, _ => (s.viewSt (inst - 16) item).map fun w => (w, s)
  | .ns, _ => (s.viewNs (inst - 64) item).map fun w => (w, s)
  | _, _ =>
    if k = .sched ∧ 0x10 ≤ item ∧ item ≤ 0x1B then
      match s.catOf with
      | some c => v (w32 (c.head.progDigest.toNat / 2 ^ (32 * (item - 0x10))))
      | none => v 0
    else if k = .sched ∧ 0x40 ≤ item then v (s.varWord session (item - 0x40))
    else if k = .safe ∧ 0x20 ≤ item ∧ item ≤ 0x27 then
      v ((s.logWords (s.rd (sessKey session Obj.safe.logIndex)).toNat).getD (item - 0x20) a)
    else none

/-- The value a read of an item returns now, without its side effects; `none` is NO_OBJECT (R8, R9, R390). -/
def State.peek (session a : Nat) (s : State) : Option (Word × State) :=
  match s.objAt a with
  | none => none
  | some (k, d) =>
    let item := a % 128
    if k = .sched ∧ 0x40 ≤ item ∧ (s.varDecl (s.rd (sessKey session Obj.sched.varSelect)).toNat).isNone then none
    else if d.acc = .wo then some (0, s)
    else
      match s.viewItem k (a / 2 ^ 7 % 2 ^ 17) item session with
      | some r => some r
      | none => some (s.rd (itemKey session a), s)

end Sys2Proof.Machine
end

