-- ==== Sys2Proof/Machine/Exch.lean ====
section
/-!
DEFINITION. Exchange sessions, requests, the duplicate-result cache and replies (R519 to R532, R618 to R622).
-/

namespace Sys2Proof.Machine

/-! ### Accessors and codes -/

def State.modNet (f : NetUnit → NetUnit) (s : State) : State := { s with net := f s.net }
def State.sessX (s : State) (i : Nat) : Option SessX := (s.net.sessions.find? fun x => x.1 == i).map Prod.snd

/-- Reply STATUS (R525). -/
abbrev Rs.ok : Nat := 0x00
abbrev Rs.badMessage : Nat := 0x01
abbrev Rs.noObject : Nat := 0x02
abbrev Rs.wrongAccess : Nat := 0x03
abbrev Rs.wrongMode : Nat := 0x04
abbrev Rs.notAuthorised : Nat := 0x05
abbrev Rs.badValue : Nat := 0x06
abbrev Rs.busy : Nat := 0x07
abbrev Rs.notReady : Nat := 0x08
abbrev Rs.notBlank : Nat := 0x09
abbrev Rs.noRight : Nat := 0x0A
abbrev Rs.notOwner : Nat := 0x0B
abbrev Rs.wrongPort : Nat := 0x0C
abbrev Rs.outOfOrder : Nat := 0x0D
abbrev Rs.discarded : Nat := 0x0E
abbrev Rs.partial_ : Nat := 0x0F
abbrev Rs.badScope : Nat := 0x10
abbrev Rs.failed : Nat := 0x11
abbrev Rs.unreachable : Nat := 0x12
abbrev Rs.nodeStatus : Nat := 0x13
abbrev Rs.noRing : Nat := 0x14
abbrev Rs.ringFull : Nat := 0x15
abbrev Rs.workerSilent : Nat := 0x16

/-- The reply STATUS that a command's OUTCOME stands for (R33, R525). -/
def statusOfOutcome (o : Nat) : Nat :=
  match o with
  | 0 | 1 => Rs.ok
  | 2 => Rs.wrongMode
  | 3 => Rs.busy
  | 4 | 7 => Rs.notReady
  | 5 => Rs.badValue
  | 8 => Rs.notAuthorised
  | 0xB => Rs.unreachable
  | 0xC => Rs.discarded
  | 0xD => Rs.nodeStatus
  | _ => Rs.failed

/-- Message types (R524). -/
abbrev Mt.hello : Nat := 1
abbrev Mt.bye : Nat := 2
abbrev Mt.read : Nat := 3
abbrev Mt.write : Nat := 4
abbrev Mt.imageWrite : Nat := 5
abbrev Mt.ring : Nat := 6
abbrev Mt.subscribe : Nat := 7
abbrev Mt.unsubscribe : Nat := 8
abbrev Mt.dispatch : Nat := 9
abbrev Mt.forward : Nat := 10
abbrev Mt.keepalive : Nat := 11

/-- Bits of RIGHTS (R522). -/
abbrev Rt.r : Nat := 0
abbrev Rt.w : Nat := 1
abbrev Rt.c : Nat := 2
abbrev Rt.f : Nat := 3
abbrev Rt.s : Nat := 4

def State.sessState (s : State) (i : Nat) : Nat := s.bits (Obj.sess.sessStatus i) 2 0
def State.hasRight (s : State) (i r : Nat) : Bool := s.bits (Obj.sess.sessStatus i) 12 8 / 2 ^ r % 2 == 1
def State.identitySession (s : State) (i : Nat) : Bool := s.bit (Obj.sess.sessStatus i) 3

/-- Whether a pair-agreed request of a session is refused with NOT_OWNER (R519). -/
def State.notOwnerFor (s : State) (i : Nat) : Bool := !s.owner && !s.identitySession i

/-! ### Ending sessions (R521, R593) -/

/-- A session ends: event 0x1C1 with its cause; an authorised safety session it holds ends with it (R346). -/
def State.closeSession (i cause : Nat) (s : State) : State :=
  match s.sessX i with
  | none => s
  | some x =>
    let s := if s.sessState i = 2 then s.raise 0x1C1 (64 + i) (x.client % 2 ^ 32) cause (s.rd (Obj.sess.sessRequests i)).toNat else s
    let s := match s.island.session with
      | some q => if q.session = i then s.endSafetySession (if cause = 5 then 4 else 3) else s
      | none => s
    let s := State.clearAll ((List.range 10).map fun k => Obj.sess.sessStatus i + k) (s.dropSession i)
    let s := { s with arc := { s.arc with queries := eraseKey i s.arc.queries }, sec := { s.sec with staged := eraseKey i s.sec.staged, quotes := s.sec.quotes.filter fun q => q.1 != i } }
    let s := s.modNet fun u =>
      { u with
        sessions := u.sessions.filter fun y => y.1 != i
        reqs := u.reqs.map fun r =>
          { r with dest := if r.dest = .session i then .gone else r.dest, waiters := r.waiters.filter fun w => w != i } }
    s.emit (.closed (.session (Fin.ofNat 68 i)))

/-! ### The duplicate-result cache (R529, R530, R620) -/

/-- `a` above `b` by signed 32-bit difference. -/
def noAbove (a b : Nat) : Bool := decide (0 < signedOf 32 (a + 2 ^ 32 - b % 2 ^ 32))

/-- A client's records held now: each for 60 s. -/
def State.cacheRecs (s : State) (client : Nat) : List CacheRec :=
  match s.net.cache.find? (fun c => c.client == client) with
  | some c => c.recs.filter fun r => decide (s.up ≤ r.at_ + 60000000000)
  | none => []

/-- The acceptance mark of a client (R620): its highest number held in the cache or in progress. -/
def State.acceptMark (s : State) (client : Nat) : Option Nat :=
  let l := (s.cacheRecs client).map CacheRec.no ++ (s.net.reqs.filter fun r => r.client == client && !r.discarded).map HostReq.no
  l.foldl (fun m k => match m with | some h => if noAbove k h then some k else m | none => some k) none

/-- CACHE [31:16], clients held. -/
def State.showCache (s : State) : State := s.wrBits Obj.net.cache 31 16 s.net.cache.length

/-- Stores a record (R530): the last 1,024 of each of at most 256 clients; event 0x1C5 at an eviction. -/
def State.cachePut (client : Nat) (r : CacheRec) (s : State) : State :=
  let old := match s.net.cache.find? (fun c => c.client == client) with | some c => c.recs | none => []
  let others := s.net.cache.filter fun c => c.client != client
  let recs := (r :: old.filter fun q => q.no != r.no && decide (s.up ≤ q.at_ + 60000000000)).take 1024
  let s := match others.drop 255 with
    | c :: _ =>
      ((s.wrBits Obj.net.cache 15 0 (min 65535 (s.bits Obj.net.cache 15 0 + 1))).flag Obj.net.netFlags 3).raise 0x1C5 0
        (c.client % 2 ^ 32) c.recs.length 0
    | [] => s
  (s.modNet fun u => { u with cache := ⟨client, recs⟩ :: others.take 255 }).showCache

/-! ### Requests and replies -/

/-- A reply on a session, if it is still open. -/
def State.reply (i client no type status flags : Nat) (payload : List Byte) (s : State) : State :=
  if (s.sessX i).isSome then s.emit (.reply i client no (type % 256) status (flags + 1) payload) else s

/-- Whether the standby must acknowledge a result before the reply leaves (R494). -/
def State.replicating (s : State) : Bool :=
  s.sys.mode == .active && s.bit Obj.red.redStatus 23 && s.bit Obj.red.redStatus 17

/-- The Modbus exception of a reply status (R546). -/
def modbusException (status : Nat) : Nat := if status = Rs.badValue then 3 else if status = Rs.wrongAccess then 1 else 4

/-- A Modbus exception response, with event 0x1CD (R546, R551). -/
def State.modbusRefuse (conn tid unit function register code : Nat) (s : State) : State :=
  (s.emit (.modbus conn tid unit (function + 128) [BitVec.ofNat 8 code])).raise 0x1CD 0 function code register

/-- Big-endian 16-bit. -/
def be16 (n : Nat) : List Byte := [BitVec.ofNat 8 (n / 256), BitVec.ofNat 8 n]

/-- Sends the answer of a request to its sender and to everyone waiting for it, and drops the request. -/
def State.answer (id status : Nat) (payload : List Byte) (s : State) : State :=
  match s.net.reqs.find? (fun r => r.id == id) with
  | none => s
  | some r =>
    let s := s.modNet fun u => { u with reqs := u.reqs.filter fun q => q.id != id }
    let fl := if r.multi then 4 else 0
    let s := match r.dest with
      | .session i => s.reply i r.client r.no r.type status fl payload
      | .modbus c t n f a v =>
        if status = Rs.ok then s.emit (.modbus c t n f (be16 a ++ be16 v)) else s.modbusRefuse c t n f a (modbusException status)
      | .gone => s
    s.each r.waiters fun i s => s.reply i r.client r.no r.type status fl payload

/-- Whether replies of a type are stored in the cache (R530, R532, R544). -/
def cachedType (type : Nat) : Bool :=
  [Mt.write, Mt.imageWrite, Mt.ring, Mt.subscribe, Mt.unsubscribe, Mt.forward].contains type

/-- A completion (R530, R531, R494): the reply is stored, replicated where the agreement is current, and sent. A
completion for a discarded request is dropped and counted, event 0x1C4. -/
def State.finish (id status : Nat) (payload : List Byte) (s : State) : State :=
  match s.net.reqs.find? (fun r => r.id == id) with
  | none => s
  | some r =>
    if r.discarded then
      ((s.modNet fun u => { u with reqs := u.reqs.filter fun q => q.id != id }).count Obj.net.lateCompletions 1).raise 0x1C4
        (match r.dest with | .session i => 64 + i | _ => 0) (r.type % 256) r.no 0
    else
      let cached := cachedType r.type && (match r.dest with | .modbus .. => false | _ => true)
      let s := if cached then s.cachePut r.client ⟨r.no, r.type, status, r.multi, payload, s.up⟩ else s
      if cached && s.replicating then
        let s := s.modNet fun u => { u with reqs := u.reqs.map fun q => if q.id = id then { q with ready := some (status, payload) } else q }
        s.xSend (.result ⟨BitVec.ofNat 64 r.client, w32 r.no, BitVec.ofNat 8 r.type, BitVec.ofNat 16 status, r.multi, payload⟩)
      else s.answer id status payload

/-- A request taken in progress; the answer is its identity. -/
def State.openReq (dest : ReplyTo) (client no type addr : Nat) (multi agreed : Bool) (left : Nat) (s : State) : Nat × State :=
  let id := s.net.nextReq
  let r : HostReq :=
    { id := id, dest := dest, client := client, no := no, type := type, at_ := s.up, addr := addr, multi := multi, pairAgreed := agreed
      committed := false, discarded := false, left := left, accepted := 0, refused := 0, first := none, ready := none, waiters := [] }
  (id, s.modNet fun u => { u with nextReq := id + 1, reqs := u.reqs ++ [r] })

def State.modReq (id : Nat) (f : HostReq → HostReq) (s : State) : State :=
  s.modNet fun u => { u with reqs := u.reqs.map fun r => if r.id = id then f r else r }

/-- Requests of a session that are outstanding (R521). -/
def State.outstanding (s : State) (i : Nat) : Nat := (s.net.reqs.filter fun r => r.dest == .session i && !r.discarded).length

/-- The state after a message on a session has been counted; its silence ends, and its CLIENT is noted (R521). -/
def State.heard (i : Nat) (q : ReqHead) (s : State) : State :=
  ((s.modNet fun u =>
    { u with sessions := u.sessions.map fun y => if y.1 = i then (i, { y.2 with lastAt := s.up, client := q.client.toNat }) else y }).count
      Obj.net.requests 1).count (Obj.sess.sessRequests i) 1

/-- A message reaches an open session: counted, and the session's silence ends. The first message must be HELLO, else the
module closes the session with event 0x1C2 (R521). Beyond 256 outstanding requests nothing is read. -/
def State.onMessage (i : Nat) (q : ReqHead) (f : State → State) (s : State) : State :=
  match s.sessX i with
  | none => s
  | some x =>
    if s.sessState i ≠ 2 then ((s.flag Obj.net.netFlags 0).raise 0x1C2 (64 + i) 3 x.port 0).closeSession i 3
    else if 256 ≤ s.outstanding i then s
    else f (s.heard i q)

/-- A request of a cached type (R529, R530): one in progress is joined, one held is answered from its record, one at or
below the mark is refused, and any other is taken; `right` refuses it with NO_RIGHT. -/
def State.admitReq (i : Nat) (q : ReqHead) (type : Nat) (rights : List Nat) (f : State → State) (s : State) : State :=
  s.onMessage i q fun s =>
    let c := q.client.toNat
    let n := q.no.toNat
    if s.net.reqs.any (fun r => r.client == c && r.no == n && !r.discarded) then
      s.modNet fun u => { u with reqs := u.reqs.map fun r => if r.client = c ∧ r.no = n then { r with waiters := r.waiters ++ [i] } else r }
    else
      match (s.cacheRecs c).find? (fun r => r.no == n) with
      | some r => (s.count Obj.net.duplicates 1).reply i c n type r.status (if r.multi then 6 else 2) r.payload
      | none =>
        match s.acceptMark c with
        | some m => if noAbove n m then taken s else s.reply i c n type Rs.outOfOrder 0 []
        | none => taken s
where
  /-- The request is new. -/
  taken (s : State) : State :=
    if rights.all (s.hasRight i) then f s
    else
      let (id, s) := s.openReq (.session i) q.client.toNat q.no.toNat type 0 false false 0
      s.finish id Rs.noRight []

/-- A request of a type that is not cached, with the right it needs. -/
def State.direct (i : Nat) (q : ReqHead) (type : Nat) (rights : List Nat) (f : State → State) (s : State) : State :=
  s.onMessage i q fun s =>
    if rights.all (s.hasRight i) then f s else s.reply i q.client.toNat q.no.toNat type Rs.noRight 0 []

/-- A request of a cached type answered at once. -/
def State.refuseReq (i : Nat) (q : ReqHead) (type status : Nat) (s : State) : State :=
  let (id, s) := s.openReq (.session i) q.client.toNat q.no.toNat type 0 false false 0
  s.finish id status []

/-- A malformed request gets BAD_MESSAGE and changes nothing (R523, R664). -/
def State.badRequest (i : Nat) (q : ReqHead) (type : Nat) (s : State) : State :=
  s.reply i q.client.toNat q.no.toNat type Rs.badMessage 0 []

/-- The discard of a request that has not committed (R619): its staged writes go with it. Cause 1 is REQ_DEADLINE, 2 a
switch-over, 3 a warm restart, 4 LOCKOUT; event 0x1C3. -/
def State.discardRequest (r : HostReq) (cause : Nat) (s : State) : State :=
  let s := s.modSched fun u => { u with hostStaged := u.hostStaged.filter fun h => h.req != some r.id }
  ((s.count Obj.net.discards 1).flag Obj.net.netFlags 2).raise 0x1C3 (match r.dest with | .session i => 64 + i | _ => 0) (r.type % 256) r.no cause

/-- Every request not committed is discarded without reply (R531, R619). -/
def State.discardRequests (cause : Nat) (s : State) : State :=
  let l := s.net.reqs.filter fun r => !r.committed && !r.discarded
  let s := s.each l fun r s => s.discardRequest r cause
  (s.modNet fun u => { u with reqs := u.reqs.filter fun r => r.committed || r.discarded }).modSched fun u => { u with hostStaged := [] }

/-! ### Opening a session (R520, R521, R598) -/

/-- The trust anchors of slots 6 to 15: slot, key X then Y, RIGHTS. -/
def State.anchors (s : State) : List (Nat × List Byte × Nat) :=
  (List.range 10).filterMap fun k =>
    let i := k + 6
    if s.bits (Obj.key.keyStatus i) 7 4 ≠ 4 then none
    else some (i, bytesOfWords (s.rdList (Obj.key.public i) 24), s.bits (Obj.key.keyStatus i) 23 16)

/-- What a client chain grants on a port: a refusal's cause for event 0x1ED, or the rights and the anchors the chain ends
at (R598). -/
def State.chainGrant (s : State) (port : Nat) (c : ClientChain) : Nat ⊕ (Nat × List Nat) :=
  let t := s.now
  let late : Nat := if c.notAfter.toNat < t then 2 else if s.bit Obj.time.timeStatus 9 && decide (t < c.notBefore.toNat) then 3 else 0
  let bad : Nat := if late ≠ 0 then late else if !c.signatures then 5 else if !c.usage then 6 else 0
  if s.anchors.isEmpty then
    if port ≠ 8 ∨ c.selfSigned = false then .inl 1
    else if bad = 0 then .inr (0b01111, []) else .inl bad
  else
    let l := s.anchors.filter fun a => a.2.1 == c.topKey
    let rights := l.foldl (fun a x => Nat.lor a x.2.2) 0
    if l.isEmpty then .inl 1
    else if late ≠ 0 then .inl late
    else if 3 < c.length.val ∨ c.length.val = 0 then .inl 4
    else if bad ≠ 0 then .inl bad
    else .inr (if port = 8 then rights else Nat.land rights 0b10111, l.map Prod.fst)

/-- TLS_CONNECT (R520, R521, R598): a connection whose handshake completes becomes a session; beyond the limit, or with a
chain that is rejected, it is closed, events 0x1C2 and 0x1ED. -/
def tlsConnect (port : Nat) (identity : Bool) (peer : BitVec 128) (c : ClientChain) (s : State) : State :=
  if (s.sys.mode = .boot ∧ s.sys.recovery = false) ∨ (s.sys.recovery = true ∧ port ≠ 8) ∨ (port < 8 ∧ s.plantPort port = false) ∨ (identity = true ∧ (port = 8 ∨ s.owner = false)) then s
  else
    let limit := match s.catOf with | some k => k.network.sessions | none => 16
    let range := if port = 8 then (List.range 4).map (· + 64) else List.range limit
    match s.chainGrant port c with
    | .inl cause =>
      ((((s.count Obj.sec.certRejects 1).flag Obj.sec.secFlags 1).raise 0x1ED 0 cause port 0).flag Obj.net.netFlags 0).raise 0x1C2 0 2 port 0
    | .inr (rights, anchors) =>
      match range.find? fun i => (s.sessX i).isNone with
      | none => (s.flag Obj.net.netFlags 0).raise 0x1C2 0 1 port 0
      | some i =>
        let x : SessX := { port := port, identity := identity, granted := rights, anchors := anchors, client := 0, lastAt := s.up }
        let s := s.modNet fun u => { u with sessions := (i, x) :: u.sessions }
        let s := s.wr (Obj.sess.sessStatus i) (w32 (port * 16 + identity.toNat * 8 + 1))
        State.wrList (Obj.sess.sessPeer i) ((List.range 4).map fun k => w32 (peer.toNat / 2 ^ (32 * k))) s

def execTlsConnect (port : Fin 9) (identity : Bool) (peer : BitVec 128) (chain : ClientChain) (s : State) :
    Host.Outcome State Fault Refusal := s.liveRom (tlsConnect port identity peer chain)

/-- HELLO (R521, R522): opens the session with the rights requested that the certificate grants; event 0x1C0. A PROTO other
than 0x0001 closes it, event 0x1C2 cause 4; a second HELLO is no first message and gets BAD_MESSAGE. -/
def hello (i : Nat) (q : ReqHead) (proto : BitVec 16) (rights : Byte) (s : State) : State :=
  match s.sessX i with
  | none => s
  | some x =>
    if s.sessState i = 2 then s.onMessage i q (State.badRequest i q Mt.hello)
    else if proto ≠ 1 then ((s.flag Obj.net.netFlags 0).raise 0x1C2 (64 + i) 4 x.port 0).closeSession i 3
    else
      let r := Nat.land rights.toNat x.granted
      let s := s.modNet fun u =>
        { u with sessions := u.sessions.map fun y => if y.1 = i then (i, { x with client := q.client.toNat, lastAt := s.up }) else y }
      let s := s.wr (Obj.sess.sessStatus i) (w32 (r * 256 + x.port * 16 + x.identity.toNat * 8 + 2))
      let s := ((s.wr64 (Obj.sess.sessClient i) q.client.toNat).wr64 (Obj.sess.sessOpened i) s.now).wr (Obj.sess.sessRequests i) 1
      let s := (s.count Obj.net.requests 1).raise 0x1C0 (64 + i) (q.client.toNat % 2 ^ 32) r x.port
      s.reply i q.client.toNat q.no.toNat Mt.hello Rs.ok 0
        (leBytes (i + r * 256 + s.unit * 65536 + x.identity.toNat * 2 ^ 24) 4 ++ bytesOfWords (s.rdList Obj.mod.serial 4) ++ leBytes 16448 4)

def execHello (session : Fin 68) (req : ReqHead) (proto : BitVec 16) (rights : Byte) (s : State) : Host.Outcome State Fault Refusal :=
  s.liveRom (hello session req proto rights)

/-- BYE (R524): answered, then the session closes. -/
def bye (i : Nat) (q : ReqHead) : State → State :=
  State.onMessage i q fun s => (s.reply i q.client.toNat q.no.toNat Mt.bye Rs.ok 0 []).closeSession i 1

def execBye (session : Fin 68) (req : ReqHead) (s : State) : Host.Outcome State Fault Refusal := s.liveRom (bye session req)

/-- BAD_MESSAGE (R523, R664): BAD_MESSAGE is answered; a LENGTH out of range closes the session. -/
def badMessage (i : Nat) (q : ReqHead) (type : Byte) (badLength : Bool) : State → State :=
  State.onMessage i q fun s => if badLength then s.closeSession i 7 else s.badRequest i q type.toNat

def execBadMessage (session : Fin 68) (req : ReqHead) (type : Byte) (badLength : Bool) (s : State) : Host.Outcome State Fault Refusal :=
  s.live (badMessage session req type badLength)

/-- KEEPALIVE (R521, R524). -/
def keepalive (i : Nat) (q : ReqHead) : State → State :=
  State.onMessage i q fun s => s.reply i q.client.toNat q.no.toNat Mt.keepalive Rs.ok 0 []

def execKeepalive (session : Fin 68) (req : ReqHead) (s : State) : Host.Outcome State Fault Refusal := s.liveRom (keepalive session req)

/-- EXCH_SESSION_IDLE (R521): a session with no message for 60 s is closed. -/
def execExchSessionIdle (session : Fin 68) (s : State) : Host.Outcome State Fault Refusal := s.liveRom (State.closeSession session 2)

/-- CONNECTION_LOST (R346, R551): a lost connection ends the session, or frees the Modbus connection. -/
def connectionLost (c : Connection) (s : State) : State :=
  match c with
  | .session i => s.closeSession i 6
  | .modbus k => s.modNet fun u =>
      { u with
        modbus := u.modbus.filter fun j => j != k.val
        reqs := u.reqs.map fun r =>
          { r with dest := match r.dest with | .modbus j t n f a v => if j = k.val then .gone else .modbus j t n f a v | d => d } }

def execConnectionLost (conn : Connection) (s : State) : Host.Outcome State Fault Refusal := s.liveRom (connectionLost conn)

abbrev NetCmd.clear : Nat := 1
abbrev NetCmd.endSession : Nat := 2

/-- END_SESSION (R549): NET_CMD END_SESSION closes an open session, else BAD_VALUE. -/
def endSession (i : Nat) (s : State) : State :=
  if (s.sessX i).isSome then (s.accept Obj.net.cmdStatus NetCmd.endSession Oc.done).closeSession i 3
  else s.refuse Obj.net.cmdStatus NetCmd.endSession Oc.badValue

def execEndSession (session : Fin 65536) (s : State) : Host.Outcome State Fault Refusal := s.live (endSession session)

/-- NET_CLEAR_COUNTERS (R549): the counters of space 0x11, longest waits included (R542). -/
def netClearCounters (s : State) : State :=
  let ports := (List.range 11).flatMap fun p => (List.range 6).map fun k => Obj.nport.nportStatus p + 1 + k
  let net := [Obj.net.requests, Obj.net.duplicates, Obj.net.discards, Obj.net.lateCompletions, Obj.net.published, Obj.net.modbusReqs,
    Obj.vit.hits, Obj.vit.misses, Obj.vit.ops]
  let s := State.clearAll (net ++ ports ++ (List.range 4).map fun c => Obj.vit.classWaitMax + c) s
  (s.wrBits Obj.net.cache 15 0 0).accept Obj.net.cmdStatus NetCmd.clear Oc.done

def execNetClearCounters (s : State) : Host.Outcome State Fault Refusal := s.live netClearCounters

/-! ### READ (R526) -/

/-- One item of a READ: its value, with the clearing that its access code gives (R8). -/
def State.readItem (i a : Nat) (s : State) : Option (Word × State) :=
  match State.peek i a s, objDefAt a with
  | some (w, s), some d => some (w, if d.acc = .rc then s.wr (itemKey i a) (objReset (itemKey i a)) else s)
  | _, _ => none

/-- Items read one after another; nothing where one is undefined. -/
def State.readItems (i : Nat) : List Nat → State → Option (List Word × State)
  | [], s => some ([], s)
  | a :: t, s =>
    match s.readItem i a with
    | none => none
    | some (w, s) => (State.readItems i t s).map fun r => (w :: r.1, r.2)

/-- Items as they are committed, without the effects of a read. -/
def State.peekItems (i : Nat) : List Nat → State → Option (List Word × State)
  | [], s => some ([], s)
  | a :: t, s =>
    match State.peek i a s with
    | none => none
    | some (w, s) => (State.peekItems i t s).map fun r => (w :: r.1, r.2)

/-- Whether an address is served: all of them, but in recovery only spaces 0x00, 0x14 and 0x15 (R606). -/
def State.served (s : State) (a : Nat) : Bool := !s.sys.recovery || [0x00, 0x14, 0x15].contains (a / 2 ^ 24 % 256)

/-- READ (R526): served on arrival. A malformed range gets BAD_MESSAGE (R664), an undefined item NO_OBJECT (R9). The
instances of space 0x14 that prove identity need no right (R610). -/
def read (i : Nat) (q : ReqHead) (addr count : Nat) (s : State) : State :=
  let open_ := addr / 2 ^ 24 == 0x14 && decide (addr % 2 ^ 24 / 128 ≤ 2)
  s.direct i q Mt.read (if open_ then [] else [Rt.r]) fun s =>
    let c := q.client.toNat
    let n := q.no.toNat
    if count = 0 ∨ 128 < addr % 128 + count then s.badRequest i q Mt.read
    else if !s.served addr then s.reply i c n Mt.read Rs.noObject 0 []
    else
      match s.readItems i ((List.range count).map (addr + ·)) with
      | some (l, s) => s.reply i c n Mt.read Rs.ok 0 (bytesOfWords l)
      | none => s.reply i c n Mt.read Rs.noObject 0 []

def execRead (session : Fin 68) (req : ReqHead) (addr : BitVec 32) (count : BitVec 16) (s : State) : Host.Outcome State Fault Refusal :=
  s.liveRom (read session req addr.toNat count.toNat)

/-! ### WRITE: what a request names (R527) -/

/-- Spaces and instances open to scopes 1 and 2. -/
def scopedKind (k : ObjKind) : Bool := match k with | .node | .str | .cell | .impS | .bal | .thm => true | _ => false

/-- The strings that a scope covers at acceptance, or none where the group is not defined. -/
def State.scopeStrings (s : State) (scope group : Nat) : Option (List Nat) :=
  match s.catOf with
  | none => none
  | some c =>
    let all := c.strings.map StringRec.string
    if scope = 2 then some all
    else (c.groups.find? fun g => g.group == group).map fun g => all.filter g.members.contains

/-- The instances of a kind on a string, in ascending order. -/
def State.instancesOn (s : State) (k : ObjKind) (n : Nat) : List Nat :=
  match k with
  | .node => sortNat ((s.nodesOf n).map fun r => n * 64 + r.p)
  | .cell => s.cellIdxOf n
  | .impS | .thm => [n + 256]
  | _ => [n]
where
  /-- Ascending order. -/
  sortNat (l : List Nat) : List Nat := (List.range (n * 64 + 64)).filter l.contains

/-- The addresses that a WRITE applies to, in ascending instance order, or the refusing status. -/
def State.writeTargets (s : State) (addr scope group : Nat) : Nat ⊕ List Nat :=
  match s.objAt addr with
  | none => .inl Rs.noObject
  | some (k, _) =>
    if scope = 0 then .inr [addr]
    else if 2 < scope ∨ scopedKind k = false then .inl Rs.badScope
    else
      match s.scopeStrings scope group with
      | none => .inl Rs.badScope
      | some l =>
        let l := (List.range 256).filter l.contains
        .inr ((l.flatMap (s.instancesOn k)).map fun j => addr / 2 ^ 24 * 2 ^ 24 + j * 128 + addr % 128)

/-- Whether writes of an item are pair-agreed, as its owning chapter says (R519): the rest are module-local. -/
def pairAgreedItem (k : ObjKind) (inst item : Nat) (v : Word) : Bool :=
  match k, item with
  | .time, _ => item == Obj.time.timeCmd % 128 && decide (v.toNat % 256 ≤ 2)
  | .node, 2 => true
  | .cell, _ => [Obj.cell.cellCmd 0 % 128, Obj.cell.learnCmd 0 % 128].contains item
  | .str, _ => [Obj.str.scanCfg 0 % 128, Obj.str.scanCfg2 0 % 128, Obj.str.estCfg 0 % 128].contains item
  | .imp, _ => decide (6 ≤ item ∧ item ≤ 10)
  | .bal, _ => [Obj.bal.balCfg 0 % 128, Obj.bal.balCfg2 0 % 128].contains item
  | .thm, _ => item == Obj.thm.thermCfg 0 % 128
  | .prot, _ => item == Obj.prot.protCfg % 128
  | .pstr, 2 => true
  | .sched, _ => decide (0x40 ≤ item)
  | .task, _ => item == Obj.task.taskCmd 0 % 128
  | .loop, _ => true
  | .dout, 4 | .ao, 4 => true
  | .bus, _ => item == Obj.bus.busCmd 0 % 128
  | .wk, _ => decide (0x10 ≤ item)
  | .net, 4 => true
  | .key, 1 => decide (32 ≤ inst)
  | _, _ => false

/-- Rights that a write needs (R522): of a space, of SAFE_CMD OPEN, and none for the steps of a quote (R586). -/
def writeRights (addr : Nat) (v : Word) : List Nat :=
  let cmd := v.toNat % 256
  if (addr == Obj.sec.secCmd && cmd == 1) || decide (Obj.sec.quoteNonce ≤ addr ∧ addr < Obj.sec.quoteNonce + 12) then []
  else if addr == Obj.safe.safeCmd && cmd == SafeCmd.open_ then [Rt.w, Rt.s]
  else match addr / 2 ^ 24 with
  | 0x01 => [Rt.w, Rt.c]
  | 0x15 => [Rt.w, Rt.f]
  | _ => [Rt.w]

/-- An item of the variable window as a session's earlier writes will leave it (R389, R390). -/
def State.windowItem (s : State) (i a : Nat) : Nat :=
  s.sched.hostStaged.foldl (fun v h => match h.write with
    | .target b values => if h.session = i ∧ b ≤ a ∧ a < b + values.length then (values.getD (a - b) 0).toNat else v
    | _ => v) (s.rd (sessKey i a)).toNat

/-- A write of VAR_DATA as the bytes of the variable that the window shows, where R390 admits it. -/
def State.windowWrite (s : State) (i first : Nat) (values : List Word) : Option JobWrite :=
  let v := s.windowItem i Obj.sched.varSelect
  let off := s.windowItem i Obj.sched.varOffset + 4 * first
  match s.varDecl v with
  | none => none
  | some d =>
    if d.writable && decide (off + 4 * (values.length - 1) < d.size) then some (.var (w32 v) off ((bytesOfWords values).take (d.size - off)))
    else none

/-- What a WRITE stages for a target: VAR_DATA as a write of the variable in the window (R390); a KEY_CMD for slots 16 to 31 takes its material along, LOAD from the session's KEY_DATA,
GENERATE from the random source (R588, R589). -/
def State.stagedWrite (i a : Nat) (values : List Word) (s : State) : HostWrite × State :=
  let inst := a / 2 ^ 7 % 2 ^ 17
  if a / 2 ^ 24 = 0x14 ∧ 32 ≤ inst ∧ a % 128 = 1 then
    let cmd := values.headD 0
    if cmd.toNat % 256 = 2 then (.key (inst - 16) cmd (Config.randomBytes s.free 48), { s with free := s.free + 1 })
    else (.key (inst - 16) cmd (s.sessBytes i (a - 1 + 0x20) 24), s)
  else if a / 2 ^ 24 = 0x0C ∧ inst = 0 ∧ 0x40 ≤ a % 128 then
    match s.windowWrite i (a % 128 - 0x40) values with
    | some w => (.job w, s)
    | none => (.target a values, s)
  else (.target a values, s)

/-- A staged write as AGREE_INPUT carries it: key material is encrypted under the pair key (R597). -/
def State.sealWrite (w : HostWrite) (s : State) : HostWrite × State :=
  match w, s.red.pairKey with
  | .key k cmd b, some pk =>
    let nonce := Config.randomBytes s.free 12
    let (c, tag) := Config.gcmSeal pk nonce [] b
    (.key k cmd (nonce ++ c ++ tag), { s with free := s.free + 1 })
  | .key k cmd _, none => (.key k cmd [], s)
  | w, _ => (w, s)

/-- WRITE (R527 to R531): a request judged on arrival is staged for the first commit point at least 50 µs later (R490);
there every target is judged on its own, and the answer follows. SAFE_CMD OPEN needs right S (R522). -/
def write (i : Nat) (q : ReqHead) (addr scope group : Nat) (values : List Word) (s : State) : State :=
  s.admitReq i q Mt.write (writeRights addr (values.headD 0)) fun s =>
    if values.isEmpty ∨ 128 < addr % 128 + values.length then s.badRequest i q Mt.write
    else if !s.served addr then s.refuseReq i q Mt.write Rs.noObject
    else
      match s.writeTargets addr scope group with
      | .inl st => s.refuseReq i q Mt.write st
      | .inr ts =>
        let agreed := match s.objAt addr with
          | some (k, _) => pairAgreedItem k (addr / 2 ^ 7 % 2 ^ 17) (addr % 128) (values.headD 0)
          | none => false
        if agreed && s.notOwnerFor i then s.refuseReq i q Mt.write Rs.notOwner
        else
          let (id, s) := s.openReq (.session i) q.client.toNat q.no.toNat Mt.write addr (scope != 0) agreed (ts.length)
          if ts.isEmpty then s.finish id Rs.ok (List.replicate 16 0)
          else
            s.each ts fun a s =>
              let (w, s) := s.stagedWrite i a values
              let s := s.modSched fun u => { u with hostStaged := u.hostStaged ++ [⟨i, s.up, none, some id, w⟩] }
              if agreed && s.sys.mode == .active then
                let (x, s) := s.sealWrite w
                s.agree (.write (w32 s.applyCycle) x)
              else s

/-- A target of a WRITE has been judged: the last one gives the reply (R527): OK, the first refusal where none was
accepted, else PARTIAL with event 0x1CA. -/
def State.targetDone (id inst status : Nat) (s : State) : State :=
  let s := s.modReq id fun r =>
    { r with
      left := r.left - 1
      accepted := r.accepted + (if status = Rs.ok then 1 else 0)
      refused := r.refused + (if status = Rs.ok then 0 else 1)
      first := if status = Rs.ok then r.first
        else match r.first with
          | some f => if inst < f.1 then some (inst, status) else some f
          | none => some (inst, status) }
  match s.net.reqs.find? (fun r => r.id == id) with
  | none => s
  | some r =>
    if r.left ≠ 0 then s
    else
      let (fi, fs) := r.first.getD (0, 0)
      let status := if r.refused = 0 then Rs.ok else if r.accepted = 0 then fs else Rs.partial_
      let s := if r.multi && r.refused != 0 && r.accepted != 0 then
          s.raise 0x1CA 0 r.addr r.accepted r.refused else s
      s.finish id status (leBytes r.accepted 4 ++ leBytes r.refused 4 ++ leBytes fi 4 ++ leBytes fs 2 ++ [0, 0])

/-! ### Deadlines and acknowledgements (R494, R531, R628) -/

/-- REQ_DEADLINE (R531, R628): an unanswered request is discarded, answered DISCARDED and kept so in the cache; what of it
has not committed does not take effect, a command still in a port queue is removed unsent, and one already sent runs on. -/
def reqDeadline (q : ReqHead) (s : State) : State :=
  match s.net.reqs.find? (fun r => r.client == q.client.toNat && r.no == q.no.toNat && !r.discarded && r.ready.isNone) with
  | none => s
  | some r =>
    let s := s.discardRequest r 1
    let mine (x : RingReq) : Bool := match x.host with | some h => h.1 == r.id | none => false
    let waits := s.ring.txns.any fun t => mine t.req
    let s := { s with ring := { s.ring with queue := s.ring.queue.filter (!mine ·), held := s.ring.held.filter (!mine ·) } }
    let s := s.cachePut r.client ⟨r.no, r.type, Rs.discarded, r.multi, [], s.up⟩
    let s := match r.dest with
      | .session i => s.reply i r.client r.no r.type Rs.discarded 0 []
      | .modbus c t n f a _ => s.modbusRefuse c t n f a 4
      | .gone => s
    let s := s.each r.waiters fun i s => s.reply i r.client r.no r.type Rs.discarded 0 []
    if waits || s.net.vit.held.any (fun o => o.user == .host r.id) || s.net.vit.waiting.any (fun o => o.user == .host r.id) ||
        s.net.forwards.any (fun f => f.req == r.id) then
      s.modReq r.id fun r => { r with discarded := true, waiters := [] }
    else s.modNet fun u => { u with reqs := u.reqs.filter fun x => x.id != r.id }

def execReqDeadline (req : ReqHead) (s : State) : Host.Outcome State Fault Refusal := s.live (reqDeadline req)

/-- RESULT_ACK_TIMEOUT (R494): 50 µs without acknowledgement the reply leaves unreplicated; event 0x1BB once per run. -/
def resultAckTimeout (q : ReqHead) (s : State) : State :=
  match s.net.reqs.find? (fun r => r.client == q.client.toNat && r.no == q.no.toNat && r.ready.isSome) with
  | some r =>
    let (st, p) := r.ready.getD (0, [])
    let s := (s.count Obj.red.unreplicated 1).flag Obj.red.redFlags 6
    let s := if s.red.unrepRun = 0 then s.raise 0x1BB 0 1 0 0 else s
    ({ s with red := { s.red with unrepRun := s.red.unrepRun + 1 } }).answer r.id st p
  | none => s

def execResultAckTimeout (req : ReqHead) (s : State) : Host.Outcome State Fault Refusal := s.live (resultAckTimeout req)

end Sys2Proof.Machine
end

