-- ==== Sys2Proof/Machine/Rings.lean ====
section
/-!
DEFINITION. Exchange rings, the Vitrine and subscriptions (R533 to R542).
-/

namespace Sys2Proof.Machine

/-! ### Ring state -/

/-- The allocation of a ring identifier (R56). -/
def State.ringAlloc (s : State) (k : Nat) : Option RingAllocRec :=
  match s.catOf with | some c => c.ringAlloc.find? fun r => decide (r.first ≤ k ∧ k < r.first + r.count) | none => none

def State.xRing (s : State) (k : Nat) : XRing := lookupD .initial s.net.rings k
def State.setXRing (k : Nat) (f : XRing → XRing) (s : State) : State :=
  s.modNet fun u => { u with rings := upsert k (f (s.xRing k)) u.rings }

/-- TAIL: the sequence of the next entry. -/
def XRing.tail (x : XRing) : Nat := (x.head + x.entries.length) % 2 ^ 32

/-- The class charged for a requester (R536): a host 2, a task's own class, the module the ring's CLASS. -/
def RingUser.charged (u : RingUser) (r : RingAllocRec) : Nat :=
  match u with | .host _ => 2 | .task c => c | .module_ => r.cls

/-- Whether a requester may act (R536): BIND and UNBIND are the host's alone, PUT, RELEASE and CLEAR go to rings of its own
class and, for tasks, to host-class rings. -/
def mayAct (u : RingUser) (r : RingAllocRec) (op : RingOp) : Bool :=
  match u, op with
  | .module_, _ => true
  | _, .peek _ _ => true
  | _, .info => true
  | .host _, .bind .. => true
  | .host _, .unbind => true
  | .task _, .bind .. => false
  | .task _, .unbind => false
  | .host _, _ => r.cls == 2
  | .task c, _ => r.cls == c || r.cls == 2

/-- Whether an operation's fields keep the layout of R533 (R664). -/
def ringLayoutOk (r : RingAllocRec) (op : RingOp) : Bool :=
  match op with
  | .put es => decide (1 ≤ es.length ∧ es.length ≤ 64) && es.all fun e => e.length == r.entry * 8
  | .peek _ n => decide (1 ≤ n.toNat ∧ n.toNat ≤ 64)
  | .bind _ items mode period => decide (1 ≤ items.toNat ∧ items.toNat ≤ 126 ∧ mode.toNat ≤ 1 ∧ 1 ≤ period.toNat ∧ period.toNat ≤ 3600000)
  | _ => true

/-- Whether a source object can be read over its items (R535). -/
def State.sourceReadable (s : State) (a items : Nat) : Bool :=
  decide (a % 128 + items ≤ 128) && (List.range items).all fun i =>
    match s.objAt (a + i) with | some (_, d) => d.acc != .wo | none => false

/-- Appends entries (R533, R534): refused with RING_FULL where they do not fit, unless a binding with MODE overwrite, or
the recorder's own use of the ring (R566), removes the oldest; such removals count in OVERFLOWS, event 0x1CB once per run. -/
def State.ringPutDo (k : Nat) (r : RingAllocRec) (force : Bool) (es : List (List Byte)) (s : State) : Nat × List Byte × State :=
  let x := s.xRing k
  let past := x.entries.length + es.length - r.depth
  let first := leBytes x.tail 4
  let since := if x.entries.isEmpty then some s.up else x.since
  if past = 0 then (Rs.ok, first, s.setXRing k fun y => { y with entries := y.entries ++ es, ovRun := 0, since := since })
  else if (force || match x.bind with | some b => b.mode == 0 | none => false) = true then
    let n := min past x.entries.length
    let s := s.setXRing k fun y =>
      { y with head := (y.head + past) % 2 ^ 32, entries := (y.entries ++ es).drop past
               overflows := satAdd 0xFFFFFFFF y.overflows n, ovRun := y.ovRun + n, since := since }
    (Rs.ok, first, if x.ovRun = 0 then s.raise 0x1CB 0 k n 0 else s)
  else (Rs.ringFull, [], s)

/-- The reply of INFO: HEAD, TAIL, DEPTH, ENTRY, CLASS and PIN, OVERFLOWS, and the binding (SOURCE, ITEMS, MODE, PERIOD, zeros
where unbound); R533 names the fields, their layout is the model's (log 60). -/
def infoBytes (r : RingAllocRec) (x : XRing) : List Byte :=
  let b := x.bind.getD ⟨0, 0, 0, 0⟩
  leBytes x.head 4 ++ leBytes x.tail 4 ++ leBytes r.depth 4 ++ leBytes r.entry 1 ++ leBytes r.cls 1 ++ leBytes r.pin.toNat 1 ++ [0] ++
    leBytes x.overflows 4 ++ leBytes b.source 4 ++ leBytes b.items 1 ++ leBytes b.mode 1 ++ [0, 0] ++ leBytes b.period 4

/-- The reply of PEEK (R533, R534): the entries from FROM_SEQ that exist, at most COUNT and 16,384 bytes. -/
def peekBytes (r : RingAllocRec) (x : XRing) (from_ count : Nat) : List Byte :=
  let off := signedOf 32 (from_ + 2 ^ 32 - x.head)
  let off := if off < 0 then 0 else off.toNat
  let es := ((x.entries.drop off).take count).take (16384 / max 1 (r.entry * 8))
  leBytes x.head 4 ++ leBytes x.tail 4 ++ leBytes es.length 2 ++ [0, 0] ++ es.flatten

/-- An operation's effect and answer (R533 to R535). -/
def State.ringDo (k : Nat) (r : RingAllocRec) (force : Bool) (op : RingOp) (s : State) : Nat × List Byte × State :=
  let x := s.xRing k
  match op with
  | .put es => s.ringPutDo k r force es
  | .peek f n => (Rs.ok, peekBytes r x f.toNat n.toNat, s)
  | .info => (Rs.ok, infoBytes r x, s)
  | .release u =>
    let n := signedOf 32 (u.toNat + 2 ^ 32 - x.head)
    let n := if n < 0 then 0 else min n.toNat x.entries.length
    let y : XRing := { x with head := (x.head + n) % 2 ^ 32, entries := x.entries.drop n,
                              since := if n = x.entries.length then none else if n = 0 then x.since else some s.up }
    (Rs.ok, leBytes y.head 4, s.setXRing k fun _ => y)
  | .clear =>
    let y : XRing := { x with head := x.tail, entries := [], since := none }
    (Rs.ok, leBytes y.head 4, s.setXRing k fun _ => y)
  | .bind a items mode period =>
    if r.entry * 8 < (items.toNat + 2) * 4 then (Rs.badValue, [], s)
    else if s.sourceReadable a.toNat items.toNat then
      (Rs.ok, [], s.setXRing k fun y => { y with bind := some ⟨a.toNat, items.toNat, mode.toNat, period.toNat⟩ })
    else (Rs.noObject, [], s)
  | .unbind => (Rs.ok, [], s.setXRing k fun y => { y with bind := none })

/-! ### The Vitrine (R540 to R542) -/

def State.modVit (f : Vitrine → Vitrine) (s : State) : State := s.modNet fun u => { u with vit := f u.vit }

def State.pinnedRing (s : State) (k : Nat) : Bool := match s.ringAlloc k with | some r => r.pin | none => false

/-- Pinned entries. -/
def State.pinCount (s : State) : Nat :=
  match s.catOf with | some c => c.ringAlloc.foldl (fun n r => if r.pin then n + r.count else n) 0 | none => 0

/-- The floor of a class (R46). -/
def State.vitFloor (s : State) (c : Nat) : Nat :=
  match s.catOf with
  | some k => match c with | 0 => k.vitrine.prot | 1 => k.vitrine.plant | 2 => k.vitrine.host | _ => k.vitrine.arch
  | none => 0

/-- Unpinned entries that a class holds. -/
def State.vitUse (s : State) (c : Nat) : Nat := (s.net.vit.held.filter fun o => o.cls == c && !s.pinnedRing o.ring).length

/-- Entries neither pinned nor held. -/
def State.vitFree (s : State) : Nat := 4096 - s.pinCount - (s.net.vit.held.filter fun o => !s.pinnedRing o.ring).length

/-- Operations of a class that wait for an entry. -/
def State.vitWaiting (s : State) (c : Nat) : Nat := (s.net.vit.waiting.filter fun o => o.cls == c).length

/-- An operation of a class may take an entry (R541). -/
def State.vitTakes (s : State) (c : Nat) : Bool :=
  let d := (([0, 1, 2, 3].filter (· != c)).map fun k => s.vitFloor k - s.vitUse k).sum
  decide (s.vitUse c < s.vitFloor c) || decide (d < s.vitFree)

/-- Whether an operation is in progress on a ring. -/
def State.ringBusy (s : State) (k : Nat) : Bool := s.net.vit.held.any fun o => o.ring == k

/-- An operation takes its entry and acts (R540): a hit where the ring's state is cached, else a miss. -/
def State.startOp (o : VitOp) (s : State) : State :=
  match s.ringAlloc o.ring with
  | none => s
  | some r =>
    let s := if r.pin then s
      else
        let hit := s.net.vit.cached.contains o.ring
        let s := s.count (if hit then Obj.vit.hits else Obj.vit.misses) 1
        s.modVit fun v => { v with cached := (v.cached.filter (· != o.ring)).take (s.vitFree - 1) }
    let (st, b, s) := s.ringDo o.ring r (o.user == .module_ && s.bits Obj.rcd.recRing 19 0 == o.ring) o.op
    s.modVit fun v => { v with held := v.held ++ [{ o with result := some (st, b) }] }

/-- An operation arrives (R540, R541): it starts, or waits behind an earlier one on its ring or for an entry. -/
def State.submitOp (k : Nat) (u : RingUser) (op : RingOp) (s : State) : State :=
  match s.ringAlloc k with
  | none => s
  | some r =>
    let o : VitOp := { ring := k, cls := u.charged r, op := op, user := u, result := none, at_ := s.up }
    if s.ringBusy k || (s.net.vit.waiting.any fun w => w.ring == k) || (!r.pin && !s.vitTakes o.cls) then
      s.modVit fun v => { v with waiting := v.waiting ++ [o] }
    else s.startOp o

/-- The waiter that runs next, if one can (R541): on a pinned ring that is idle; else the oldest of a class below its floor,
classes in order; else the oldest of any class while entries are to spare. -/
def State.nextWaiter (s : State) : Option VitOp :=
  let l := s.net.vit.waiting.filter fun o => !s.ringBusy o.ring
  match l.find? (fun o => s.pinnedRing o.ring) with
  | some o => some o
  | none =>
    let below (c : Nat) : Option VitOp :=
      if s.vitUse c < s.vitFloor c then l.find? fun o => o.cls == c else none
    match [0, 1, 2, 3].findSome? below with
    | some o => some o
    | none => l.find? fun o => s.vitTakes o.cls

/-- Takes a waiter out of the queue. -/
def dropFirst (o : VitOp) : List VitOp → List VitOp
  | [] => []
  | x :: t => if x = o then t else x :: dropFirst o t

/-- Waiters run while they can; the longest wait of a class is kept (R542). -/
def grantOps : Nat → State → State
  | 0, s => s
  | n + 1, s =>
    match s.nextWaiter with
    | none => s
    | some o =>
      let s := s.modVit fun v => { v with waiting := dropFirst o v.waiting }
      let a := Obj.vit.classWaitMax + o.cls
      let s := if s.pinnedRing o.ring then s else s.wr a (w32 (max (s.rd a).toNat (min 0xFFFFFFFF (s.up - o.at_))))
      grantOps n (s.startOp o)

/-! ### Publications (R496, R538, R539) -/

/-- The datagram of entries (R538): header, ciphertext under KEY, tag. -/
def datagramOf (x : SubX) (ring first n entry : Nat) (provisional : Bool) (plain : List Byte) : List Byte :=
  let head := leBytes x.id 2 ++ leBytes x.epoch 2 ++ leBytes ring 4 ++ leBytes first 4 ++ leBytes n 2 ++ leBytes entry 1 ++ leBytes provisional.toNat 1
  let nonce := leBytes x.id 2 ++ leBytes x.epoch 2 ++ leBytes first 4 ++ [0, 0, 0, 0]
  let (c, tag) := Config.gcmSeal x.key nonce head plain
  head ++ c ++ tag

/-- Entries that one datagram carries within 1,500 bytes of IP (R538). -/
def perDatagram (ipv6 : Bool) (entry : Nat) : Nat := max 1 ((1500 - (if ipv6 then 40 else 20) - 8 - 32) / max 1 (entry * 8))

def State.setSub (x : SubX) (s : State) : State := s.modNet fun u => { u with subs := u.subs.map fun y => if y.id = x.id then x else y }

/-- Publishes the entries of a subscription from its next sequence on, in datagrams; a wrap of the sequence ends a datagram
and advances EPOCH. -/
def publishRing : Nat → SubX → State → State
  | 0, _, s => s
  | fuel + 1, x, s =>
    let k := x.fields.ring.toNat
    match s.ringAlloc k with
    | none => s
    | some r =>
      let q := s.xRing k
      let behind := signedOf 32 (x.next + 2 ^ 32 - q.head)
      let start := if behind < 0 then q.head else x.next
      let epoch := if start < x.next then x.epoch + 1 else x.epoch
      let off := if behind < 0 then 0 else behind.toNat
      let n := min (min (q.entries.length - off) (perDatagram x.fields.ipv6 r.entry)) (2 ^ 32 - start)
      if n = 0 then s
      else
        let y := { x with next := (start + n) % 2 ^ 32, epoch := epoch % 65536 }
        let d := datagramOf y k start n r.entry false ((q.entries.drop off).take n).flatten
        let s := (s.emit (.publication x.id x.attachment s.net.prpPub false d)).count Obj.net.published 1
        let y := if start + n = 2 ^ 32 then { y with epoch := (y.epoch + 1) % 65536 } else y
        let s := (s.modNet fun u => { u with prpPub := (u.prpPub + 1) % 65536 }).setSub y
        publishRing fuel y s

/-- PUBLICATION (R496, R538): what has been committed is published, by both running modules and by the owner. -/
def State.publish (s : State) : State :=
  if s.sys.mode.running || s.owner then
    s.each (s.net.subs.filter fun x => !x.fields.provisional) fun x s => publishRing 70000 x s
  else s

/-- A new sample of a string of which a copy has arrived: provisional subscriptions of it publish PROV_SNAPSHOT, by the owner
alone (R539). -/
def State.publishProv (n no : Nat) (s : State) : State :=
  if s.owner then
    s.each (s.net.subs.filter fun x => x.fields.provisional && x.fields.ring.toNat % 256 == n && x.lastSample != some no) fun x s =>
      let plain := leBytes s.now 8 ++ bytesOfWords (s.provWords n)
      let d := datagramOf x x.fields.ring.toNat no 1 7 true plain
      let s := (s.emit (.publication x.id x.attachment s.net.prpIdentity true d)).count Obj.net.published 1
      (s.modNet fun u => { u with prpIdentity := (u.prpIdentity + 1) % 65536 }).setSub { x with lastSample := some no }
  else s

/-- VITRINE_ENTRY_FREE (R540, R541): the operation on a ring completes; its answer leaves, its entry keeps the ring's state
cached, and waiters take what has become free. -/
def vitrineEntryFree (k : Nat) (s : State) : State :=
  match s.net.vit.held.find? (fun o => o.ring == k) with
  | none => s
  | some o =>
    let s := s.modVit fun v => { v with held := v.held.filter fun x => x.ring != k }
    let s := if s.pinnedRing k then s else s.modVit fun v => { v with cached := (k :: v.cached).take s.vitFree }
    let s := s.count Obj.vit.ops 1
    let (st, b) := o.result.getD (0, [])
    let s := match o.user with | .host id => s.finish id st b | _ => s
    (grantOps s.net.vit.waiting.length s).publish

def execVitrineEntryFree (ring : BitVec 20) (s : State) : Host.Outcome State Fault Refusal := s.live (vitrineEntryFree ring.toNat)

/-- VITRINE_WAIT (R542): a wait beyond WAIT_WARN sets WAIT_WARN_SEEN, with event 0x1C9 once per second per class. -/
def vitrineWait (c : Nat) (s : State) : State :=
  match s.net.vit.waiting.find? (fun o => o.cls == c && !s.pinnedRing o.ring) with
  | none => s
  | some o =>
    let wait := s.up - o.at_
    if wait ≤ s.bits Obj.net.netCfg 31 24 * 1000 then s
    else
      let s := s.flag Obj.vit.vitFlags c
      let recent := hasKey c s.net.vit.warnedAt && decide (s.up < lookupD 0 s.net.vit.warnedAt c + 1000000000)
      if recent then s
      else (s.modVit fun v => { v with warnedAt := upsert c s.up v.warnedAt }).raise 0x1C9 c (min 0xFFFFFFFF wait) (s.vitWaiting c) (s.vitUse c)

def execVitrineWait (cls : Fin 4) (s : State) : Host.Outcome State Fault Refusal := s.live (vitrineWait cls)

/-! ### Ring requests (R533 to R536) -/

/-- Stages a pair-agreed write of an admitted request (R490, R536). -/
def State.stageAgreed (i id : Nat) (w : HostWrite) (s : State) : State :=
  (s.modSched fun u => { u with hostStaged := u.hostStaged ++ [⟨i, s.up, none, some id, w⟩] }).agree (.write (w32 s.applyCycle) w)

/-- A RING request (R533): judged on arrival; PEEK and INFO act at once, every other operation at its commit point. -/
def ringRequest (i : Nat) (q : ReqHead) (k : Nat) (op : RingOp) (s : State) : State :=
  let c := q.client.toNat
  let n := q.no.toNat
  let now := match op with | .peek _ _ | .info => true | _ => false
  let body (s : State) : State :=
    let no (st : Nat) : State := if now then s.reply i c n Mt.ring st 0 [] else s.refuseReq i q Mt.ring st
    match s.ringAlloc k with
    | none => no Rs.noRing
    | some r =>
      if ringLayoutOk r op = false then s.badRequest i q Mt.ring
      else if mayAct (.host 0) r op = false then no Rs.wrongAccess
      else if now = false && s.notOwnerFor i then no Rs.notOwner
      else
        let (id, s) := s.openReq (.session i) c n (if now then 0x106 else Mt.ring) 0 false (!now) 1
        if now then s.submitOp k (.host id) op else s.stageAgreed i id (.ring k op)
  if now then s.direct i q Mt.ring [Rt.r] body else s.admitReq i q Mt.ring [Rt.w] body

def execRingPut (session : Fin 68) (req : ReqHead) (ring : BitVec 20) (entries : List (List Byte)) (s : State) :
    Host.Outcome State Fault Refusal := s.live (ringRequest session req ring.toNat (.put entries))
def execRingPeek (session : Fin 68) (req : ReqHead) (ring : BitVec 20) (fromSeq : BitVec 32) (count : BitVec 16) (s : State) :
    Host.Outcome State Fault Refusal := s.live (ringRequest session req ring.toNat (.peek fromSeq count))
def execRingRelease (session : Fin 68) (req : ReqHead) (ring : BitVec 20) (untilSeq : BitVec 32) (s : State) :
    Host.Outcome State Fault Refusal := s.live (ringRequest session req ring.toNat (.release untilSeq))
def execRingInfo (session : Fin 68) (req : ReqHead) (ring : BitVec 20) (s : State) : Host.Outcome State Fault Refusal :=
  s.live (ringRequest session req ring.toNat .info)
def execRingBind (session : Fin 68) (req : ReqHead) (ring : BitVec 20) (source : BitVec 32) (items mode : Byte) (period : BitVec 32)
    (s : State) : Host.Outcome State Fault Refusal := s.live (ringRequest session req ring.toNat (.bind source items mode period))
def execRingUnbind (session : Fin 68) (req : ReqHead) (ring : BitVec 20) (s : State) : Host.Outcome State Fault Refusal :=
  s.live (ringRequest session req ring.toNat .unbind)
def execRingClear (session : Fin 68) (req : ReqHead) (ring : BitVec 20) (s : State) : Host.Outcome State Fault Refusal :=
  s.live (ringRequest session req ring.toNat .clear)

/-- A committed ring operation of a task (R536): refused with WRONG_ACCESS where its class may not act. -/
def State.taskRingOp (o : Nat × Nat × RingOp) (s : State) : State :=
  match s.ringAlloc o.2.1 with
  | some r => if ringLayoutOk r o.2.2 && mayAct (.task o.1) r o.2.2 then s.submitOp o.2.1 (.task o.1) o.2.2 else s
  | none => s

/-- RING_BINDING_ENTRY (R535): at a commit point whose slot k satisfies (k − RING) mod PERIOD = 0, a bound ring receives Module
Time and the committed words of its source, padded with 0. -/
def State.bindEntries (s : State) : State :=
  let slot := s.now / 1000000
  s.each (s.net.rings.filter fun x => x.2.bind.isSome) fun x s =>
    match x.2.bind, s.ringAlloc x.1 with
    | some b, some r =>
      if (slot + b.period * 2 ^ 20 - x.1) % b.period = 0 then
        match s.peekItems 68 ((List.range b.items).map (b.source + ·)) with
        | some (ws, s) =>
          let e := leBytes s.now 8 ++ bytesOfWords ws
          s.submitOp x.1 .module_ (.put [e ++ List.replicate (r.entry * 8 - e.length) 0])
        | none => s
      else s
    | _, _ => s

/-! ### Subscriptions (R537) -/

/-- A subscription ends: event 0x1CC, cause 1 UNSUBSCRIBE, 2 lease, 3 restart. -/
def State.endSub (id cause : Nat) (s : State) : State :=
  match s.net.subs.find? (fun x => x.id == id) with
  | none => s
  | some x => (s.modNet fun u => { u with subs := u.subs.filter fun y => y.id != id }).raise 0x1CC 0 id x.fields.ring.toNat cause

/-- LEASE_MAX (R549), minutes. -/
def State.leaseOk (s : State) (lease : Nat) : Bool := decide (1 ≤ lease ∧ lease ≤ s.bits Obj.net.netCfg 23 16)

/-- SUBSCRIBE (R537): its KEY is drawn now and travels with the agreement of the write. -/
def subscribe (i : Nat) (q : ReqHead) (f : SubFields) : State → State :=
  State.admitReq i q Mt.subscribe [Rt.r] fun s =>
    let no (st : Nat) : State := s.refuseReq i q Mt.subscribe st
    if f.provisional = false ∧ (s.ringAlloc f.ring.toNat).isNone then no Rs.noRing
    else if f.provisional = true ∧ s.hasString (f.ring.toNat % 256) = false then no Rs.noObject
    else if !s.leaseOk f.lease.toNat then no Rs.badValue
    else if 1024 ≤ s.net.subs.length then no Rs.busy
    else if s.notOwnerFor i then no Rs.notOwner
    else
      let key := Config.randomBytes s.free 32
      let s := { s with free := s.free + 1 }
      let id := s.net.nextSub
      let att := match s.sessX i with | some x => x.port / 2 | none => 0
      let s := s.modNet fun u => { u with nextSub := (u.nextSub + 1) % 65536 }
      let (rid, s) := s.openReq (.session i) q.client.toNat q.no.toNat Mt.subscribe 0 false true 1
      s.stageAgreed i rid (.subscribe q.client.toNat f att id key)

def execSubscribe (session : Fin 68) (req : ReqHead) (fields : SubFields) (s : State) : Host.Outcome State Fault Refusal :=
  s.live (subscribe session req fields)

/-- SUBSCRIBE with RENEW (R537): a new lease from its commit point; a subscription of another client is BAD_VALUE. -/
def subscribeRenew (i : Nat) (q : ReqHead) (sub lease : Nat) : State → State :=
  State.admitReq i q Mt.subscribe [Rt.r] fun s =>
    if !(s.net.subs.any fun x => x.id == sub && x.client == q.client.toNat) ∨ !s.leaseOk lease then s.refuseReq i q Mt.subscribe Rs.badValue
    else if s.notOwnerFor i then s.refuseReq i q Mt.subscribe Rs.notOwner
    else
      let (rid, s) := s.openReq (.session i) q.client.toNat q.no.toNat Mt.subscribe 0 false true 1
      s.stageAgreed i rid (.renew q.client.toNat sub lease)

def execSubscribeRenew (session : Fin 68) (req : ReqHead) (sub : BitVec 16) (lease : Byte) (s : State) : Host.Outcome State Fault Refusal :=
  s.live (subscribeRenew session req sub.toNat lease.toNat)

/-- UNSUBSCRIBE (R524, R537). -/
def unsubscribe (i : Nat) (q : ReqHead) (sub : Nat) : State → State :=
  State.admitReq i q Mt.unsubscribe [Rt.r] fun s =>
    if !(s.net.subs.any fun x => x.id == sub && x.client == q.client.toNat) then s.refuseReq i q Mt.unsubscribe Rs.badValue
    else if s.notOwnerFor i then s.refuseReq i q Mt.unsubscribe Rs.notOwner
    else
      let (rid, s) := s.openReq (.session i) q.client.toNat q.no.toNat Mt.unsubscribe 0 false true 1
      s.stageAgreed i rid (.unsubscribe q.client.toNat sub)

def execUnsubscribe (session : Fin 68) (req : ReqHead) (sub : BitVec 16) (s : State) : Host.Outcome State Fault Refusal :=
  s.live (unsubscribe session req sub.toNat)

/-- A committed subscription write: its status and reply. -/
def State.applySub (w : HostWrite) (s : State) : Nat × List Byte × State :=
  match w with
  | .subscribe client f att id key =>
    if 1024 ≤ s.net.subs.length then (Rs.busy, [], s)
    else
      let x : SubX := { id := id, client := client, fields := f, next := f.fromSeq.toNat, epoch := 0, leaseEnd := s.up + f.lease.toNat * 60000000000,
                        key := key, attachment := att, lastSample := none }
      (Rs.ok, leBytes id 2 ++ key, s.modNet fun u => { u with subs := u.subs ++ [x] })
  | .renew client id lease =>
    match s.net.subs.find? (fun x => x.id == id && x.client == client) with
    | some x => (Rs.ok, leBytes id 2 ++ x.key, s.setSub { x with leaseEnd := s.up + lease * 60000000000 })
    | none => (Rs.badValue, [], s)
  | .unsubscribe client id =>
    if s.net.subs.any fun x => x.id == id && x.client == client then (Rs.ok, [], s.endSub id 1) else (Rs.badValue, [], s)
  | _ => (Rs.ok, [], s)

/-- LEASE_EXPIRY (R537). -/
def execLeaseExpiry (sub : BitVec 16) (s : State) : Host.Outcome State Fault Refusal := s.live (State.endSub sub.toNat 2)

/-! ### Start-up (R548) -/

/-- Rings at a start: bindings stand in MRAM; contents are kept where `keep` holds. The Vitrine holds nothing. -/
def State.ringsStart (keep : Bool) (s : State) : State :=
  let s := s.modNet fun u =>
    { u with
      vit := .initial, taskOps := []
      rings := if keep then u.rings
        else (u.rings.filter fun x => x.2.bind.isSome).map fun x => (x.1, { XRing.initial with bind := x.2.bind }) }
  if keep then s else s.each (s.net.subs.map SubX.id) fun id s => s.endSub id 3

end Sys2Proof.Machine
end

