-- ==== Sys2Proof/Machine/Net.lean ====
section
/-!
DEFINITION. Plant ports and PRP, answers at the module's addresses, forwarding and Modbus TCP (R517, R518, R532, R546).
-/

namespace Sys2Proof.Machine

/-! ### Plant ports and PRP (R517) -/

/-- NPORT_STATUS of a port as the Catalogue and its link stand (R550): LAN, SPEED, ENABLED. -/
def State.showPlantPort (p : Nat) (s : State) : State :=
  match s.catOf with
  | none => s
  | some c =>
    let on := c.network.ports / 2 ^ p % 2 == 1
    let speed := if on then c.network.speed / 2 ^ p % 2 + 1 else 0
    let a := Obj.nport.nportStatus p
    ((s.wrBit a 8 (p % 2 == 1)).wrBits a 7 4 speed).wrBit a 2 on

def State.portSpeed (s : State) (p : Nat) : Nat := s.bits (Obj.nport.nportStatus p) 7 4

/-- PLANT_PORT_DOWN (R517, R550): LINK falls; event 0x1C6. -/
def plantPortDown (p : Nat) (s : State) : State :=
  if s.bit (Obj.nport.nportStatus p) 3 then
    ((((s.wrBit (Obj.nport.nportStatus p) 3 false).count (Obj.nport.linkDowns p) 1).flag Obj.net.netFlags 1).raise 0x1C6 (16 + p)
      (s.portSpeed p) 0 0)
  else s

def execPlantPortDown (port : Fin 8) (s : State) : Host.Outcome State Fault Refusal := s.live (plantPortDown port)

/-- PLANT_PORT_UP (R517, R550): LINK rises on an enabled port; event 0x1C7. -/
def plantPortUp (p : Nat) (s : State) : State :=
  if s.plantPort p && !s.bit (Obj.nport.nportStatus p) 3 then
    (s.wrBit (Obj.nport.nportStatus p) 3 true).raise 0x1C7 (16 + p) (s.portSpeed p) 0 0
  else s

def execPlantPortUp (port : Fin 8) (s : State) : Host.Outcome State Fault Refusal := s.live (plantPortUp port)

/-- PRP_WRONG_LAN (R517, R550): counted, with event 0x1C8 and the frames of the last second, once a second. -/
def State.wrongLan (p : Nat) (s : State) : State :=
  let l := s.up :: (lookupD [] s.net.wrongLan p).filter fun t => decide (s.up < t + 1000000000)
  let due := !hasKey p s.net.wrongLanAt || decide (lookupD 0 s.net.wrongLanAt p + 1000000000 ≤ s.up)
  let s := (s.modNet fun u => { u with wrongLan := upsert p l u.wrongLan }).count (Obj.nport.prpWrongLan p) 1
  if due then (s.modNet fun u => { u with wrongLanAt := upsert p s.up u.wrongLanAt }).raise 0x1C8 (16 + p) l.length 0 0 else s

/-- PRP_FRAME_RECEIVE (R517): a bad frame counts in RX_ERRORS; one of the other LAN is counted; a duplicate within the drop
window of 64 sequence numbers is discarded; any other refreshes the source's entry of the node table, of 1,024 entries, whose
oldest entry makes room. -/
def prpFrameReceive (p : Nat) (source : BitVec 48) (seq : BitVec 16) (lanB good : Bool) (s : State) : State :=
  if s.plantPort p = false then s
  else
    let s := s.count (Obj.nport.rxFrames p) 1
    if !good then s.count (Obj.nport.rxErrors p) 1
    else if lanB != (p % 2 == 1) then s.wrongLan p
    else
      let m := source.toNat
      let q := seq.toNat
      match s.net.prp.find? (fun x => x.mac == m) with
      | some x =>
        let fresh : PrpNode := { x with attachment := p / 2, at_ := s.up }
        if x.seqs.contains q then
          (s.modNet fun u => { u with prp := u.prp.map fun y => if y.mac = m then fresh else y }).count (Obj.nport.prpDiscards p) 1
        else
          let inWindow (v : Nat) : Bool := decide ((q + 65536 - v) % 65536 < 64)
          s.modNet fun u => { u with prp := u.prp.map fun y => if y.mac = m then { fresh with seqs := q :: x.seqs.filter inWindow } else y }
      | none => s.modNet fun u => { u with prp := (⟨m, [q], p / 2, s.up⟩ :: u.prp).take 1024 }

def execPrpFrameReceive (port : Fin 8) (source : BitVec 48) (seq : BitVec 16) (lanB good : Bool) (s : State) :
    Host.Outcome State Fault Refusal := s.live (prpFrameReceive port source seq lanB good)

/-- PRP_ENTRY_FORGET (R517): an entry not refreshed for 400 ms is forgotten. -/
def prpEntryForget (source : BitVec 48) (s : State) : State :=
  s.modNet fun u => { u with prp := u.prp.filter fun x => x.mac != source.toNat }

def execPrpEntryForget (source : BitVec 48) (s : State) : Host.Outcome State Fault Refusal := s.live (prpEntryForget source)

/-- Whether the module answers at its addresses: after BOOT, and for the identity only as the owner (R518). -/
def State.answersAt (s : State) (t : NetAddr) : Bool :=
  match t with
  | .identity => s.sys.mode != .boot && s.owner && s.catOf.isSome
  | .unit => s.sys.mode != .boot
  | .other => false

/-- PRP_SUPERVISION_SEND (R517): each enabled port sends one for the unit MAC, and the owner one for the identity MAC. -/
def prpSupervisionSend (s : State) : State :=
  s.each ((List.range 8).filter s.plantPort) fun p s =>
    let s := if s.answersAt .unit then (s.emit (.supervision p false)).count (Obj.nport.txFrames p) 1 else s
    if s.answersAt .identity then (s.emit (.supervision p true)).count (Obj.nport.txFrames p) 1 else s

def execPrpSupervisionSend (s : State) : Host.Outcome State Fault Refusal := s.live prpSupervisionSend

/-- An answer to ARP, neighbour discovery or ICMP echo (R518). -/
def netAnswer (kind p : Nat) (t : NetAddr) (s : State) : State :=
  if s.plantPort p && s.answersAt t then (s.emit (.netAnswer p kind (t == .identity))).count (Obj.nport.txFrames p) 1 else s

def execArpRequest (port : Fin 8) (target : NetAddr) (s : State) : Host.Outcome State Fault Refusal := s.live (netAnswer 0 port target)
def execNeighbourSolicitation (port : Fin 8) (target : NetAddr) (s : State) : Host.Outcome State Fault Refusal :=
  s.live (netAnswer 1 port target)
def execIcmpEchoRequest (port : Fin 8) (target : NetAddr) (s : State) : Host.Outcome State Fault Refusal :=
  s.live (netAnswer 2 port target)

/-- The identity moves (R498): a new owner announces it on every enabled port, a former owner stops; sessions and Modbus
connections of the identity end; event 0x1B4. -/
def State.identityMoved (taken : Bool) (s : State) : State :=
  let s := s.each ((s.net.sessions.filter fun x => x.2.identity).map Prod.fst) fun i s => s.closeSession i 4
  let s := s.each s.net.modbus fun k s => (connectionLost (.modbus (Fin.ofNat 8 k)) s).emit (.closed (.modbus (Fin.ofNat 8 k)))
  let s := if taken then s.each ((List.range 8).filter s.plantPort) fun p s => s.emit (.announce p) else s
  let (w, s) := s.fresh
  s.raise 0x1B4 0 taken.toNat (if taken then w.toNat else 0) 0

/-! ### Forwarding (R532) -/

def State.manager (s : State) : Bool := s.role == 2
def State.workerX (s : State) (k : Nat) : WorkerX := lookupD .initial s.red.workers k

/-- The header and payload of an inner reply (R523, R524). -/
def innerReply (f : Forwarded) (status : Nat) (payload : List Byte) : List Byte :=
  leBytes (24 + payload.length) 4 ++ leBytes f.type 1 ++ [1] ++ leBytes status 2 ++ leBytes f.innerClient 8 ++ leBytes f.innerNo 4 ++
    leBytes 0 4 ++ payload

/-- A forwarded request fails: WORKER_SILENT, event 0x1CE. -/
def State.forwardFailed (f : Forwarded) (s : State) : State :=
  ((s.modNet fun u => { u with forwards := u.forwards.filter fun x => x.no != f.no }).raise 0x1CE 0 f.worker f.type f.innerNo).finish f.req
    Rs.workerSilent []

/-- FORWARD (R532): the owner of a manager sends the inner READ, WRITE or RING to the worker under its own number. -/
def forward (i : Nat) (q : ReqHead) (k : Nat) (r : InnerReq) : State → State :=
  let t := r.type.toNat
  let op := byteAt r.payload 0
  let right := if t = Mt.read ∨ (t = Mt.ring ∧ (op = 2 ∨ op = 4)) then Rt.r else Rt.w
  State.admitReq i q Mt.forward [right] fun s =>
    if k = 0 ∨ !([Mt.read, Mt.write, Mt.ring].contains t) then s.badRequest i q Mt.forward
    else if !s.manager ∨ !s.owner then s.refuseReq i q Mt.forward Rs.notOwner
    else if (match s.catOf with | some c => decide (c.redundancy.workers < k) | none => true) = true then s.refuseReq i q Mt.forward Rs.noObject
    else
      let (id, s) := s.openReq (.session i) q.client.toNat q.no.toNat Mt.forward 0 false false 1
      let no := s.net.workerNo
      let f : Forwarded := ⟨k, no, id, t, r.head.client.toNat, r.head.no.toNat⟩
      if (s.workerX k).silentAt.isSome then (s.raise 0x1CE 0 k t f.innerNo).finish id Rs.workerSilent []
      else (s.modNet fun u => { u with forwards := f :: u.forwards, workerNo := (no + 1) % 2 ^ 32 }).emit (.worker k t no r.payload)

def execForward (session : Fin 68) (req : ReqHead) (worker : Fin 64) (inner : InnerReq) (s : State) : Host.Outcome State Fault Refusal :=
  s.live (forward session req worker inner)

/-- FORWARD_REPLY (R532): the worker's answer goes to the host with its own header. -/
def forwardReply (k no status : Nat) (payload : List Byte) (s : State) : State :=
  match s.net.forwards.find? (fun f => f.worker == k && f.no == no) with
  | none => s
  | some f => (s.modNet fun u => { u with forwards := u.forwards.filter fun x => x.no != no }).finish f.req Rs.ok (innerReply f status payload)

def execForwardReply (worker : Fin 64) (no : BitVec 32) (status : BitVec 16) (payload : List Byte) (s : State) :
    Host.Outcome State Fault Refusal := s.live (forwardReply worker no.toNat status.toNat payload)

/-- HIER_TIMEOUT (R532). -/
def hierTimeout (k no : Nat) (s : State) : State :=
  match s.net.forwards.find? (fun f => f.worker == k && f.no == no) with
  | some f => s.forwardFailed f
  | none => s

def execHierTimeout (worker : Fin 64) (no : BitVec 32) (s : State) : Host.Outcome State Fault Refusal := s.live (hierTimeout worker no.toNat)

/-! ### Modbus TCP (R546, R547) -/

abbrev modbusClient : Nat := 0x4D42540000000000

/-- MODBUS_CONNECT (R546): the owner accepts at most 8 connections; the service is off where MODBUS_PORT is 0. -/
def modbusConnect (s : State) : State :=
  match s.catOf with
  | none => s
  | some c =>
    if c.network.modbusPort = 0 ∨ !s.answersAt .identity then s
    else
      match (List.range 8).find? fun k => !s.net.modbus.contains k with
      | some k => s.modNet fun u => { u with modbus := k :: u.modbus }
      | none => s

def execModbusConnect (_peer : BitVec 128) (s : State) : Host.Outcome State Fault Refusal := s.live modbusConnect

/-- The address behind input value `v` of the module or of a string (R547). -/
def modbusModule : List Nat :=
  [Obj.mod.mode, Obj.mod.health, Obj.mod.faults, Obj.time.timeStatus, Obj.safe.safeStatus, Obj.prot.trippedNow, Obj.red.redStatus]

def modbusString (n : Nat) : List Nat :=
  [Obj.str.strStatus n] ++ [2, 3, 4, 6, 7, 8, 9].map (Obj.str.snapshot n + ·) ++
    [Obj.str.socMean n, Obj.str.socRange n, Obj.str.chg10 n, Obj.str.dis10 n, Obj.str.chg60 n, Obj.str.dis60 n, Obj.thm.derateChg n,
     Obj.thm.derateDis n, Obj.pstr.pstrStatus n, Obj.thm.thermStatus n, Obj.func.funcStatus n, Obj.str.estStatus n]

/-- The object of a pair of input registers, by the address of the first (R547); none where unmapped or split. -/
def State.inputItem (s : State) (reg : Nat) : Option Nat :=
  if reg % 2 = 1 then none
  else if reg < 14 then modbusModule[reg / 2]?
  else if 1000 ≤ reg ∧ reg < 1000 + 40 * 256 ∧ s.hasString ((reg - 1000) / 40) then (modbusString ((reg - 1000) / 40))[(reg - 1000) % 40 / 2]?
  else none

/-- The string of a holding register (R547). -/
def State.holdingString (s : State) (reg : Nat) : Option Nat :=
  if 20000 ≤ reg ∧ s.hasString (reg - 20000) ∧ reg < 20256 then some (reg - 20000) else none

/-- A Modbus request on an open connection. -/
def State.onModbus (k : Nat) (f : State → State) (s : State) : State :=
  if s.net.modbus.contains k then f (s.count Obj.net.modbusReqs 1) else s

/-- MODBUS_READ_INPUT (R546, R547): 32-bit values, high word first; a split pair or an unmapped register gets exception 2, a
count outside 1 to 125 exception 3. -/
def modbusReadInput (k tid unit start count : Nat) : State → State := State.onModbus k fun s =>
  if count = 0 ∨ 125 < count then s.modbusRefuse k tid unit 4 start 3
  else
    let l := (List.range ((count + 1) / 2)).map fun j => s.inputItem (start + 2 * j)
    if count % 2 = 1 ∨ l.any Option.isNone then s.modbusRefuse k tid unit 4 start 2
    else
      match s.peekItems 68 (l.filterMap id) with
      | some (ws, s) =>
        s.emit (.modbus k tid unit 4 (BitVec.ofNat 8 (2 * count) :: ws.flatMap fun w => be16 (w.toNat / 65536) ++ be16 w.toNat))
      | none => s.modbusRefuse k tid unit 4 start 2

def execModbusReadInput (conn : Fin 8) (tid : BitVec 16) (unit : Byte) (start count : BitVec 16) (s : State) :
    Host.Outcome State Fault Refusal := s.live (modbusReadInput conn tid.toNat unit.toNat start.toNat count.toNat)

/-- MODBUS_READ_HOLDING (R546, R547): CONTACT_REQ of each string. -/
def modbusReadHolding (k tid unit start count : Nat) : State → State := State.onModbus k fun s =>
  if count = 0 ∨ 125 < count then s.modbusRefuse k tid unit 3 start 3
  else
    let l := (List.range count).map fun j => s.holdingString (start + j)
    if l.any Option.isNone then s.modbusRefuse k tid unit 3 start 2
    else s.emit (.modbus k tid unit 3 (BitVec.ofNat 8 (2 * count) :: (l.filterMap id).flatMap fun n => be16 (s.rd (Obj.pstr.contactReq n)).toNat))

def execModbusReadHolding (conn : Fin 8) (tid : BitVec 16) (unit : Byte) (start count : BitVec 16) (s : State) :
    Host.Outcome State Fault Refusal := s.live (modbusReadHolding conn tid.toNat unit.toNat start.toNat count.toNat)

/-- A Modbus write (R546): a pair-agreed host write under the Modbus client, only while MODBUS_WRITE is 1. -/
def modbusWrite (k tid unit fn start : Nat) (values : List Nat) (echo : Nat) : State → State := State.onModbus k fun s =>
  if s.bit Obj.net.netCfg 0 = false then s.modbusRefuse k tid unit fn start 1
  else if values.isEmpty ∨ 123 < values.length then s.modbusRefuse k tid unit fn start 3
  else
    let l := (List.range values.length).map fun j => s.holdingString (start + j)
    if l.any Option.isNone then s.modbusRefuse k tid unit fn start 2
    else if values.any (1 < ·) then s.modbusRefuse k tid unit fn start 3
    else
      let (id, s) := s.openReq (.modbus k tid unit fn start echo) modbusClient s.net.nextReq Mt.write (Obj.pstr.contactReq (start - 20000)) false true
        values.length
      s.each ((l.filterMap id_).zip values) fun x s => s.stageAgreed 68 id (.target (Obj.pstr.contactReq x.1) [w32 x.2])
where
  /-- The identity on options. -/
  id_ (o : Option Nat) : Option Nat := o

def execModbusWriteSingle (conn : Fin 8) (tid : BitVec 16) (unit : Byte) (register value : BitVec 16) (s : State) :
    Host.Outcome State Fault Refusal := s.live (modbusWrite conn tid.toNat unit.toNat 6 register.toNat [value.toNat] value.toNat)

def execModbusWriteMultiple (conn : Fin 8) (tid : BitVec 16) (unit : Byte) (start : BitVec 16) (values : List (BitVec 16)) (s : State) :
    Host.Outcome State Fault Refusal :=
  s.live (modbusWrite conn tid.toNat unit.toNat 16 start.toNat (values.map BitVec.toNat) values.length)

/-- MODBUS_OTHER_FUNCTION (R546): exception 1. -/
def modbusOther (k tid unit fn : Nat) : State → State := State.onModbus k fun s => s.modbusRefuse k tid unit fn 0 1

def execModbusOtherFunction (conn : Fin 8) (tid : BitVec 16) (unit function : Byte) (s : State) : Host.Outcome State Fault Refusal :=
  s.live (modbusOther conn tid.toNat unit.toNat function.toNat)

end Sys2Proof.Machine
end

