-- ==== Sys2Proof/Machine/Recorder.lean ====
section
/-!
DEFINITION. Flushing, the record store, its recovery and the read window (R552 to R566).
-/

namespace Sys2Proof.Machine

def State.modRcd (f : Recorder → Recorder) (s : State) : State := { s with rcd := f s.rcd }

/-- The next erase block that is not retired (R560, R561). -/
def nextGood (retired : List Nat) : Nat → Nat → Nat
  | 0, b => b
  | n + 1, b => let c := (b + 1) % 65536; if retired.contains c then nextGood retired n c else c

/-- The write point moves to the next good block (R560): the block ahead of it is erased, which drops what it held; event
0x1D3 at the first wrap. -/
def State.nextBlock (s : State) : State :=
  let r := s.rcd
  let b := nextGood r.retired 65536 r.block
  let ahead := nextGood r.retired 65536 b
  let wraps := decide (b < r.block)
  let pages := r.pages.filter fun p => p.block != ahead && p.block != b
  let s := s.modRcd fun u => { u with block := b, page := 0, aheadErased := false, wrapped := u.wrapped || wraps, pages := pages }
  if wraps && !r.wrapped then
    s.raise 0x1D3 0 (match pages.getLast? with | some p => (p.recs.headD default_).rn % 2 ^ 32 | none => r.nextRn % 2 ^ 32) 0 0
  else s
where
  /-- A stand-in where a page is empty, which none is. -/
  default_ : EvRecord := ⟨0, false, false, false, false, false, false, 0, 0, 0, 0, 0, 0, 0, 0, 0, 0⟩

/-- Retires the block at the write point or ahead of it (R561): event 0x1D2, cause 1 NOT_BLANK, 2 program, 3 erase. -/
def State.retireBlock (b cause : Nat) (s : State) : State :=
  let s := s.modRcd fun u => { u with retired := b :: u.retired }
  (s.flag Obj.rcd.recFlags 2).raise 0x1D2 0 b cause s.rcd.retired.length

/-- Programs records on whole pages, 16 slots each (R560). -/
def programPages : Nat → List EvRecord → State → State
  | 0, _, s => s
  | n + 1, l, s =>
    if l.isEmpty then s
    else
      let s := if s.rcd.page = 256 then s.nextBlock else s
      let s := s.modRcd fun u => { u with pages := ⟨u.block, l.take 16, true⟩ :: u.pages, page := u.page + 1 }
      programPages n (l.drop 16) s

/-- Unflushed records, oldest first. -/
def Recorder.toFlush (r : Recorder) : List EvRecord := (r.buffer.filter fun e => decide (r.flushedRn ≤ e.rn)).reverse

/-- Every unflushed record is sealed and programmed, oldest first (R557, R559). -/
def State.flushAll (s : State) : State :=
  let l := s.rcd.toFlush.map fun e => { e with sealed_ := true }
  let s := s.modRcd fun u =>
    { u with buffer := u.buffer.map fun e => { e with sealed_ := true }, flushedRn := u.nextRn, flushDue := false, lastFlush := s.up }
  programPages (l.length + 1) l s

/-- Sealed records from a record number on, oldest first, up to the first that is not sealed. -/
def Recorder.sealedFrom (r : Recorder) (from_ : Nat) : List EvRecord :=
  ((r.buffer.filter fun e => decide (from_ ≤ e.rn)).reverse).takeWhile EvRecord.sealed_

/-- Sealed records go into REC_RING in append order (R566). -/
def State.copySealed (s : State) : State :=
  let k := s.bits Obj.rcd.recRing 19 0
  match s.ringAlloc k with
  | some r =>
    if r.cls = 2 ∧ 4 ≤ r.entry then
      let l := s.rcd.sealedFrom s.rcd.ringRn
      let s := match l.getLast? with | some e => s.modRcd fun u => { u with ringRn := e.rn + 1 } | none => s
      s.each l fun e s => s.submitOp k .module_ (.put [e.bytes ++ List.replicate (r.entry * 8 - 32) 0])
    else s.modRcd fun u => { u with ringRn := u.nextRn }
  | none => s.modRcd fun u => { u with ringRn := u.nextRn }

/-- RECORDER_FLUSH (R559, R561): a trigger starts a flush, or extends the one that runs; `bad` names a failure of the block at
the write point, which is retired. -/
def recorderFlush (bad : Option Nat) (s : State) : State :=
  if s.rcd.flushing then s.modRcd fun u => { u with flushDue := true }
  else
    let s := match bad with
      | some c => (s.retireBlock s.rcd.block (c + 1)).nextBlock
      | none => s
    (s.flushAll.modRcd fun u => { u with flushing := true }).copySealed

def execRecorderFlush (bad : Option (Fin 3)) (s : State) : Host.Outcome State Fault Refusal := s.live (recorderFlush (bad.map Fin.val))

/-- FLUSH_DONE (R559): a trigger that arrived meanwhile has extended the flush to the records appended since. -/
def flushDone (s : State) : State :=
  if s.rcd.flushing then
    let s := if s.rcd.flushDue then s.flushAll.copySealed else s
    (s.modRcd fun u => { u with flushing := false }).count Obj.rcd.flushes 1
  else s

def execFlushDone (s : State) : Host.Outcome State Fault Refusal := s.live flushDone

/-- STORE_ERASE_DONE (R560, R561): the block ahead is erased, or is retired and the next one erased in its place. -/
def storeEraseDone (ok : Bool) (s : State) : State :=
  let ahead := nextGood s.rcd.retired 65536 s.rcd.block
  if ok then s.modRcd fun u => { u with aheadErased := true }
  else
    let s := s.retireBlock ahead 3
    let next := nextGood s.rcd.retired 65536 s.rcd.block
    s.modRcd fun u => { u with pages := u.pages.filter fun p => p.block != next, aheadErased := false }

def execStoreEraseDone (ok : Bool) (s : State) : Host.Outcome State Fault Refusal := s.live (storeEraseDone ok)

abbrev RecCmd.flush : Nat := 1
abbrev RecCmd.clear : Nat := 2

/-- REC_FLUSH (R559, R579): REC_CMD FLUSH is a flush trigger. -/
def recFlush (s : State) : State := recorderFlush none (s.accept Obj.rcd.cmdStatus RecCmd.flush Oc.done)

def execRecFlush (s : State) : Host.Outcome State Fault Refusal := s.live recFlush

/-- REC_CLEAR_COUNTERS (R579). -/
def recClearCounters (s : State) : State :=
  (State.clearAll [Obj.rcd.appended, Obj.rcd.merged, Obj.rcd.lost, Obj.rcd.flushes] s).accept Obj.rcd.cmdStatus RecCmd.clear Oc.done

def execRecClearCounters (s : State) : Host.Outcome State Fault Refusal := s.live recClearCounters

/-! ### Power-fail flush and recovery (R562, R563) -/

/-- SUPPLY_LOST's part of the recorder (R562, R563): last-words copies, then every unflushed record, then the completion mark;
a collapse leaves what had been reached. -/
def State.powerFailFlush (c : Option Collapse) (s : State) : State :=
  let l := s.rcd.toFlush
  let words := (l.reverse.take 64).map fun e => { e with sealed_ := true }
  let n := l.length
  match c with
  | none =>
    let s := s.modRcd fun u => { u with lastWords := words, pfBegun := true, pfMark := false }
    let s := s.flushAll
    let (t, s) := s.fresh
    let s := s.raise 0x1D4 0 n t.toNat 0
    s.flushAll.modRcd fun u => { u with pfMark := true, flushing := false }
  | some k =>
    let s := s.modRcd fun u => { u with lastWords := words.take k.copies, pfBegun := true, pfMark := false, flushing := false }
    programPages (k.pages + 1) ((l.map fun e => { e with sealed_ := true }).take (16 * k.pages)) s

/-- Recovery at a start that follows power-up, FATAL or a cold restart (R555, R563, R578): the store's last good page, the
last-words records beyond it, the counters at SEQ_FLOOR; events 0x1D5 and 0x1D6. A clock-monitor fault held in MRAM is
reported first (R634). -/
def State.recorderStart (s : State) : State :=
  let r := s.rcd
  let pages := r.pages.dropWhile fun p => !p.crcOk
  let lastRn : Nat := match pages with | p :: _ => (match p.recs.getLast? with | some e => e.rn + 1 | none => 0) | [] => 0
  let words := (r.lastWords.filter fun e => decide (lastRn ≤ e.rn)).reverse
  let missing := match words with | e :: _ => e.rn - lastRn | [] => if r.pfBegun then r.nextRn - lastRn else 0
  let words := match words with | e :: t => { e with prevLost := e.prevLost || missing != 0 } :: t | [] => []
  let s := s.modRcd fun u =>
    { u with
      buffer := words.reverse, pages := pages, flushedRn := match words with | e :: _ => e.rn | [] => u.nextRn
      seqs := [], seqBase := u.seqFloor, lostRun := 0, flushing := false, flushDue := !words.isEmpty, lastFlush := s.up
      lastWords := [], pfBegun := false, pfMark := false }
  let s := match s.pwr.clockFault with
    | some c => { s with pwr := { s.pwr with clockFault := none } }.raise 0x1F5 0 c 0 0
    | none => s
  let s := if missing != 0 then s.count Obj.rcd.lost missing else s
  let s := if missing != 0 || (r.pfBegun && !r.pfMark) then (s.flag Obj.rcd.recFlags 3).raise 0x1D5 0 missing words.length 0 else s
  s.raise 0x1D6 0 (s.rcd.nextRn % 2 ^ 32) s.rcd.seqFloor 0

end Sys2Proof.Machine
end

