-- ==== Sys2Proof/Machine/Archive.lean ====
section
/-!
DEFINITION. The Archive (R568 to R581): mounting, draining, segments, storage port failure and recovery, retrieval.
-/

namespace Sys2Proof.Machine

def State.modArc (f : ArcUnit → ArcUnit) (s : State) : State := { s with arc := f s.arc }
def State.setNs (n : Nat) (f : NsX → NsX) (s : State) : State := s.modArc fun u => { u with nss := upsert n (f (s.ns n)) u.nss }
def State.setSt (p : Nat) (f : StPort → StPort) (s : State) : State := s.modArc fun u => { u with ports := upsert p (f (s.st p)) u.ports }
def State.archiveRecs (s : State) : List ArchiveRec := match s.catOf with | some c => c.archive | none => []

/-! ### Mounting (R569) -/

/-- The ports a namespace lies on (R54). -/
def ArchiveRec.onPorts (r : ArchiveRec) : List Nat := if r.port = 2 then [0, 1] else [r.port]

/-- A port serves reads and writes. -/
def StPort.serves (x : StPort) : Bool := x.present && x.retired.isNone && !x.testing

/-- The size of this module's namespace on a port that serves. -/
def State.nsOn (s : State) (n p : Nat) : Option Nat :=
  let x := s.st p
  if x.serves then (x.spaces.find? fun y => y.1 == n && y.2.1).map fun y => y.2.2 else none

/-- GB of a drive that no namespace takes. -/
def StPort.free (x : StPort) : Nat := x.capacity - (x.spaces.map fun y => y.2.2).sum

/-- Creates the missing namespaces of a port, in ascending NSID (R569, point 4); answers those created. -/
def State.createMissing (p : Nat) (s : State) : List Nat × State :=
  let recs := (s.archiveRecs.filter fun r => r.onPorts.contains p).mergeSort fun a b => decide (a.nsid ≤ b.nsid)
  recs.foldl (fun a r =>
    let x := a.2.st p
    let size := min r.sizeGb x.free
    if (x.spaces.any fun y => y.1 == r.nsid) || decide (size < 1) then a
    else
      let t := a.2.setSt p fun y => { y with spaces := y.spaces ++ [(r.nsid, true, size)] }
      (a.1 ++ [r.nsid], if size < r.sizeGb then t.raise 0x1D8 r.nsid r.sizeGb size 0 else t)) ([], s)

/-- Mounts one namespace as its ports stand: the smaller of the sizes found, DEGRADED where one of two ports is out, and not at
all where a lower NSID of the same CONTENT is mounted on one of its ports (R569, R575). A copy created on a returning port
lacks every segment. -/
def State.mountNs (made : List (Nat × Nat)) (r : ArchiveRec) (s : State) : State :=
  let n := r.nsid
  let here := r.onPorts.filterMap fun p => (s.nsOn n p).map fun g => (p, g)
  let shadowed := s.archiveRecs.any fun q => decide (q.nsid < n) && q.content == r.content && (s.ns q.nsid).mounted &&
    q.onPorts.any fun p => r.onPorts.contains p
  if here.isEmpty || shadowed then s.setNs n fun x => { x with mounted := false, resilver := none }
  else
    let x := s.ns n
    let gb := here.foldl (fun m y => min m y.2) ((here.headD (0, 0)).2)
    let new := here.filter fun y => made.contains (y.1, n)
    let blank := new.length = here.length
    let segs := if blank then [] else x.segs
    let lacks := if blank then [] else if new.isEmpty then x.lacks else segs.map Segment.no
    let whole := decide (here.length = r.onPorts.length)
    let back := whole && (x.degraded || !new.isEmpty) && !blank && r.port == 2
    let s := s.setNs n fun x =>
      { x with gb := gb, mounted := true, short := decide (gb < r.sizeGb), full := x.full && !blank, degraded := !whole || back
               lacks := lacks, resilver := if back then some lacks.length else none, nextSeg := if blank then 0 else x.nextSeg, segs := segs }
    let s := if x.mounted then s else s.raise 0x1D7 n gb r.port (if blank then 2 else 1)
    if back then s.raise 0x1DC n 1 lacks.length 0 else s

/-- Mounts every namespace with a place on the given ports, in ascending NSID. Not without a Catalogue (R70, R569). -/
def State.mountPorts (ps : List Nat) (s : State) : State :=
  let (made, s) := ps.foldl (fun a p =>
    if (a.2.st p).serves then let (l, t) := a.2.createMissing p; (a.1 ++ l.map fun n => (p, n), t) else a) (([] : List (Nat × Nat)), s)
  let recs := (s.archiveRecs.filter fun r => r.onPorts.any ps.contains).mergeSort fun a b => decide (a.nsid ≤ b.nsid)
  (s.modArc fun u => { u with unrouted := [] }).each recs fun r s => s.mountNs made r

/-- The end of BOOT (R569): what the drives hold, then every mount. -/
def State.archiveMount (drives : List (Fin 2 × DriveFound)) (s : State) : State :=
  let s := s.each [0, 1] fun p s =>
    match drives.find? (fun d => d.1.val == p) with
    | some d => s.setSt p fun x => { x with present := true, capacity := d.2.capacity, spaces := d.2.spaces, testing := false }
    | none => s.setSt p fun x => { x with present := false, capacity := 0, spaces := [], testing := false }
  s.mountPorts [0, 1]

/-- The Archive at a start (R578): queries end; a start that is not warm leaves the namespaces unmounted until the end of BOOT. -/
def State.archiveStart (warm : Bool) (s : State) : State :=
  let s := s.each s.arc.queries fun q s => s.wrBits (sessKey q.1 Obj.arc.qStatus) 1 0 0
  s.modArc fun u =>
    { u with
      queries := [], writes := if warm then u.writes else [], unrouted := if warm then u.unrouted else []
      nss := if warm then u.nss else u.nss.map fun x => (x.1, { x.2 with mounted := false, resilver := none })
      captures := if warm then u.captures else [] }

/-! ### Content, coding and segments (R570 to R574) -/

/-- The CONTENT of a binding (R570): by the space of its source. -/
def contentOf (source : Nat) : Nat :=
  let sp := source / 2 ^ 24
  if sp = 6 then 0 else if [5, 7, 8, 9].contains sp then 1 else 4

/-- The mounted namespace of a CONTENT, the lowest NSID. -/
def State.nsFor (s : State) (content : Nat) : Option ArchiveRec :=
  ((s.archiveRecs.filter fun r => r.content == content && (s.ns r.nsid).mounted).mergeSort fun a b => decide (a.nsid ≤ b.nsid)).head?

def zigzag (i : Int) : Nat := if i < 0 then (-2 * i - 1).toNat else (2 * i).toNat

/-- Bits of a column coded as Rice codes with parameter k (R573). -/
def riceBits (k : Nat) (l : List Nat) : Nat := l.foldl (fun n v => n + v / 2 ^ k + 1 + k) 0

/-- Bits of a column with the k, 0 to 15, that takes fewest. -/
def bestBits (l : List Nat) : Nat := ((List.range 15).map fun k => riceBits (k + 1) l).foldl min (riceBits 0 l)

/-- Differences of a column from its first value on, by zigzag. -/
def deltas (sub : Int) : List Nat → List Nat
  | a :: b :: t => zigzag ((b : Int) - (a : Int) - sub) :: deltas sub (b :: t)
  | _ => []

/-- Payload bytes of a block: one k per column, the first entry raw, the coded differences. -/
def codedLength (raw : Nat) (columns : List (List Nat)) : Nat := columns.length + raw + ((columns.map bestBits).sum + 7) / 8

/-- The 16-bit columns of entries after their first `skip` bytes; in each word the high half first where `high` holds. -/
def halfColumns (skip n : Nat) (high : Bool) (es : List (List Byte)) : List (List Nat) :=
  (List.range n).map fun c =>
    let c := if high then (if c % 2 = 0 then c + 1 else c - 1) else c
    deltas 0 (es.map fun e => leAt e (skip + 2 * c) 2)

/-- Payload bytes of what a write drains (R573). -/
def payloadLength (interval : Nat) (w : ArcWrite) : Nat :=
  let es := w.entries.map ArcEntry.data
  let len := (es.headD []).length
  match w.src with
  | .records => 32 * es.length
  | .ring _ =>
    let n := (len - 8) / 2
    codedLength len (deltas (interval * 100) (w.entries.map fun e => e.time / 1000000) :: halfColumns 8 n true es)
  | .captures =>
    let ps := (w.entries.map fun e => leAt e.data 8 2).eraseDups
    let cols := ps.flatMap fun p =>
      let l := (w.entries.filter fun e => leAt e.data 8 2 == p).map ArcEntry.data
      halfColumns 10 (((l.headD []).length - 10) / 2) false l
    codedLength (2 * cols.length) cols

/-- Bytes of a block, padded to 8 (R572). -/
def blockLength (interval : Nat) (w : ArcWrite) : Nat := (24 + payloadLength interval w + 4 + 7) / 8 * 8

/-- The 4,096-byte header of a segment (R572). -/
def State.segHeader (r : ArchiveRec) (g : Segment) (s : State) : List Byte :=
  let b := leBytes 0x43524147 4 ++ leBytes 1 2 ++ leBytes r.content 1 ++ leBytes r.nsid 1 ++
    leBytes (s.rd64 Obj.mod.serial) 8 ++ leBytes g.no 8 ++ leBytes g.firstTime 8 ++ leBytes (g.lastTime.getD 0) 8 ++
    leBytes g.blocks 4 ++ leBytes g.used 4 ++ leBytes ((s.catOf.map fun c => c.head.catalogueId).getD 0) 8 ++ List.replicate 4036 0
  b ++ leBytes (crc32c b) 4

/-- Segments that a namespace of a size holds, beside its label. -/
def NsX.slots (x : NsX) : Nat := (x.gb * 1000000000 - 4096) / segBytes

/-- A block of a length fits the open segment (R572). -/
def NsX.fits (x : NsX) (len : Nat) : Bool :=
  match x.segs with | g :: _ => decide (g.used + len ≤ segBytes) | [] => false

/-- The namespace may begin a segment (R574): room is left, RETENTION is 0, or the oldest segment is older. -/
def State.maySegment (r : ArchiveRec) (s : State) : Bool :=
  let x := s.ns r.nsid
  decide (x.segs.length < x.slots) || r.retention == 0 ||
    match x.segs.getLast? with
    | some g => decide ((g.lastTime.getD s.now) + r.retention * 31557600000000000 < s.now)
    | none => false

/-- A block is appended, in a new segment where it does not fit the open one, whose place is taken from the oldest where none
is left (R572, R574). -/
def State.appendBlock (r : ArchiveRec) (w : ArcWrite) (s : State) : State :=
  let len := blockLength r.interval w
  let x := s.ns r.nsid
  let first := (w.entries.head?.map ArcEntry.time).getD s.now
  let s := if x.fits len then s
    else
      let s := match x.segs with
        | g :: t =>
          let done := { g with lastTime := some ((g.entries.getLast?.map ArcEntry.time).getD g.firstTime) }
          (s.setNs r.nsid fun y => { y with segs := done :: t }).emit (.segment r.nsid (s.segHeader r done))
        | [] => s
      let g : Segment := { no := x.nextSeg, firstTime := first, lastTime := none, blocks := 0, used := 4096, entries := [] }
      (s.setNs r.nsid fun y =>
        { y with nextSeg := y.nextSeg + 1, segs := g :: y.segs.take (max 1 y.slots - 1)
                 lacks := if y.degraded && y.resilver.isNone then y.lacks ++ [y.nextSeg] else y.lacks }).emit
        (.segment r.nsid (s.segHeader r g))
  s.setNs r.nsid fun y =>
    match y.segs with
    | g :: t =>
      let entries := w.entries.map fun e => { e with block := g.blocks }
      { y with segs := { g with blocks := g.blocks + 1, used := g.used + len, entries := g.entries ++ entries } :: t }
    | [] => y

/-! ### Draining (R571) -/

/-- A namespace can be written: one of its ports serves it. -/
def State.writable (s : State) (r : ArchiveRec) : Bool := r.onPorts.any fun p => (s.nsOn r.nsid p).isSome

/-- Starts a write, or finds the namespace full (R574, event 0x1D9). -/
def State.startWrite (r : ArchiveRec) (w : ArcWrite) (s : State) : State :=
  let x := s.ns r.nsid
  if w.entries.isEmpty || !s.writable r || s.arc.writes.any (fun v => v.src == w.src) then s
  else if x.fits (blockLength r.interval w) || s.maySegment r then
    (s.setNs r.nsid fun y => { y with full := false }).modArc fun u => { u with writes := u.writes ++ [w] }
  else if x.full then s
  else
    let age := match x.segs.getLast? with | some g => (s.now - g.lastTime.getD s.now) / 86400000000000 | none => 0
    ((s.setNs r.nsid fun y => { y with full := true }).flag Obj.arc.arcFlags 2).raise 0x1D9 r.nsid age r.retention 0

/-- An archive-class ring without a mounted namespace of its CONTENT (R570): event 0x1DE once per mount. -/
def State.unrouted (k content : Nat) (s : State) : State :=
  if s.arc.unrouted.contains k then s
  else
    let cause := if s.archiveRecs.any fun r => r.content == content then 2 else 1
    ((s.modArc fun u => { u with unrouted := k :: u.unrouted }).flag Obj.arc.arcFlags 3).raise 0x1DE 0 k cause 0

/-- ARCHIVE_DRAIN (R570, R571): a ring, sealed records or closed captures are written to the namespace of their CONTENT. -/
def archiveDrain (src : DrainSrc) (s : State) : State :=
  match src with
  | .ring k =>
    let k := k.toNat
    let x := s.xRing k
    match s.ringAlloc k, x.bind with
    | some a, some b =>
      if a.cls = 3 ∧ x.entries ≠ [] then
        match s.nsFor (contentOf b.source) with
        | none => s.unrouted k (contentOf b.source)
        | some r =>
          let es := x.entries.map fun e => { time := leAt e 0 8, source := k, block := 0, data := e.take (8 + 4 * b.items) }
          s.startWrite r { src := src, nsid := r.nsid, entries := es, upTo := x.tail }
      else s
    | _, _ => s
  | .records =>
    match s.nsFor 2 with
    | none => s
    | some r =>
      let l := s.rcd.sealedFrom s.rcd.archRn
      let es := l.map fun e => { time := e.time, source := e.code + 512 * e.inst, block := 0, data := e.bytes }
      s.startWrite r { src := src, nsid := r.nsid, entries := es, upTo := (l.getLast?.map fun e => e.rn + 1).getD 0 }
  | .captures =>
    match s.nsFor 3, s.arc.captures with
    | some r, e :: _ =>
      let es := s.arc.captures.takeWhile fun y => y.source == e.source
      s.startWrite r { src := src, nsid := r.nsid, entries := es, upTo := es.length }
    | _, _ => s

def execArchiveDrain (src : DrainSrc) (s : State) : Host.Outcome State Fault Refusal := s.live (archiveDrain src)

/-- ARCHIVE_WRITE_DONE (R571, R576): the write has completed on every port of the namespace that serves it; the entries are
released up to the last one written. -/
def archiveWriteDone (src : DrainSrc) (s : State) : State :=
  match s.arc.writes.find? (fun w => w.src == src) with
  | none => s
  | some w =>
    let s := s.modArc fun u => { u with writes := u.writes.filter fun v => v.src != src }
    match s.archiveRec w.nsid with
    | none => s
    | some r =>
      let s := s.appendBlock r w
      match src with
      | .ring k => s.submitOp k.toNat .module_ (.release (w32 w.upTo))
      | .records => s.modRcd fun u => { u with archRn := w.upTo }
      | .captures => s.modArc fun u => { u with captures := u.captures.drop w.upTo }

def execArchiveWriteDone (src : DrainSrc) (s : State) : Host.Outcome State Fault Refusal := s.live (archiveWriteDone src)

/-! ### Storage port failure and recovery (R575, R576) -/

abbrev StCmd.retire : Nat := 1
abbrev StCmd.reinstate : Nat := 2
abbrev StCmd.format : Nat := 3
abbrev StCmd.clear : Nat := 4

/-- Retires a port (R575): its mirrored namespaces go on DEGRADED on the other port, the others stop writing. -/
def State.stRetireFor (p reason : Nat) (s : State) : State :=
  if (s.st p).retired.isSome then s
  else
    let s := s.setSt p fun x => { x with retired := some reason, testing := false }
    let s := (s.flag Obj.arc.arcFlags 0).raise 0x1DA p reason (s.bits (Obj.st.score p) 15 0) 0
    s.each (s.archiveRecs.filter fun r => r.onPorts.contains p && (s.ns r.nsid).mounted) fun r s =>
      if r.port = 2 then s.setNs r.nsid fun x => { x with degraded := true, resilver := none }
      else s.modArc fun u => { u with writes := u.writes.filter fun w => w.nsid != r.nsid }

/-- Points on the error score of a port (R575): more than 512 retires it. -/
def State.stScore (p n : Nat) (s : State) : State :=
  let a := Obj.st.score p
  let v := satAdd 65535 (s.bits a 15 0) n
  let s := s.wr a (w32 (max (s.bits a 31 16) v * 65536 + v))
  if 512 < v then s.stRetireFor p 3 else s

/-- NVME_COMMAND_ERROR (R575). -/
def nvmeCommandError (p nsid status lba : Nat) (fatal : Bool) (s : State) : State :=
  let s := ((s.count (Obj.st.stErrors p) 1).flag Obj.arc.arcFlags 1).raise 0x1DD nsid status lba 0
  let s := s.stScore p 4
  if fatal then s.stRetireFor p 2 else s

def execNvmeCommandError (port : Fin 2) (nsid : Byte) (status : BitVec 16) (lba : BitVec 32) (fatal : Bool) (s : State) :
    Host.Outcome State Fault Refusal := s.live (nvmeCommandError port nsid.toNat status.toNat lba.toNat fatal)

/-- NVME_TIMEOUT (R575). -/
def nvmeTimeout (p : Nat) (s : State) : State := (s.count (Obj.st.stErrors p) 1).stScore p 16
def execNvmeTimeout (port : Fin 2) (s : State) : Host.Outcome State Fault Refusal := s.live (nvmeTimeout port)

/-- STORAGE_LINK_RETRAIN (R575). -/
def execStorageLinkRetrain (port : Fin 2) (s : State) : Host.Outcome State Fault Refusal := s.live (State.stScore port 32)

/-- STORAGE_LINK_DOWN (R568, R575): down for longer than 1 s, or the enclosure removed. -/
def storageLinkDown (p : Nat) (s : State) : State := (s.setSt p fun x => { x with present := false }).stRetireFor p 1
def execStorageLinkDown (port : Fin 2) (s : State) : Host.Outcome State Fault Refusal := s.live (storageLinkDown port)

/-- STORAGE_SCORE_DECAY (R575). -/
def storageScoreDecay (s : State) : State := s.each [0, 1] fun p s => s.wrBits (Obj.st.score p) 15 0 (s.bits (Obj.st.score p) 15 0 - 1)
def execStorageScoreDecay (s : State) : Host.Outcome State Fault Refusal := s.live storageScoreDecay

/-- SMART_WARNING (R575). -/
def smartWarning (p critical used : Nat) (s : State) : State :=
  ((s.wrBits (Obj.st.stStatus p) 23 16 critical).wrBits (Obj.st.stStatus p) 15 8 used).raise 0x1DF p critical used 0
def execSmartWarning (port : Fin 2) (critical used : Byte) (s : State) : Host.Outcome State Fault Refusal :=
  s.live (smartWarning port critical.toNat used.toNat)

/-- ST_RETIRE (R575, reason 4): NOT_READY on a port that is retired. -/
def stRetire (p : Nat) (s : State) : State :=
  if (s.st p).retired.isSome then s.refuse (Obj.st.cmdStatus p) StCmd.retire Oc.notReady
  else (s.accept (Obj.st.cmdStatus p) StCmd.retire Oc.done).stRetireFor p 4
def execStRetire (port : Fin 2) (s : State) : Host.Outcome State Fault Refusal := s.live (stRetire port)

/-- ST_REINSTATE (R575): the self-test of a retired port starts. -/
def stReinstate (p : Nat) (s : State) : State :=
  let c := Obj.st.cmdStatus p
  if (s.st p).testing then s.refuse c StCmd.reinstate Oc.busy
  else if (s.st p).retired.isNone then s.refuse c StCmd.reinstate Oc.notReady
  else (s.accept c StCmd.reinstate Oc.inProgress).setSt p fun x => { x with testing := true }
def execStReinstate (port : Fin 2) (s : State) : Host.Outcome State Fault Refusal := s.live (stReinstate port)

/-- Namespaces mounted that lie on a port. -/
def State.mountedOn (s : State) (p : Nat) : Nat :=
  (s.archiveRecs.filter fun r => (s.ns r.nsid).mounted && (s.nsOn r.nsid p).isSome).length

/-- ST_SELF_TEST_DONE (R569, R575): on a pass the port mounts and its mirrored namespaces resilver; on a fail it stays retired. -/
def stSelfTestDone (p : Nat) (found : Option DriveFound) (s : State) : State :=
  if (s.st p).testing then
    match found with
    | none => (s.setSt p fun x => { x with testing := false }).setOutcome (Obj.st.cmdStatus p) Oc.selfTestFailed
    | some d =>
      let s := s.setSt p fun x => { x with testing := false, retired := none, present := true, capacity := d.capacity, spaces := d.spaces }
      let s := (s.setOutcome (Obj.st.cmdStatus p) Oc.done).mountPorts [p]
      s.raise 0x1DB p (s.mountedOn p) 0 0
  else s
def execStSelfTestDone (port : Fin 2) (found : Option DriveFound) (s : State) : Host.Outcome State Fault Refusal :=
  s.live (stSelfTestDone port found)

/-- RESILVER_DONE (R576): the returned copy holds every segment. -/
def resilverDone (n : Nat) (s : State) : State :=
  match (s.ns n).resilver with
  | some k => (s.setNs n fun x => { x with resilver := none, degraded := false, lacks := [] }).raise 0x1DC n 2 k 0
  | none => s
def execResilverDone (nsid : Byte) (s : State) : Host.Outcome State Fault Refusal := s.live (resilverDone nsid.toNat)

/-- ST_FORMAT (R569, R580): every namespace of the port is deleted and those of the Catalogue created afresh, in any mode. -/
def stFormat (p : Nat) (s : State) : State :=
  let c := Obj.st.cmdStatus p
  if (s.st p).testing then s.refuse c StCmd.format Oc.busy
  else if !(s.st p).serves then s.refuse c StCmd.format Oc.notReady
  else
    let s := (s.accept c StCmd.format Oc.done).setSt p fun x => { x with spaces := [] }
    let alone := s.archiveRecs.filter fun r => r.onPorts.contains p && !r.onPorts.any fun q => (s.nsOn r.nsid q).isSome
    let s := s.each alone fun r s =>
      (s.setNs r.nsid fun x => { x with mounted := false }).modArc fun u => { u with writes := u.writes.filter fun w => w.nsid != r.nsid }
    s.mountPorts [p]
def execStFormat (port : Fin 2) (s : State) : Host.Outcome State Fault Refusal := s.live (stFormat port)

/-- ST_CLEAR_COUNTERS (R580). -/
def stClearCounters (p : Nat) (s : State) : State :=
  (s.wr (Obj.st.stErrors p) 0).accept (Obj.st.cmdStatus p) StCmd.clear Oc.done
def execStClearCounters (port : Fin 2) (s : State) : Host.Outcome State Fault Refusal := s.live (stClearCounters port)

/-! ### Retrieval (R577) -/

abbrev ArcCmd.clear : Nat := 1
abbrev ArcCmd.query : Nat := 2
abbrev ArcCmd.cancel : Nat := 3

/-- Whether an entry answers Q_SELECT (R580). -/
def selects (content : Nat) (sel : Word) (e : ArcEntry) : Bool :=
  if content = 2 then
    (bitAt 31 sel || e.source % 512 == bitsOf 8 0 sel) && (bitAt 30 sel || e.source / 512 == bitsOf 25 9 sel)
  else if content = 3 then bitAt 31 sel || e.source == bitsOf 7 0 sel
  else e.source == bitsOf 19 0 sel

/-- QUERY (R577): BUSY while the session's query runs, BAD_VALUE for a namespace or result ring that is none, NOT_READY where
the namespace is not mounted. -/
def query (i : Nat) (s : State) : State :=
  let c := Obj.arc.cmdStatus
  let n := s.bits (sessKey i Obj.arc.qNsid) 7 0
  let k := s.bits (sessKey i Obj.arc.qRing) 19 0
  let run := s.bits (sessKey i Obj.arc.qStatus) 1 0
  if run = 1 ∨ run = 2 then s.refuse c ArcCmd.query Oc.busy
  else if (s.archiveRec n).isNone || (match s.ringAlloc k with | some r => r.cls != 2 | none => true) then s.refuse c ArcCmd.query Oc.badValue
  else if !(s.ns n).mounted then s.refuse c ArcCmd.query Oc.notReady
  else
    (((s.accept c ArcCmd.query Oc.done).wr (sessKey i Obj.arc.qStatus) 1).wr (sessKey i Obj.arc.qEntries) 0).modArc fun u =>
      { u with queries := upsert i { nsid := n, ring := k, left := none } u.queries }
def execQuery (session : Fin 68) (s : State) : Host.Outcome State Fault Refusal := s.live (query session)

/-- Entries that Q_RING still takes beside the PUTs that wait for it (R577). -/
def State.queryRoom (s : State) (k : Nat) (r : RingAllocRec) : Nat :=
  let ahead := (s.net.vit.waiting.map fun o => if o.ring = k then (match o.op with | .put es => es.length | _ => 0) else 0).sum
  r.depth - (s.xRing k).entries.length - ahead

/-- Entries enter Q_RING as far as it has room; the query pauses on a full ring and is done when all are delivered. -/
def State.deliverQuery (i : Nat) (q : QueryX) (l : List ArcEntry) (s : State) : State :=
  match s.ringAlloc q.ring with
  | none => s
  | some r =>
    let room := s.queryRoom q.ring r
    let now := l.take room
    let size := r.entry * 8
    let cut := (now.filter fun e => decide (size < e.data.length)).length
    let es := now.map fun e => e.data.take size ++ List.replicate (size - e.data.length) 0
    let s := if es.isEmpty then s else s.submitOp q.ring .module_ (.put es)
    let st := sessKey i Obj.arc.qStatus
    let s := (s.wrBits st 31 16 (satAdd 65535 (s.bits st 31 16) cut)).count (sessKey i Obj.arc.qEntries) now.length
    let rest := l.drop room
    let s := s.wrBits st 1 0 (if rest.isEmpty then 3 else 2)
    s.modArc fun u => { u with queries := if rest.isEmpty then eraseKey i u.queries else upsert i { q with left := some rest } u.queries }

/-- The entries that answer a session's query, in time order, beside the blocks whose CRC failed in every copy (R577). -/
def State.queryMatches (s : State) (i : Nat) (q : QueryX) (bad : List (Nat × Nat)) : List ArcEntry :=
  let content := (s.archiveRec q.nsid).elim 0 ArchiveRec.content
  let from_ := (s.rd (sessKey i Obj.arc.qFrom)).toNat + 2 ^ 32 * (s.rd (sessKey i (Obj.arc.qFrom + 1))).toNat
  let to_ := (s.rd (sessKey i Obj.arc.qTo)).toNat + 2 ^ 32 * (s.rd (sessKey i (Obj.arc.qTo + 1))).toNat
  let sel := s.rd (sessKey i Obj.arc.qSelect)
  let l := (s.ns q.nsid).segs.reverse.flatMap fun g => g.entries.filter fun e =>
    !bad.contains (g.no, e.block) && decide (from_ ≤ e.time) && decide (e.time < to_) && selects content sel e
  l.mergeSort fun a b => decide (a.time ≤ b.time)

/-- QUERY_READ_DONE (R572, R577): the read of a running query completes; blocks whose CRC failed in every copy are skipped and
counted; every other entry that matches enters the ring in time order. -/
def queryReadDone (i : Nat) (bad : List (Nat × Nat)) (s : State) : State :=
  match s.arc.queries.find? (fun q => q.1 == i) with
  | none => s
  | some (_, q) =>
    match q.left with
    | some _ => s
    | none =>
      let skipped := (bad.eraseDups.filter fun b => (s.ns q.nsid).segs.any fun g => g.no == b.1 && decide (b.2 < g.blocks)).length
      (s.count (Obj.ns.crcSkips q.nsid) skipped).deliverQuery i q (s.queryMatches i q bad)
def execQueryReadDone (session : Fin 68) (bad : List (Nat × Nat)) (s : State) : Host.Outcome State Fault Refusal :=
  s.live (queryReadDone session bad)

/-- QUERY_RESUME (R577): the host has released entries of the full ring. -/
def queryResume (i : Nat) (s : State) : State :=
  match s.arc.queries.find? (fun q => q.1 == i) with
  | some (_, q) => (match q.left with | some l => s.deliverQuery i q l | none => s)
  | none => s
def execQueryResume (session : Fin 68) (s : State) : Host.Outcome State Fault Refusal := s.live (queryResume session)

/-- CANCEL_QUERY (R577). -/
def cancelQuery (i : Nat) (s : State) : State :=
  let s := s.accept Obj.arc.cmdStatus ArcCmd.cancel Oc.done
  if s.arc.queries.any fun q => q.1 == i then
    (s.wrBits (sessKey i Obj.arc.qStatus) 1 0 0).modArc fun u => { u with queries := eraseKey i u.queries }
  else s
def execCancelQuery (session : Fin 68) (s : State) : Host.Outcome State Fault Refusal := s.live (cancelQuery session)

/-- ARC_CLEAR_COUNTERS (R580). -/
def arcClearCounters (s : State) : State :=
  (State.clearAll (s.archiveRecs.map fun r => Obj.ns.crcSkips r.nsid) s).accept Obj.arc.cmdStatus ArcCmd.clear Oc.done
def execArcClearCounters (s : State) : Host.Outcome State Fault Refusal := s.live arcClearCounters

end Sys2Proof.Machine
end

