-- ==== Sys2Proof/Machine/Power.lean ====
section
/-!
DEFINITION. Supply inputs, hold-up bank, crossings and the module's own temperature (R306, R307, R636, R639 to R649).
Starting and losing supply themselves stand with the modes.
-/

namespace Sys2Proof.Machine

def State.modPwr (f : PwrUnit → PwrUnit) (s : State) : State := { s with pwr := f s.pwr }

/-! ### Supply inputs (R639, R640) -/

/-- Which input carries the load (R639): the present one; with both present the higher one, which no rule names, a free
value (log 1). -/
def State.showSource (s : State) : State :=
  let a := Obj.pwr.pwrStatus
  match s.bit a 0, s.bit a 1 with
  | true, true =>
    let (w, s) := s.fresh
    s.wrBits a 3 2 (if bitAt 0 w then 2 else 1)
  | p, q => s.wrBits a 3 2 (p.toNat + 2 * q.toNat)

/-- INPUT_ABSENT (R640): event 0x1F0, INPUT_LOSSES, the flag, and the presence bit that deducts health. -/
def inputAbsent (b : Bool) (v : BitVec 16) (s : State) : State :=
  let i := b.toNat
  let a := Obj.pwr.pwrStatus
  if s.bit a i then
    let c := Obj.pwr.inputLosses
    let lo := 16 * i
    let s := (s.wrBits c (lo + 15) lo (satAdd 65535 (s.bits c (lo + 15) lo) 1)).flag Obj.pwr.pwrFlags i
    let s := ((s.wrBit a i false).showSource)
    let s := s.modPwr fun p => if b then { p with absentB := some s.up } else { p with absentA := some s.up }
    s.raise 0x1F0 0 i v.toNat 0
  else s

def execInputAbsent (second : Bool) (voltage : BitVec 16) (s : State) : Host.Outcome State Fault Refusal :=
  s.live (inputAbsent second voltage)

/-- INPUT_PRESENT (R640): event 0x1F1 with the time absent. -/
def inputPresent (b : Bool) (s : State) : State :=
  let i := b.toNat
  if s.bit Obj.pwr.pwrStatus i then s
  else
    let t := (if b then s.pwr.absentB else s.pwr.absentA).getD s.up
    let s := (s.wrBit Obj.pwr.pwrStatus i true).showSource
    let s := s.modPwr fun p => if b then { p with absentB := none } else { p with absentA := none }
    s.raise 0x1F1 0 i (min 0xFFFFFFFF ((s.up - t) / 1000000)) 0

def execInputPresent (second : Bool) (s : State) : Host.Outcome State Fault Refusal := s.live (inputPresent second)

/-- INPUT_CURRENT_LIMIT (R640): event 0x1F4. -/
def inputCurrentLimit (b : Bool) (c : BitVec 16) (s : State) : State :=
  ((s.flag Obj.pwr.pwrStatus 4).flag Obj.pwr.pwrFlags 2).raise 0x1F4 0 b.toNat c.toNat 0

def execInputCurrentLimit (second : Bool) (current : BitVec 16) (s : State) : Host.Outcome State Fault Refusal :=
  s.live (inputCurrentLimit second current)

/-! ### Hold-up bank (R641) -/

abbrev PwrCmd.clear : Nat := 1
abbrev PwrCmd.measure : Nat := 2

/-- HOLDUP_MEASURE: the measurement every 24 h starts, unless one runs. -/
def holdupMeasure (s : State) : State :=
  if s.pwr.measuring.isSome then s else s.modPwr fun p => { p with measuring := some false }

def execHoldupMeasure (s : State) : Host.Outcome State Fault Refusal := s.live holdupMeasure

/-- MEASURE_HOLDUP (R641, R647): busy while one runs (log 40). -/
def measureHoldup (s : State) : State :=
  if s.pwr.measuring.isSome then s.refuse Obj.pwr.cmdStatus PwrCmd.measure Oc.busy
  else (s.modPwr fun p => { p with measuring := some true }).accept Obj.pwr.cmdStatus PwrCmd.measure Oc.inProgress

def execMeasureHoldup (s : State) : Host.Outcome State Fault Refusal := s.live measureHoldup

/-- Usable energy in mJ between 50 V and 20 V, from µF (R641, worked example). -/
def usableEnergy (cap : Nat) : Nat := cap * (50 * 50 - 20 * 20) / 2000

/-- HOLDUP_MEASURE_DONE (R641): energy, HOLDUP_OK, and event 0x1F3 below 4.7 J. -/
def holdupMeasureDone (cap : Nat) (s : State) : State :=
  match s.pwr.measuring with
  | none => s
  | some host =>
    let e := usableEnergy cap
    let s := s.modPwr fun p => { p with measuring := none }
    let s := (s.wrBits Obj.pwr.holdup 15 0 (min 65535 e)).wr Obj.pwr.holdupCap (w32 cap)
    let s := s.wrBit Obj.pwr.pwrStatus 6 (decide (4700 ≤ e))
    let s := if host && s.bits Obj.pwr.cmdStatus 7 0 == PwrCmd.measure then s.setOutcome Obj.pwr.cmdStatus Oc.done else s
    if e < 4700 then (s.flag Obj.pwr.pwrFlags 3).raise 0x1F3 0 e cap 0 else s

def execHoldupMeasureDone (capacitance : Fin 65536) (s : State) : Host.Outcome State Fault Refusal :=
  s.live (holdupMeasureDone capacitance)

/-- PWR_CLEAR_COUNTERS (R647): the counters of the space and the sensors' peaks. -/
def pwrClearCounters (s : State) : State :=
  (State.clearAll ([Obj.pwr.xingOverruns, Obj.pwr.brownouts, Obj.pwr.inputLosses] ++ (List.range 16).map Obj.sens.sensPeak) s).accept
    Obj.pwr.cmdStatus PwrCmd.clear Oc.done

def execPwrClearCounters (s : State) : Host.Outcome State Fault Refusal := s.live pwrClearCounters

/-! ### Thermal shutdown and crossings (R636, R644) -/

/-- Sensors with a shutdown limit of 125 °C (R643). -/
def shutdownSensor (i : Nat) : Bool := decide (i ≤ 4) || i == 13

/-- THERMAL_SHUTDOWN (R644): event 0x1FD, the count, and both supply paths opened; SUPPLY_LOST follows as its own
event. -/
def thermalShutdown (i : Nat) (t : BitVec 16) (s : State) : State :=
  if shutdownSensor i && decide (12500 ≤ t.toInt) then
    let c := Obj.pwr.brownouts
    let s := (s.wrBits c 31 16 (satAdd 65535 (s.bits c 31 16) 1)).flag Obj.pwr.pwrFlags 4
    (s.wrBits Obj.pwr.pwrStatus 3 0 0).raise 0x1FD i (bitsOfInt 32 t.toInt) 0 0
  else s

def execThermalShutdown (sensor : Fin 16) (temp : BitVec 16) (s : State) : Host.Outcome State Fault Refusal :=
  s.live (thermalShutdown sensor temp)

/-- Crossings that can overrun with a flag of XING_FLAGS (R635). -/
def xingCounts (id : Nat) : Bool := [4, 5, 6, 7].contains id

/-- XING_OVERRUN (R636): flag, count, and event 0x1F6 at most once a second per crossing; a frame lost at crossing 6 or
7 counts as a receive error of its port. -/
def xingOverrun (id port : Nat) (s : State) : State :=
  if xingCounts id then
    let s := (s.flag Obj.pwr.xingFlags (id - 1)).count Obj.pwr.xingOverruns 1
    let s := if 6 ≤ id then s.count (Obj.nport.rxErrors port) 1 else s
    let due := match s.pwr.xingAt.find? (fun x => x.1 == id) with
      | some (_, t) => decide (t + 1000000000 ≤ s.up)
      | none => true
    if due then
      (s.modPwr fun p => { p with xingAt := upsert id s.up p.xingAt }).raise 0x1F6 id (s.rd Obj.pwr.xingOverruns).toNat 0 0
    else s
  else s

def execXingOverrun (crossing : Fin 14) (port : Fin 11) (s : State) : Host.Outcome State Fault Refusal :=
  s.live (xingOverrun crossing port)

/-! ### The module's sensors (R306, R307, R643) -/

/-- The limits of a module sensor in the units of a THRESHOLDS record: 0.01 °C and 0.001 °C/s. -/
def modLimits (i : Nat) : ThreshRec :=
  let (wh, ah, wl, al) := sensorLimits i
  { string := 0, vWarnHi := 0, vAlarmHi := 0, vWarnLo := 0, vAlarmLo := 0, tWarnHi := wh * 100, tAlarmHi := ah * 100
    tWarnLo := wl * 100, tAlarmLo := al * 100, ror10 := 2000, ror60 := 500, grace := 0, iChgMax := 0, iDisMax := 0 }

/-- One side's change of level of a sensor: events 0x1F7, 0x1F8 and 0x1F9. -/
def State.modLevelChange (i : Nat) (low : Bool) (old new : Nat) (x : Sensor) (s : State) : State :=
  let k := 2 * i + low.toNat
  let since := lookupD s.up s.pwr.sensSince k
  let s := if old = 0 ∧ new ≠ 0 then s.modPwr fun p => { p with sensSince := upsert k s.up p.sensSince } else s
  if old < new then
    let s := s.flag (Obj.mthm.modFlags) 0
    if new = 1 then s.raise 0x1F7 i low.toNat (bitsOfInt 32 x.value) 0
    else
      let (c, v) := if low then (17, x.value) else x.alarmCause
      s.raise 0x1F8 i c (bitsOfInt 32 v) 0
  else if new = 0 ∧ old ≠ 0 then
    (s.modPwr fun p => { p with sensSince := eraseKey k p.sensSince }).raise 0x1F9 i low.toNat
      (min 0xFFFFFFFF ((s.up - since) / 1000000000)) 0
  else s

/-- SENS_VALUE, SENS_STATUS and SENS_PEAK of a sensor (R647, R648). -/
def State.showSensor (i : Nat) (x : Sensor) (s : State) : State :=
  let clamp (r : Option Int) : Nat := bitsOfInt 16 (clampInt (-32768) 32767 (r.getD 0))
  let v : Int := if x.broken ≠ 0 then 0x7FFF else x.value
  let s := s.wr (Obj.sens.sensValue i) (w32 (bitsOfInt 16 v * 65536 + clamp x.r10))
  let s := s.wr (Obj.sens.sensStatus i) (w32 (clamp x.r60 * 65536 + (x.broken != 0).toNat * 128 + (x.broken == 2).toNat * 64 +
    x.lowLevel * 16 + x.highLevel * 4))
  if x.broken ≠ 0 then s
  else
    let a := Obj.sens.sensPeak i
    let hi := max v (signedOf 16 (s.bits a 31 16))
    let lo := min v (signedOf 16 (s.bits a 15 0))
    s.wr a (w32 (bitsOfInt 16 hi * 65536 + bitsOfInt 16 lo))

/-- One reading of one sensor (R297 to R299): breaks, levels and their events. -/
def State.modSensor (i : Nat) (v : Int) (s : State) : State :=
  let old := sensorOf s.therm.modSensors i 0
  let (x, ev) := old.read s.up v
  let s := match ev with
    | some (0x0EB, kind, w) => (s.flag (Obj.mthm.modFlags) 2).raise 0x1FA i kind (bitsOfInt 32 w) 0
    | some (_, kind, w) => s.raise 0x1FB i kind (bitsOfInt 32 w) 0
    | none => s
  let others := s.therm.modSensors.any fun y => y.p != i && decide (10 ≤ y.swing s.up)
  let stuck := x.broken == 0 && x.flat s.up && others
  let s := if stuck then (s.flag (Obj.mthm.modFlags) 2).raise 0x1FA i 2 (bitsOfInt 32 x.lastValid) 0 else s
  let x := (if stuck then { x with broken := 2 } else x).judge (modLimits i) 300
  let s := s.modTherm fun u => { u with modSensors := putSensor x u.modSensors }
  let s := (s.modLevelChange i false old.highLevel x.highLevel x).modLevelChange i true old.lowLevel x.lowLevel x
  s.showSensor i x

/-- The module's level: the highest that any sensor holds (R643). -/
def State.modLevel (s : State) : Nat := maxLevel (s.therm.modSensors.map fun x => max x.highLevel x.lowLevel)

/-- LEVEL, REQUEST and the grace after a reading (R306). -/
def State.modLevelSettle (s : State) : State :=
  let a := Obj.mthm.modTherm
  let old := s.bits a 3 0
  let new := s.modLevel
  let s := (s.wrBits a 3 0 new).wrBit a 12 (new != 0)
  if new = 0 then (s.modTherm fun u => { u with modGrace := none, modEnforced := false }).wrBit a 13 false
  else if old = 0 then s.modTherm fun u => { u with modGrace := some s.up }
  else s

/-- MODULE_SENSOR_READ (R306): the 16 sensors every 10 ms. -/
def moduleSensorRead (l : List (BitVec 16)) (s : State) : State :=
  (s.each (l.take 16).zipIdx fun r u => u.modSensor r.2 r.1.toInt).modLevelSettle

def execModuleSensorRead (readings : List (BitVec 16)) (s : State) : Host.Outcome State Fault Refusal :=
  s.live (moduleSensorRead readings)

/-- MODULE_GRACE_EXPIRY (R306): stretching starts at the next boundary. -/
def moduleGraceExpiry (s : State) : State :=
  match s.therm.modGrace with
  | none => s
  | some _ => (s.modTherm fun u => { u with modGrace := none, modEnforced := true }).flag Obj.mthm.modTherm 13

def execModuleGraceExpiry (s : State) : Host.Outcome State Fault Refusal := s.live moduleGraceExpiry

/-- The module's own stretch code: 0 ×1, 1 ×2, 2 ×4 (R306). -/
def State.ownStretch (s : State) : Nat := if s.therm.modEnforced then s.modLevel else 0

/-- At a boundary both modules of a pair apply the larger stretch factor (R307), as the agreement before it carried it; event 0x1FC. -/
def State.applyStretch (s : State) : State :=
  let a := Obj.mthm.modTherm
  let old := s.bits a 11 8
  let paired := s.pairRole && ((s.sys.mode == .active && (match s.red.partner with | some b => bitsOf 3 0 b.mode == Mode.standby.code | none => false)) || s.lockstepStandby)
  let new := if paired then s.therm.partnerStretch else s.ownStretch
  let s := s.wrBits a 7 4 s.therm.partnerLevel
  if new = old then s
  else ((s.wrBits a 11 8 new).flag (Obj.mthm.modFlags) 1).raise 0x1FC 0 (2 ^ old) (2 ^ new) s.modLevel

end Sys2Proof.Machine
end

