-- ==== Sys2Proof/Machine/LoopLaw.lean ====
section
/-!
DEFINITION. The arithmetic of the loop engine: block floating point (R405, R406), the control law (R402 to R404), the
soft start (R407) and the relay auto-tune (R410, R411). Each stage is computed exactly and rounded once (log 41).
-/

namespace Sys2Proof.Machine

/-! ### Exact intermediates -/

/-- A fraction; the denominator is never 0. -/
structure Qn where
  n : Int
  d : Nat
  deriving DecidableEq, Repr

/-- m × 2^e. -/
def Qn.dyadic (m e : Int) : Qn := if 0 ≤ e then ⟨m * 2 ^ e.toNat, 1⟩ else ⟨m, 2 ^ (-e).toNat⟩
/-- A finite binary32 value; others read as 0. -/
def Qn.ofB32 (w : Word) : Qn := if B32.finite w then .dyadic (B32.signedMant w) (B32.pow w) else ⟨0, 1⟩
def Qn.ofBf (b : Bf) : Qn := .dyadic b.m b.e
def Qn.add (a b : Qn) : Qn := ⟨a.n * b.d + b.n * a.d, a.d * b.d⟩
def Qn.neg (a : Qn) : Qn := ⟨-a.n, a.d⟩
def Qn.sub (a b : Qn) : Qn := a.add b.neg
def Qn.mul (a b : Qn) : Qn := ⟨a.n * b.n, a.d * b.d⟩
/-- The quotient; 0 where the divisor is 0. -/
def Qn.div (a b : Qn) : Qn :=
  if b.n = 0 then ⟨0, 1⟩ else ⟨a.n * b.d * (if b.n < 0 then -1 else 1), a.d * b.n.natAbs⟩
def Qn.lt (a b : Qn) : Bool := decide (a.n * b.d < b.n * a.d)
def Qn.clamp (lo hi a : Qn) : Qn := if a.lt lo then lo else if hi.lt a then hi else a
def Qn.abs (a : Qn) : Qn := ⟨a.n.natAbs, a.d⟩

/-- The floor of the binary logarithm of a magnitude that is not 0. -/
def Qn.log2 (a : Qn) : Int :=
  let l : Int := (Nat.log2 a.n.natAbs : Int) - (Nat.log2 a.d : Int)
  let below := if 0 ≤ l then decide (a.n.natAbs < a.d * 2 ^ l.toNat) else decide (a.n.natAbs * 2 ^ (-l).toNat < a.d)
  if below then l - 1 else l

/-- The value in steps of 2^e, rounded to nearest even. -/
def Qn.steps (a : Qn) (e : Int) : Int :=
  let n := if 0 ≤ e then a.n.natAbs else a.n.natAbs * 2 ^ (-e).toNat
  let d := if 0 ≤ e then a.d * 2 ^ e.toNat else a.d
  let q := n / d
  let r := n % d
  let m : Nat := if d < 2 * r ∨ (2 * r = d ∧ q % 2 = 1) then q + 1 else q
  if a.n < 0 then -(m : Int) else m

/-- A value as binary32, for an item that reports it. -/
def Qn.toB32 (a : Qn) : Word := B32.ofRatio a.n a.d

/-! ### Stages (R405, R406) -/

/-- The values of a stage with their shared exponent, and whether the stage saturated. -/
def roundStage (l : List Qn) : List Bf × Bool :=
  let big := l.foldl (fun (m : Qn) a => if m.lt a.abs then a.abs else m) ⟨0, 1⟩
  if big.n = 0 then (l.map fun _ => Bf.zero, false)
  else
    let e := big.log2 - 22
    let e := if 2 ^ 23 ≤ big.steps e then e + 1 else e
    if 127 < e then
      (l.map fun a => if a.n = 0 then Bf.zero else if a.n < 0 then ⟨-(2 ^ 23 - 1), 127⟩ else ⟨2 ^ 23 - 1, 127⟩, true)
    else if e < -128 then (l.map fun _ => Bf.zero, false)
    else (l.map fun a => let m := a.steps e; if m = 0 then Bf.zero else ⟨m, e⟩, false)

/-- Two values of a stage. -/
def roundPair (a b : Qn) : Bf × Bf × Bool :=
  let r := roundStage [a, b]
  (r.1.getD 0 .zero, r.1.getD 1 .zero, r.2)

/-- A stage value as binary32. -/
def Bf.toB32 (b : Bf) : Word := B32.ofDyadic b.m b.e

/-! ### The control law (R402 to R404) -/

/-- Parameters of a slot, from its objects and its record. -/
structure LoopPar where
  direct : Bool
  dOnMeas : Bool
  kp : Word
  ti : Word
  td : Word
  outMin : Word
  outMax : Word
  ramp : Word
  deriving DecidableEq, Repr

/-- What one pass of the law leaves. -/
structure LawOut where
  i : Bf
  d : Bf
  x : Bf
  out : Word
  low : Bool
  high : Bool
  /-- The stages that saturated: 0 error, 1 proportional, 2 integral, 3 derivative, 4 output. -/
  sats : List Nat
  e : Qn
  deriving DecidableEq, Repr

/-- How the integral and the output are formed. -/
inductive LawMode where
  /-- AUTO; with `gains` the last committed output, held while new gains enter (R403). -/
  | auto (gains : Option Word)
  /-- MANUAL with MAN_OUT. -/
  | manual (out : Word)
  deriving DecidableEq, Repr

/-- MAN_OUT or a committed output as a number within the limits; an infinity stands at its limit. -/
def LoopPar.limited (p : LoopPar) (w : Word) : Qn :=
  let lo := Qn.ofB32 p.outMin
  let hi := Qn.ofB32 p.outMax
  if B32.isInf w then (if B32.neg w then lo else hi) else Qn.clamp lo hi (Qn.ofB32 w)

/-- The law of R402 with a measured value, an effective set-point and Δt in µs; `xPrev` as R402 and R404 set it. -/
def loopLaw (p : LoopPar) (c : LoopCore) (xPrev : Option Bf) (pv sp : Qn) (dt : Nat) (mode : LawMode) : LawOut :=
  let lo := Qn.ofB32 p.outMin
  let hi := Qn.ofB32 p.outMax
  let e := if p.direct then pv.sub sp else sp.sub pv
  let x := if p.dOnMeas then (if p.direct then pv else pv.neg) else e
  let (eB, xB, sat0) := roundPair e x
  let e := Qn.ofBf eB
  let x := Qn.ofBf xB
  let kp := Qn.ofB32 p.kp
  let ti := Qn.ofB32 p.ti
  let td := Qn.ofB32 p.td
  let dtQ : Qn := ⟨(dt : Int), 1000000⟩
  let pS := roundStage [kp.mul e]
  let pQ := Qn.ofBf (pS.1.getD 0 .zero)
  let dx := x.sub (Qn.ofBf (xPrev.getD xB))
  let tf := td.div ⟨8, 1⟩
  let dQ : Qn := if 0 < td.n then ((tf.mul (Qn.ofBf c.d)).add ((kp.mul td).mul dx)).div (tf.add dtQ) else ⟨0, 1⟩
  let (dB, _, sat3) := roundPair dQ dx
  let dQ := Qn.ofBf dB
  let iOld := Qn.ofBf c.i
  let (iQ, diQ) : Qn × Qn :=
    match mode with
    | .manual w => (((p.limited w).sub pQ).sub dQ, ⟨0, 1⟩)
    | .auto (some out) => (((Qn.ofB32 out).sub pQ).sub dQ, ⟨0, 1⟩)
    | .auto none =>
      if 0 < ti.n then
        let di := ((kp.mul dtQ).div ti).mul e
        let v := ((pQ.add iOld).add di).add dQ
        let di := if (hi.lt v && decide (0 < di.n)) || (v.lt lo && decide (di.n < 0)) then ⟨0, 1⟩ else di
        (Qn.clamp lo hi (iOld.add di), di)
      else (iOld, ⟨0, 1⟩)
  let (iB, _, sat2) := roundPair iQ diQ
  let raw : Qn := match mode with
    | .manual w => if B32.isInf w then p.limited w else Qn.ofB32 w
    | .auto (some out) => Qn.ofB32 out
    | .auto none => (pQ.add (Qn.ofBf iB)).add dQ
  let u := Qn.clamp lo hi raw
  let (_, uB, sat4) := roundPair raw u
  let out := if sat4 then u.toB32 else uB.toB32
  let sats := (if sat0 then [0] else []) ++ (if pS.2 then [1] else []) ++ (if sat2 then [2] else []) ++
    (if sat3 then [3] else []) ++ (if sat4 then [4] else [])
  { i := iB, d := dB, x := xB, out := out, low := raw.lt lo, high := hi.lt raw, sats := sats, e := e }

/-! ### Soft start (R407, R408) -/

/-- SP_EFF after a move towards a target by at most RAMP × Δt, and whether it has arrived. -/
def rampMove (ramp spEff target : Word) (dt : Nat) : Word × Bool :=
  let step := (Qn.ofB32 ramp).mul ⟨(dt : Int), 1000000⟩
  let a := Qn.ofB32 spEff
  if B32.isInf target then ((if B32.neg target then a.sub step else a.add step).toB32, false)
  else
    let t := Qn.ofB32 target
    let diff := t.sub a
    if step.lt diff.abs then ((if diff.n < 0 then a.sub step else a.add step).toB32, false) else (target, true)

/-! ### Relay auto-tune (R410, R411) -/

/-- Whether two values agree within 10 %, of the larger. -/
def within10 (a b : Qn) : Bool :=
  let big := if a.lt b then b else a
  !((big.lt ((a.sub b).abs.mul ⟨10, 1⟩)))

/-- π as binary32. -/
abbrev piB32 : Word := 0x40490FDB

/-- Ku of R411, or nothing where the root is of a value that is not positive. -/
def tuneKu (d h a : Word) : Option Word :=
  let r := B32.sub (B32.mul a a) (B32.mul h h)
  if B32.lt 0 r then some (B32.div (B32.mul (B32.ofInt 4) d) (B32.mul piB32 (B32.sqrt r))) else none

/-- The gains of R411 by RULE: KP, TI, TD. -/
def tuneGains (pid : Bool) (ku tu : Word) : List Word :=
  if pid then [B32.mul (B32.ofRatio 6 10) ku, B32.div tu (B32.ofInt 2), B32.div tu (B32.ofInt 8)]
  else [B32.mul (B32.ofRatio 45 100) ku, B32.div tu (B32.ofRatio 12 10), 0]

/-- What a tuning evaluation decides. -/
inductive TuneStep where
  | go (t : TuneX)
  | done (cycles : Nat) (ku tu : Word)
  | abort (cause cycles : Nat)
  deriving DecidableEq, Repr

/-- One tuning evaluation at a task time (R410 to R412). -/
def tuneStep (t : TuneX) (cfg d h limit : Word) (e : Qn) (pv : Word) (now : Nat) : TuneStep :=
  let hQ := Qn.ofB32 h
  let past := B32.finite limit && (Qn.ofB32 limit).lt e.abs
  if past then .abort 1 t.cycles.length
  else
    let up := hQ.lt e && t.relay != 1
    let down := e.lt hQ.neg && t.relay != 2
    let t := if up then { t with out := B32.add t.bias d } else if down then { t with out := B32.sub t.bias d } else t
    if up then
      let t' := { t with relay := 1, switchAt := now, cycleAt := some now, pvMax := pv, pvMin := pv }
      match t.cycleAt with
      | none => .go t'
      | some at_ =>
        if t.first = false then .go { t' with first := true }
        else
          let a := B32.div (B32.sub t.pvMax t.pvMin) (B32.ofInt 2)
          let cs := (now - at_, a) :: t.cycles
          let n := cs.length
          let need := bitsOf 31 24 cfg
          match cs with
          | (p1, a1) :: (p2, a2) :: _ =>
            if n < need then .go { t' with cycles := cs }
            else if within10 ⟨(p1 : Int), 1⟩ ⟨(p2 : Int), 1⟩ && within10 (Qn.ofB32 a1) (Qn.ofB32 a2) then
              let tu := (Qn.mk ((p1 + p2 : Nat) : Int) 2000000).toB32
              match tuneKu d h (B32.div (B32.add a1 a2) (B32.ofInt 2)) with
              | some ku => .done n ku tu
              | none => .abort 3 n
            else if 2 * need ≤ n then .abort 3 n
            else .go { t' with cycles := cs }
          | _ => .go { t' with cycles := cs }
    else
      let t := if down then { t with relay := 2, switchAt := now } else t
      .go { t with pvMax := B32.max32 t.pvMax pv, pvMin := B32.min32 t.pvMin pv }

end Sys2Proof.Machine
end

