-- ==== Sys2Proof/Machine/LoopRun.lean ====
section
/-!
DEFINITION. Loop slots: modes, evaluation, commit, commands and start-up (R396 to R420).
-/

namespace Sys2Proof.Machine

def State.loopX (s : State) (k : Nat) : LoopX := lookupD .initial s.loops.slots k
def State.setLoopX (k : Nat) (f : LoopX → LoopX) (s : State) : State :=
  { s with loops := { s.loops with slots := upsert k (f (s.loopX k)) s.loops.slots } }

def State.loopRecs (s : State) : List LoopRec := match s.catOf with | some c => c.loops | none => []
def State.loopRec (s : State) (k : Nat) : Option LoopRec := s.loopRecs.find? fun r => r.slot == k
/-- The slots of a dispatching task. -/
def State.slotsOf (s : State) (t : Nat) : List LoopRec := s.loopRecs.filter fun r => r.task == t
/-- The inner loop of an outer slot. -/
def State.innerOf (s : State) (k : Nat) : Option LoopRec := s.loopRecs.find? fun r => r.cascade == 1 && r.outer == k

/-! ### Modes (R402, R408) -/

abbrev Lm.off : Nat := 1
abbrev Lm.manual : Nat := 2
abbrev Lm.auto : Nat := 3
abbrev Lm.tune : Nat := 4
abbrev Lm.held : Nat := 5

/-- The dispatching task is halted, draining or suspended. -/
def State.loopTaskHeld (s : State) (r : LoopRec) : Bool :=
  match s.taskRec r.task with
  | some t => !s.releasable t || s.bit (Obj.task.taskStatus r.task) 13
  | none => true

/-- A slot in AUTO, its task released. -/
def State.loopAuto (s : State) (r : LoopRec) : Bool :=
  (s.loopX r.slot).base == Lm.auto && (s.loopX r.slot).core.tune.isNone && !s.loopTaskHeld r

/-- The mode of a slot (R402): an outer loop is held while its inner loop is not in AUTO. -/
def State.loopMode (s : State) (r : LoopRec) : Nat :=
  let x := s.loopX r.slot
  if x.base = Lm.off then Lm.off
  else if s.loopTaskHeld r then Lm.held
  else if r.cascade == 2 && !(match s.innerOf r.slot with | some q => s.loopAuto q | none => false) then Lm.held
  else if x.core.tune.isSome then Lm.tune
  else x.base

def State.shownMode (s : State) (k : Nat) : Nat := s.bits (Obj.loop.loopStatus k) 3 0

/-- TUNE of LOOP_STATUS (R419). -/
abbrev Tn.idle : Nat := 0
abbrev Tn.running : Nat := 1
abbrev Tn.proposed : Nat := 2
abbrev Tn.aborted : Nat := 3

/-- A tune ends without a proposal (R412): the slot starts in its former mode; event 0x159. -/
def State.abortTune (k cause : Nat) (s : State) : State :=
  match (s.loopX k).core.tune with
  | none => s
  | some t =>
    let s := s.setLoopX k fun x => { x with core := { x.core with tune := none, start := true }, gen := x.gen + 1 }
    let s := ((s.wrBits (Obj.loop.loopStatus k) 21 20 Tn.aborted).wrBits (Obj.loop.tuneCfg k) 15 8 cause).flag (Obj.loop.loopFlags k) 5
    s.raise 0x159 k cause t.cycles.length 0

/-- LOOP_STATUS after a change of the slot's mode, with event 0x150; entering AUTO starts the slot, and a held slot's
tune is aborted (R402, R412). -/
def State.showMode (k cause : Nat) (s : State) : State :=
  match s.loopRec k with
  | none => s
  | some r =>
    let new := s.loopMode r
    let s := if new = Lm.held then s.abortTune k (if s.loopTaskHeld r then 6 else 7) else s
    let old := s.shownMode k
    let a := Obj.loop.loopStatus k
    let s := s.wrBits a 19 18 r.cascade
    if old = new then s
    else
      let s := if new = Lm.auto ∧ old ≠ Lm.tune then
          s.setLoopX k fun x => { x with core := { x.core with start := true }, gen := x.gen + 1 } else s
      let s := (s.wrBits a 3 0 new).wrBit a 17 (s.bit a 17 && new == Lm.auto)
      if old = 0 then s else s.raise 0x150 k old new cause

/-- Every slot's mode, at a boundary and after a command that moves others with it. -/
def State.showModes (cause : Nat) (s : State) : State :=
  s.each (s.loopRecs.map LoopRec.slot) fun k s => s.showMode k cause

/-! ### Evaluation (R398 to R412) -/

def State.loopPar (s : State) (r : LoopRec) : LoopPar :=
  let k := r.slot
  { direct := !r.reverse, dOnMeas := r.dOnMeas, kp := s.rd (Obj.loop.kp k), ti := s.rd (Obj.loop.ti k),
    td := s.rd (Obj.loop.td k), outMin := r.outMin, outMax := r.outMax, ramp := s.rd (Obj.loop.ramp k) }

/-- PV of the dispatching job, or the cause for which it is invalid (R399, R404). -/
def loopPv (r : LoopRec) (x : LoopX) : Word × Nat :=
  if r.pvSrc ≠ 0 then
    match x.relPv with
    | none => (0, 1)
    | some w => if w = 0x80000000 then (0, 1) else (B32.ofInt (signedOf 32 w.toNat), 0)
  else
    match x.jobPv with
    | none => (0, 2)
    | some w => if B32.finite w then (w, 0) else (0, 3)

/-- The output a slot last committed or has staged in the present job. -/
def State.loopOut (s : State) (k : Nat) : Word :=
  match (s.loopX k).staged with
  | some y => y.out.getD (s.rd (Obj.loop.out k))
  | none => s.rd (Obj.loop.out k)

/-- The track value of a start, clamped (R402). -/
def State.trackValue (s : State) (r : LoopRec) : Qn :=
  let lo := Qn.ofB32 r.outMin
  let hi := Qn.ofB32 r.outMax
  let v : Qn :=
    if r.cascade = 2 then
      match s.innerOf r.slot with | some q => Qn.ofB32 (s.rd (Obj.loop.spEff q.slot)) | none => lo
    else if r.outDst ≠ 0 then ⟨signedOf 32 (s.rd r.outDst).toNat, 1⟩
    else if (s.loopX r.slot).everOut then Qn.ofB32 (s.rd (Obj.loop.out r.slot))
    else lo
  Qn.clamp lo hi v

/-- A finite word in place of one that is not a number. -/
def finiteOf (w : Word) : Word := if B32.finite w then w else w &&& 0xBF7FFFFF

/-- The set-point and what follows from it: SP_EFF, RAMPING and its start, the target, SP to be set, and events. -/
structure SetPoint where
  eff : Word
  ramping : Bool
  rampAt : Nat
  target : Word
  cascade : Bool
  spSet : Option Word
  events : List (Nat × Nat × Nat × Nat)
  deriving DecidableEq, Repr

/-- SP_EFF in AUTO (R407, R408). `sp` is SP as the dispatching job sees it, `outer` an outer loop's output in force. -/
def setPoint (c : LoopCore) (start : Bool) (sp : Word) (outer : Option Word) (ramp pv : Word) (t dt : Nat) : SetPoint :=
  let unset := outer.isNone && B32.isNan sp
  let target := match outer with | some o => o | none => if unset then pv else sp
  let spSet := if unset then some pv else none
  let begins (from_ : Word) : SetPoint :=
    if from_ = target then ⟨from_, false, t, target, outer.isSome, spSet, []⟩
    else ⟨from_, true, t, target, false, spSet, [(0x151, from_.toNat, target.toNat, ramp.toNat)]⟩
  if start then begins pv
  else if outer.isSome then ⟨target, false, t, target, true, none, []⟩
  else
    let changed := target != c.lastSp
    if changed && !c.ramping && !c.cascade then begins pv
    else if c.ramping || (c.cascade && target != c.spEff) then
      let (e, done) := rampMove ramp c.spEff target dt
      let at_ := if c.ramping then c.rampAt else t
      let ev := (if c.ramping then [] else [(0x151, c.spEff.toNat, target.toNat, ramp.toNat)]) ++
        (if done then [(0x152, min 0xFFFFFFFF ((t - at_) / 1000), 0, 0)] else [])
      ⟨e, !done, at_, target, false, spSet, ev⟩
    else ⟨c.spEff, false, t, target, false, spSet, []⟩

/-- Events of an evaluation: entry into a clamp (R420) and saturated stages (R406). -/
def lawEvents (c : LoopCore) (o : LawOut) : List (Nat × Nat × Nat × Nat) :=
  (if o.low && !c.satLow then [(0x153, 0, o.out.toNat, 0)] else []) ++
  (if o.high && !c.satHigh then [(0x153, 1, o.out.toNat, 0)] else []) ++ o.sats.map fun k => (0x154, k, 0, 0)

/-- An evaluation in AUTO or MANUAL (R402 to R404, R407). -/
def State.evalLaw (s : State) (r : LoopRec) (x : LoopX) (c : LoopCore) (manual : Bool) (pv sp manOut : Word) (outer : Option Word)
    (t dt : Nat) : LoopStaged :=
  let par := s.loopPar r
  let pvQ := Qn.ofB32 pv
  let restored : List (Nat × Nat × Nat × Nat) := if c.pvBad then [(0x156, min 0xFFFFFFFF ((t - c.badAt) / 1000), 0, 0)] else []
  let start := c.start && !manual
  let xPrev := if c.pvBad || start then none else some c.xPrev
  let c0 : LoopCore := if start then { c with i := (roundStage [s.trackValue r]).1.getD 0 .zero, d := .zero } else c
  let q : SetPoint := if manual then ⟨pv, false, t, sp, false, none, []⟩ else setPoint c start sp outer par.ramp pv t dt
  let mode : LawMode :=
    if manual then .manual manOut
    else if start = false ∧ 0 < x.gainsDue then .auto (some (s.rd (Obj.loop.out r.slot)))
    else .auto none
  let o := loopLaw par c0 xPrev pvQ (Qn.ofB32 q.eff) dt mode
  { core := { c with
      i := o.i, d := o.d, xPrev := o.x, spEff := q.eff, ramping := q.ramping, rampAt := q.rampAt, lastSp := q.target
      pvBad := false, satLow := o.low, satHigh := o.high, stageSat := !o.sats.isEmpty, cascade := q.cascade
      start := c.start && manual, lastEval := some t, tune := none }
    gen := x.gen, usedGains := x.gainsDue, out := some o.out, pv := pv, spSet := q.spSet, dt := dt
    events := restored ++ q.events ++ lawEvents c o, release := t, tuneEnd := none, cycles := 0 }

/-- An evaluation in TUNE (R410 to R412). -/
def State.evalTune (s : State) (r : LoopRec) (x : LoopX) (u : TuneX) (pv sp manOut : Word) (outer : Option Word) (t dt : Nat) :
    LoopStaged :=
  let k := r.slot
  let c := x.core
  let par := s.loopPar r
  let pvQ := Qn.ofB32 pv
  let spQ := Qn.ofB32 c.spEff
  let e := if par.direct then pvQ.sub spQ else spQ.sub pvQ
  let xq := if par.dOnMeas then (if par.direct then pvQ else pvQ.neg) else e
  let (eB, xB, sat) := roundPair e xq
  let cfg := s.rd (Obj.loop.tuneCfg k)
  let back (end_ : Nat × List Word) (n : Nat) : LoopStaged :=
    let y := s.evalLaw r x { c with tune := none, start := true } (u.former == Lm.manual) pv sp manOut outer t dt
    { y with tuneEnd := some end_, cycles := n }
  match tuneStep u cfg (s.rd (Obj.loop.tuneD k)) (s.rd (Obj.loop.tuneH k)) (s.rd (Obj.loop.tuneLimit k)) (Qn.ofBf eB) pv t with
  | .abort cause n => back (cause, []) n
  | .done n ku tu => back (0, tuneGains (bitAt 0 cfg) ku tu ++ [ku, tu]) n
  | .go u' =>
    let uS := roundStage [Qn.ofB32 u'.out]
    { core := { c with xPrev := xB, pvBad := false, stageSat := sat || uS.2, lastEval := some t, tune := some u' }
      gen := x.gen, usedGains := 0, out := some ((uS.1.getD 0 .zero).toB32), pv := pv, spSet := none, dt := dt
      events := if sat then [(0x154, 0, 0, 0)] else [], release := t, tuneEnd := none, cycles := u'.cycles.length }

/-- The staged result while PV is invalid (R404, R412): nothing is evaluated. -/
def evalBad (x : LoopX) (cause t : Nat) : LoopStaged :=
  let c := x.core
  { core := { c with pvBad := true, badAt := if c.pvBad then c.badAt else t, tune := none, start := c.start || c.tune.isSome }
    gen := x.gen, usedGains := 0, out := none, pv := 0, spSet := none, dt := 0
    events := if c.pvBad then [] else [(0x155, cause, 0, 0)], release := t
    tuneEnd := if c.tune.isSome then some (5, []) else none
    cycles := match c.tune with | some u => u.cycles.length | none => 0 }

/-- Evaluates one slot for the job of its task released at `t`, if it is due and not staged (R398). -/
def State.stageSlot (r : LoopRec) (sp manOut : Option Word) (t : Nat) (s : State) : State :=
  let k := r.slot
  let x := s.loopX k
  let mode := s.loopMode r
  if x.due.isNone || x.staged.isSome || mode == Lm.off || mode == Lm.held then s
  else
    let (pv, cause) := loopPv r x
    if cause ≠ 0 then s.setLoopX k fun y => { y with staged := some (evalBad x cause t) }
    else
      let sp := sp.getD (s.rd (Obj.loop.sp k))
      let m := manOut.getD (s.rd (Obj.loop.manOut k))
      let (m, s) := if B32.isNan m then (let (w, s) := s.fresh; (finiteOf w, s)) else (m, s)
      let (dt, s) := match x.core.lastEval with
        | some t0 => (t - t0, s)
        | none => let (w, s) := s.fresh; (w.toNat, s)
      let outer : Option Word :=
        if r.cascade = 1 then
          match s.loopRec r.outer with
          | some q => let n := s.loopMode q; if n = Lm.auto ∨ n = Lm.tune then some (s.loopOut q.slot) else none
          | none => none
        else none
      let y := match x.core.tune with
        | some u => s.evalTune r x u pv sp m outer t dt
        | none => s.evalLaw r x x.core (mode == Lm.manual) pv sp m outer t dt
      let s := s.setLoopX k fun z => { z with staged := some y }
      s.wr Obj.eng.queuePeak (w32 (max 1 (s.rd Obj.eng.queuePeak).toNat))

/-- Evaluates a slot, its outer loop first where that is due (R409). -/
def State.evalSlot (k : Nat) (sp manOut : Option Word) (t : Nat) (s : State) : State :=
  match s.loopRec k with
  | none => s
  | some r =>
    let s := if r.cascade = 1 then
        match s.loopRec r.outer with
        | some q => s.stageSlot q none none t
        | none => s
      else s
    s.stageSlot r sp manOut t

/-- The job of a slot's dispatching task, while it runs. -/
def State.loopJob (s : State) (r : LoopRec) : Option Job :=
  match (s.taskX r.task).job with
  | some j => if j.finished then none else some j
  | none => none

/-- LOOP_EVAL (R398): a due slot is evaluated once in a job; the call returns what is staged. `sp` is the set-point
that the job itself has staged, if it has. -/
def loopEval (k : Nat) (sp : Option Word) (s : State) : State :=
  match s.loopRec k with
  | none => s
  | some r =>
    match s.loopJob r with
    | none => s
    | some j =>
      let s := s.evalSlot k sp none j.release
      s.setLoopX k fun x => { x with result := s.loopOut k }

def execLoopEval (slot : Fin 512) (sp : Option (BitVec 32)) (s : State) : Host.Outcome State Fault Refusal := s.live (loopEval slot sp)

/-- LOOP_PV (R399): the measured value of the present job. -/
def loopPvCall (k : Nat) (w : Word) (s : State) : State :=
  match s.loopRec k with
  | none => s
  | some r => if (s.loopJob r).isSome then s.setLoopX k fun x => { x with jobPv := some w } else s

def execLoopPv (slot : Fin 512) (value : BitVec 32) (s : State) : Host.Outcome State Fault Refusal := s.live (loopPvCall slot value)

/-- LOOP_RESULT (R398): the staged output of the present job's evaluation, or the last committed output. -/
def loopResult (k : Nat) (s : State) : State :=
  match s.loopRec k with
  | none => s
  | some r => if (s.loopJob r).isSome then s.setLoopX k fun x => { x with result := s.loopOut k } else s

def execLoopResult (slot : Fin 512) (s : State) : Host.Outcome State Fault Refusal := s.live (loopResult slot)

/-! ### Release and commit (R397, R400, R414, R415) -/

/-- A due multiple without a committed evaluation (R397): event 0x15B. -/
def State.loopMissed (k cause multiple : Nat) (s : State) : State :=
  ((s.count (Obj.loop.missed k) 1).flag (Obj.loop.loopFlags k) 0).raise 0x15B k cause (multiple / 1000 % 2 ^ 32) 0

/-- The multiples from `a` up to but without `b`, at most `fuel` of them. -/
def multiples (period b : Nat) : Nat → Nat → List Nat
  | 0, _ => []
  | k + 1, a => if a < b then a :: multiples period b k (a + period) else []

/-- A release of the dispatching task at `t` (R397, R399): its slots become due, and PV_SRC is taken as committed. -/
def State.loopRelease (task t : Nat) (s : State) : State :=
  s.each (s.slotsOf task) fun r s =>
    let k := r.slot
    let x := s.loopX k
    let last := t / (max 1 r.period) * r.period
    let mode := s.loopMode r
    if mode = Lm.off ∨ mode = Lm.held then
      s.setLoopX k fun y => { y with nextDue := none, due := none, staged := none, jobPv := none, relPv := none }
    else
      let due : Option Nat := match x.nextDue with
        | none => if last = t then some t else none
        | some d => if d ≤ t then some last else none
      let missed := match x.nextDue, due with
        | some d, some m => multiples r.period m 1000 d
        | _, _ => []
      let s := s.each missed fun m s => s.loopMissed k (s.taskX task).missCause m
      let next := match x.nextDue, due with
        | some d, none => d
        | _, _ => last + r.period
      let (pv, s) : Option Word × State :=
        if r.pvSrc ≠ 0 then match s.peek 0 r.pvSrc with | some (w, s) => (some w, s) | none => (none, s) else (none, s)
      s.setLoopX k fun y => { y with nextDue := some next, due := due, staged := none, jobPv := none, relPv := pv }

/-- The job ended without a commit (R415): nothing of its loops commits, and due multiples count. `again` keeps them due
for the job's second execution (R414). -/
def State.loopDrop (task cause : Nat) (again : Bool) (s : State) : State :=
  s.each (s.slotsOf task) fun r s =>
    let k := r.slot
    let x := s.loopX k
    let s := if cause = 0 ∨ again = true then s else match x.due with | some m => s.loopMissed k cause m | none => s
    s.setLoopX k fun y =>
      { y with staged := none, jobPv := if again then none else y.jobPv, due := if again then y.due else none }

/-- A squash of the dispatching job squashes its loop jobs (R414): event 0x0A7 with job class 3. -/
def State.loopSquash (task str no : Nat) (s : State) : State :=
  s.each (s.slotsOf task) fun r s =>
    if (s.loopX r.slot).staged.isSome then
      (((s.count (Obj.loop.squashes r.slot) 1).flag (Obj.loop.loopFlags r.slot) 1).flag Obj.eng.engineFlags 0).raise 0x0A7 str 3 no r.slot
    else s

/-- An output as an integer: nearest, halves away from zero; a free value where it exceeds 32 bits (log 1, R400). -/
def State.outInteger (w : Word) (s : State) : Word × State :=
  let q := Qn.ofB32 w
  let m : Int := ((2 * q.n.natAbs + q.d) / (2 * q.d) : Nat)
  let v := if q.n < 0 then -m else m
  if -2147483648 ≤ v ∧ v ≤ 2147483647 then (w32 (bitsOfInt 32 v), s) else s.fresh

/-- A proposal or an abort that the evaluation decided (R411, R412). -/
def State.loopTuneEnd (k : Nat) (y : LoopStaged) (s : State) : State :=
  let a := Obj.loop.loopStatus k
  match y.tuneEnd with
  | none => s
  | some (0, l) =>
    let s := (s.wrBits a 21 20 Tn.proposed).wrList (Obj.loop.propKp k) (l.take 3)
    let s := (s.wr (Obj.loop.tuneKu k) (l.getD 3 0)).wr (Obj.loop.tuneTu k) (l.getD 4 0)
    s.raise 0x158 k (l.getD 3 0).toNat (l.getD 4 0).toNat y.cycles
  | some (cause, _) =>
    let s := ((s.wrBits a 21 20 Tn.aborted).wrBits (Obj.loop.tuneCfg k) 15 8 cause).flag (Obj.loop.loopFlags k) 5
    s.raise 0x159 k cause y.cycles 0

/-- A slot's staged evaluation commits with its dispatching job (R400). The write to OUT_DST is the caller's: the answer
names its address and value. -/
def State.loopCommit (r : LoopRec) (s : State) : Option (Nat × Word) × State :=
  let k := r.slot
  let x := s.loopX k
  match x.staged with
  | none => (none, s.setLoopX k fun z => { z with due := none })
  | some y =>
    let same := y.gen == x.gen
    let core : LoopCore :=
      { y.core with
        start := if same then y.core.start else x.core.start
        tune := if same then y.core.tune else x.core.tune }
    let s := s.setLoopX k fun z =>
      { z with core := core, staged := none, due := none, gainsDue := z.gainsDue - y.usedGains, everOut := z.everOut || y.out.isSome }
    let a := Obj.loop.loopStatus k
    let f := Obj.loop.loopFlags k
    let s := ((((s.wrBit a 17 core.cascade).wrBit a 16 core.stageSat).wrBit a 15 core.pvBad).wrBit a 14 core.ramping)
    let s := (s.wrBit a 13 core.satHigh).wrBit a 12 core.satLow
    let s := match y.out with
      | none => s
      | some o =>
        let s := ((s.wr (Obj.loop.out k) o).wr (Obj.loop.pv k) y.pv).wr (Obj.loop.spEff k) core.spEff
        let s := (s.wr (Obj.loop.integral k) core.i.toB32).wr (Obj.loop.lastDt k) (w32 (min 0xFFFFFFFF y.dt))
        (s.count (Obj.loop.evals k) 1).count Obj.eng.evals 1
    let s := match y.spSet with | some w => s.wr (Obj.loop.sp k) w | none => s
    let s := if core.pvBad then s.flag f 3 else s
    let s := if core.satLow || core.satHigh then s.flag f 2 else s
    let s := if core.stageSat then (s.flag f 4).flag Obj.eng.engineFlags 1 else s
    let s := s.count (Obj.loop.saturations k) (y.events.filter fun e => e.1 == 0x153).length
    let s := s.each y.events fun e s => s.raise e.1 k e.2.1 e.2.2.1 e.2.2.2
    let s := if core.tune.isSome then s.wrBits a 31 24 (min 255 y.cycles) else s
    let s := if same then
        (let s := if y.tuneEnd.isSome then s.wrBits a 31 24 (min 255 y.cycles) else s
         (s.loopTuneEnd k y).showMode k 5)
      else s
    match y.out with
    | none => (none, s)
    | some o =>
      let s := s.trigger 4 k
      if r.outDst ≠ 0 then
        let (w, s) := s.outInteger o
        (some (r.outDst, w), s)
      else (none, s)

/-! ### Commands (R402, R403, R410 to R413, R418) -/

abbrev LoopCmd.auto : Nat := 1
abbrev LoopCmd.manual : Nat := 2
abbrev LoopCmd.off : Nat := 3
abbrev LoopCmd.tune : Nat := 4
abbrev LoopCmd.accept : Nat := 5
abbrev LoopCmd.reject : Nat := 6
abbrev LoopCmd.clear : Nat := 7

/-- LOOP_CMD AUTO, MANUAL and OFF (R402): a running tune is aborted with cause 4. -/
def loopSetMode (code base k : Nat) (s : State) : State :=
  if (s.loopRec k).isSome then
    let s := (s.accept (Obj.loop.cmdStatus k) code Oc.done).abortTune k 4
    let s := s.setLoopX k fun x => { x with base := base, gen := if x.base = base then x.gen else x.gen + 1 }
    (s.showMode k 1).showModes 3
  else s

def loopAuto (k : Nat) (s : State) : State := loopSetMode LoopCmd.auto Lm.auto k s
def loopManual (k : Nat) (s : State) : State := loopSetMode LoopCmd.manual Lm.manual k s
def loopOff (k : Nat) (s : State) : State := loopSetMode LoopCmd.off Lm.off k s

def execLoopAuto (slot : Fin 512) (s : State) : Host.Outcome State Fault Refusal := s.live (loopAuto slot)
def execLoopManual (slot : Fin 512) (s : State) : Host.Outcome State Fault Refusal := s.live (loopManual slot)
def execLoopOff (slot : Fin 512) (s : State) : Host.Outcome State Fault Refusal := s.live (loopOff slot)

/-- LOOP_TUNE (R410): bias is the last committed OUT; event 0x157. -/
def loopTune (k : Nat) (s : State) : State :=
  match s.loopRec k with
  | none => s
  | some r =>
    let st := Obj.loop.cmdStatus k
    let mode := s.loopMode r
    let bias := s.rd (Obj.loop.out k)
    let d := s.rd (Obj.loop.tuneD k)
    let outerBusy := r.cascade == 1 && (match s.loopRec r.outer with
      | some q => s.loopMode q == Lm.auto || s.loopMode q == Lm.tune
      | none => false)
    if mode = Lm.tune then s.refuse st LoopCmd.tune Oc.busy
    else if (mode ≠ Lm.auto ∧ mode ≠ Lm.manual) ∨ outerBusy = true then s.refuse st LoopCmd.tune Oc.notReady
    else if B32.lt r.outMax (B32.add bias d) || B32.lt (B32.sub bias d) r.outMin then s.refuse st LoopCmd.tune Oc.badValue
    else
      let t : TuneX := { bias := bias, out := bias, relay := 0, cycleAt := none, switchAt := s.taskTime, pvMax := bias, pvMin := bias,
                         cycles := [], first := false, former := mode }
      let s := s.setLoopX k fun x => { x with core := { x.core with tune := some t, ramping := false }, gen := x.gen + 1 }
      let a := Obj.loop.loopStatus k
      let s := ((s.wrBits a 21 20 Tn.running).wrBits a 31 24 0).wrList (Obj.loop.propKp k) [0, 0, 0]
      let s := (s.accept st LoopCmd.tune Oc.done).raise 0x157 k bias.toNat d.toNat (s.rd (Obj.loop.tuneH k)).toNat
      (s.showMode k 1).showModes 3

def execLoopTune (slot : Fin 512) (s : State) : Host.Outcome State Fault Refusal := s.live (loopTune slot)

/-- Gains have changed (R403): event 0x15A. -/
def State.gainsChanged (k cause : Nat) (s : State) : State :=
  (s.setLoopX k fun x => { x with gainsDue := x.gainsDue + 1 }).raise 0x15A k cause (s.rd (Obj.loop.kp k)).toNat (s.rd (Obj.loop.ti k)).toNat

/-- LOOP_ACCEPT (R413). -/
def loopAccept (k : Nat) (s : State) : State :=
  if (s.loopRec k).isNone then s
  else
    let a := Obj.loop.loopStatus k
    if s.bits a 21 20 ≠ Tn.proposed then s.refuse (Obj.loop.cmdStatus k) LoopCmd.accept Oc.notReady
    else
      let s := (s.wrList (Obj.loop.kp k) (s.rdList (Obj.loop.propKp k) 3)).wrBits a 21 20 Tn.idle
      (s.accept (Obj.loop.cmdStatus k) LoopCmd.accept Oc.done).gainsChanged k 1

def execLoopAccept (slot : Fin 512) (s : State) : Host.Outcome State Fault Refusal := s.live (loopAccept slot)

/-- LOOP_REJECT (R413): the proposal is discarded. -/
def loopReject (k : Nat) (s : State) : State :=
  if (s.loopRec k).isNone then s
  else
    let a := Obj.loop.loopStatus k
    if s.bits a 21 20 ≠ Tn.proposed then s.refuse (Obj.loop.cmdStatus k) LoopCmd.reject Oc.notReady
    else ((s.wrList (Obj.loop.propKp k) [0, 0, 0]).wrBits a 21 20 Tn.idle).accept (Obj.loop.cmdStatus k) LoopCmd.reject Oc.done

def execLoopReject (slot : Fin 512) (s : State) : Host.Outcome State Fault Refusal := s.live (loopReject slot)

/-- LOOP_CLEAR_COUNTERS (R418). -/
def loopClearCounters (k : Nat) (s : State) : State :=
  if (s.loopRec k).isNone then s
  else (State.clearAll [Obj.loop.evals k, Obj.loop.missed k, Obj.loop.squashes k, Obj.loop.saturations k] s).accept
    (Obj.loop.cmdStatus k) LoopCmd.clear Oc.done

def execLoopClearCounters (slot : Fin 512) (s : State) : Host.Outcome State Fault Refusal := s.live (loopClearCounters slot)

/-- ENGINE_CLEAR_COUNTERS (R418). -/
def engineClearCounters (s : State) : State :=
  (State.clearAll [Obj.eng.evals, Obj.eng.queuePeak] s).accept Obj.eng.cmdStatus 1 Oc.done

def execEngineClearCounters (s : State) : Host.Outcome State Fault Refusal := s.live engineClearCounters

/-- Whether a write of KP (0), TI (1) or TD (2) is accepted: BUSY in TUNE, BAD_VALUE outside R403's range. -/
def gainOk (item : Nat) (w : Word) : Bool := B32.finite w && (item == 0 || B32.isZero w || !B32.neg w)

/-- GAINS_CHANGED (R403): a write of KP, TI or TD, in effect at the next evaluation. -/
def loopGains (k item : Nat) (w : Word) (s : State) : State :=
  if (s.loopRec k).isSome && (s.loopX k).core.tune.isNone && gainOk item w then (s.wr (Obj.loop.kp k + item) w).gainsChanged k 2
  else s

def execGainsChanged (slot : Fin 512) (item : Fin 3) (value : BitVec 32) (s : State) : Host.Outcome State Fault Refusal :=
  s.live (loopGains slot item value)

/-- SP_WRITE (R407, R415): the next evaluation sees the change; in TUNE it is stored. -/
def spWrite (k : Nat) (w : Word) (s : State) : State := if (s.loopRec k).isSome then s.wr (Obj.loop.sp k) w else s

def execSpWrite (slot : Fin 512) (value : BitVec 32) (s : State) : Host.Outcome State Fault Refusal := s.live (spWrite slot value)

/-- TUNE_TIMEOUT (R412, cause 2): no switch of the relay for TMAX. -/
def tuneTimeout (k : Nat) (s : State) : State := ((s.abortTune k 2).showMode k 5).showModes 3

def execTuneTimeout (slot : Fin 512) (s : State) : Host.Outcome State Fault Refusal := s.live (tuneTimeout slot)

/-! ### Start-up and Catalogue change (R417) -/

/-- A slot's configuration defaults (R417). -/
def State.loopDefaults (r : LoopRec) (s : State) : State :=
  let k := r.slot
  let s := ((s.wr (Obj.loop.sp k) 0x7FC00000).wr (Obj.loop.manOut k) 0).wrList (Obj.loop.kp k) [r.kp, r.ti, r.td, r.ramp]
  let s := (s.wr (Obj.loop.tuneCfg k) 0x04780000).wr (Obj.loop.tuneD k) (B32.div (B32.sub r.outMax r.outMin) (B32.ofInt 10))
  let s := ((s.wr (Obj.loop.tuneH k) 0).wr (Obj.loop.tuneLimit k) 0x7F800000).wrList (Obj.loop.propKp k) [0, 0, 0]
  let s := s.wrBits (Obj.loop.loopStatus k) 21 20 Tn.idle
  s.setLoopX k fun _ => { LoopX.initial with base := Lm.auto }

/-- Catalogue activation (R417): slots whose record changed take their defaults, with event 0x15A cause 3. -/
def State.loopConfigure (old : List LoopRec) (s : State) : State :=
  s.each s.loopRecs fun r s =>
    if old.contains r then s
    else (s.loopDefaults r).raise 0x15A r.slot 3 r.kp.toNat r.ti.toNat

/-- Loops at a start: every slot starts at its first evaluation; a cold start or power-up clears tuning, counters and
flags, a warm one aborts a running tune with cause 6. -/
def State.loopStart (cold : Bool) (s : State) : State :=
  s.each s.loopRecs fun r s =>
    let k := r.slot
    let s := if cold then s else s.abortTune k 6
    let s := s.setLoopX k fun x =>
      { x with core := { LoopCore.initial with lastEval := if cold then none else x.core.lastEval }, staged := none, due := none
               relPv := none, jobPv := none, nextDue := none, gen := x.gen + 1, everOut := x.everOut && !cold }
    if cold then
      let s := State.clearAll ([Obj.loop.loopFlags k, Obj.loop.spEff k, Obj.loop.pv k, Obj.loop.out k, Obj.loop.integral k, Obj.loop.tuneKu k,
        Obj.loop.tuneTu k, Obj.loop.evals k, Obj.loop.missed k, Obj.loop.squashes k, Obj.loop.saturations k, Obj.loop.lastDt k] ++
        (List.range 3).map fun i => Obj.loop.propKp k + i) s
      s.wrBits (Obj.loop.loopStatus k) 31 12 0
    else s

end Sys2Proof.Machine
end

