-- ==== Sys2Proof/Machine/Sched.lean ====
section
/-!
DEFINITION. Task execution: releases, commits, overruns, squashes, faults, retained data and the variable window (R359
to R395).
-/

namespace Sys2Proof.Machine

/-! ### Shown state (R391, R393) -/

/-- PLANT of SCHED_STATUS (R391). -/
def State.plantState (s : State) : Nat :=
  if !s.sched.loaded then 3 else if s.sched.draining then 2 else if s.sys.mode.running then 1 else 0

/-- SCHED_STATUS as it stands. -/
def State.showSched (s : State) : State :=
  let a := Obj.sched.schedStatus
  let ts := s.tasks
  let sus := (ts.filter fun r => s.bit (Obj.task.taskStatus r.task) 13).length
  let s := ((s.wrBits a 29 23 ts.length).wrBits a 22 16 sus).wrBits a 1 0 s.plantState
  let s := (s.wrBit a 7 s.sched.resync)
  s.each (ts.map TaskRec.task) State.showTask

/-! ### Ends of jobs -/

/-- A job leaves its task without a commit; its loops' due multiples count where a cause is given. -/
def State.dropJob (t cause : Nat) (s : State) : State :=
  (s.setTaskX t fun x => { x with job := none, missCause := if cause = 0 then x.missCause else cause }).loopDrop t cause false

/-- Counts a skipped release (R374, R376): event 0x142. -/
def State.skipRelease (t cause : Nat) (s : State) : State :=
  (((s.count (Obj.task.skips t) 1).flag (Obj.task.taskFlags t) 1).flag Obj.sched.schedFlags 1).raise 0x142 t cause 0 0

/-- Counts an abort (R375, R377, R383): event 0x141; the execution time of a job that has not finished is a free value
(log 1). -/
def State.abortJob (t cause : Nat) (s : State) : State :=
  let (w, s) : Word × State := match (s.taskX t).job with
    | some j => if j.finished then (w32 j.exec, s) else s.fresh
    | none => (0, s)
  let s := (s.count (Obj.task.aborts t) 1).flag (Obj.task.taskFlags t) 2
  (s.raise 0x141 t cause w.toNat 0).dropJob t 2

/-- A job's fault (R377): counted, recorded, and after three in a row the task is suspended. -/
def State.faultJob (t code offset cause : Nat) (s : State) : State :=
  let n := (s.taskX t).faultRun + 1
  let s := s.setTaskX t fun x => { x with faultRun := n }
  let s := ((s.count (Obj.task.faults t) 1).flag (Obj.task.taskFlags t) 3).flag Obj.sched.schedFlags 6
  let s := (s.wr (Obj.task.faultLast t) (w32 (offset * 256 + code))).raise 0x145 t code offset n
  let s := s.abortJob t cause
  let s := if n < 3 then s
    else
      let s := (s.setTaskX t fun x => { x with suspendedAt := s.up, faultRun := 0 }).flag (Obj.task.taskStatus t) 13
      ((s.flag Obj.sched.schedFlags 5).raise 0x146 t code 0 0).showModes 3
  s.showSched

/-- A job ends without a fault: the run of faults ends. -/
def State.cleanEnd (t : Nat) (s : State) : State := s.setTaskX t fun x => { x with faultRun := 0 }

/-! ### Squash and lapse (R220 to R222, R376, R414) -/

/-- Whether a read value is still provisional: its snapshot is open, or held for the active module's list (R217). -/
def State.refProvisional (s : State) (q : ReadRef) : Bool :=
  let inSnap (z : Snap) : Bool := z.no == q.no && z.samples.any fun x => x.p == q.p && x.conf == .provisional
  (s.strX q.string).snaps.any inSnap ||
    s.scan.held.any fun h => h.string == q.string && h.snap.no == q.no && h.snap.samples.any fun x => x.p == q.p

/-- The job class of events 0x0A7 and 0x0A8 for a task. -/
def TaskRec.jobClass (r : TaskRec) : Nat := if r.cls = 1 then 2 else 1

/-- Time left before a job's commit point, ns. -/
def State.timeLeft (s : State) (j : Job) : Nat := j.startedAt + (j.commitAt - j.release) * 1000 - s.up

/-- One task's job is squashed by a withdrawal (R221, R222): it runs again if its WCET fits, else the release is
skipped. -/
def State.squashJob (r : TaskRec) (q : ReadRef) (s : State) : State :=
  let t := r.task
  match (s.taskX t).job with
  | none => s
  | some j =>
    let s := (s.raise 0x0A7 q.string r.jobClass q.no t).loopSquash t q.string q.no
    if r.wcet * 1000 ≤ s.timeLeft j then
      ((s.setTaskX t fun x => { x with job := some { j with finished := false, writes := [], reads := [], exec := 0 } }).loopDrop t 3 true).showTask t
    else (((s.skipRelease t 2).dropJob t 3).cleanEnd t).showTask t

/-- One withdrawal (R221): every job whose read set holds it, the estimation updates begun on it (R247), counted once
for the string. -/
def State.squashReaders (q : ReadRef) (s : State) : State :=
  let jobs := s.tasks.filter fun r => match (s.taskX r.task).job with
    | some j => j.reads.contains q
    | none => false
  let cells : List Nat := match s.nodeRec q.string q.p with | some r => r.cellIdx.filter s.hasCell | none => []
  let s := if jobs.isEmpty && cells.isEmpty then s
    else (s.count (Obj.str.squashes q.string) 1).flag (Obj.str.strFlags q.string) 3
  let s := s.each jobs fun r s => s.squashJob r q
  let s := s.count Obj.imp.reruns cells.length
  s.each cells fun c s => s.raise 0x0A7 q.string 0 q.no (c % 512)

/-- Withdrawals found by the Weir since the last call squash their readers. -/
def State.settleNotices (s : State) : State :=
  let l := s.scan.notices.map fun x => (⟨x.string, x.no, x.p⟩ : ReadRef)
  if l.isEmpty then s
  else
    let s := { s with scan := { s.scan with notices := [] } }.modSched fun u => { u with withdrawn := u.withdrawn ++ l }
    s.each l State.squashReaders

/-! ### What tasks write (R370, R371) -/

/-- A committed write to a task-writable object. -/
def State.commitObject (a : Nat) (w : Word) (s : State) : State :=
  let inst := a / 2 ^ 7 % 2 ^ 17
  match kindOf (a / 2 ^ 24 % 256) inst, a % 128 with
  | some .pstr, 2 => contactReqWrite (inst - 256) w s
  | some .loop, 4 => spWrite (inst - 256) w s
  | some .loop, 8 => if (s.loopRec (inst - 256)).isSome then s.wr (Obj.loop.manOut (inst - 256)) w else s
  | some .dout, 4 => s.commitDo (inst - 512) w.toNat
  | some .ao, 4 => s.commitAo (inst - 640) w
  | some .wk, i => if 0x10 ≤ i ∧ i < 0x30 then s.wr a w else s
  | _, _ => s

/-- A job's write to a task-writable object: on a lockstep standby it comes from the active module instead (R383). What is no
output is noted for the agreement. -/
def State.jobObject (masked : Bool) (a : Nat) (w : Word) (s : State) : State :=
  if masked then s
  else
    let out := a / 2 ^ 24 % 256 == 0x0E
    let s := s.commitObject a w
    if out then s else s.modSched fun u => { u with objs := u.objs ++ [(a, w)] }

/-- Bytes that a list of writes changes in the retained area (R381). -/
def State.retainedBytes (s : State) (l : List JobWrite) : Nat :=
  l.foldl (fun n w => match w with
    | .var v _ d => if (s.retainedRec v.toNat).isSome then n + d.length else n
    | _ => n) 0

/-- One committed write of a job; `masked` on a lockstep standby, whose outputs and pair-agreed objects come from the
active module (R383). Frames are placed apart (R465). -/
def State.commitWrite (masked : Bool) (cls : Nat) (w : JobWrite) (s : State) : State :=
  match w with
  | .var v off d => s.writeVar v.toNat off d
  | .object a v => s.jobObject masked a.toNat v
  | .frame _ _ => s
  | .cancel b k => s.jobCancel b k
  | .readEdges c n => s.takeEdges c n
  | .readFrames b q n => s.takeFrames b q n
  | .readFsk c n => (s.setAoX c fun x => { x with rx := x.rx.drop n }).showFsk c
  | .ring r op => { s with net := { s.net with taskOps := s.net.taskOps ++ [(cls, r.toNat, op)] } }

/-- A job's results commit (R370, R378, R400). -/
def State.commitJob (r : TaskRec) (j : Job) (s : State) : State :=
  let t := r.task
  let masked := s.lockstepStandby
  let s := s.each j.writes (State.commitWrite masked r.cls)
  let s := s.each (s.slotsOf t) fun q s =>
    let (o, s) := s.loopCommit q
    match o with
    | some (a, w) => s.jobObject masked a w
    | none => s
  let s := s.each (s.sec.gcmStaged.filter fun x => x.1 == t && x.2.1 == j.release) fun x s =>
    s.wr64 (Obj.key.gcmCount x.2.2.1) (s.rd64 (Obj.key.gcmCount x.2.2.1) + x.2.2.2)
  let s := { s with sec := { s.sec with gcmStaged := s.sec.gcmStaged.filter fun x => x.1 != t } }
  let s := (s.count (Obj.task.commits t) 1).cleanEnd t
  let s := if r.wcet < j.exec then (s.flag (Obj.task.taskFlags t) 5).raise 0x143 t j.exec r.wcet 0 else s
  let s := if r.cls = 1 then s.modSched fun u => { u with outHold := false } else s
  s.setTaskX t fun x => { x with job := none }

/-! ### Commit points (R363, R370, R374 to R376, R381, R383) -/

/-- The order of R370: plant before protection, then release, PRIORITY from 31, TASK from 63. -/
def commitBefore (a b : TaskRec × Job) : Bool :=
  if a.1.cls ≠ b.1.cls then b.1.cls < a.1.cls
  else if a.2.release ≠ b.2.release then a.2.release < b.2.release
  else if a.1.priority ≠ b.1.priority then b.1.priority < a.1.priority
  else b.1.task < a.1.task

/-- The order of R465 for frames: protection before plant, then release, PRIORITY from 0. -/
def frameBefore (a b : TaskRec × Job) : Bool :=
  if a.1.cls ≠ b.1.cls then a.1.cls < b.1.cls
  else if a.2.release ≠ b.2.release then a.2.release < b.2.release
  else if a.1.priority ≠ b.1.priority then a.1.priority < b.1.priority
  else a.1.task < b.1.task

/-- Insertion into a list ordered by a relation. -/
def insertBy {α : Type} (before : α → α → Bool) (x : α) : List α → List α
  | [] => [x]
  | y :: t => if before x y then x :: y :: t else y :: insertBy before x t

def sortBy {α : Type} (before : α → α → Bool) (l : List α) : List α := l.foldr (insertBy before) []

/-- What befalls a job at its commit point. -/
inductive Verdict where
  | commit | overrun | abort (cause : Nat) | lapse (q : ReadRef) | skip
  deriving DecidableEq, Repr

/-- The verdict on a job; on a lockstep standby the active module's outcome stands (R383). -/
def State.verdict (s : State) (j : Job) (agreed : Option JobOutcome) : Verdict :=
  match agreed with
  | some .committed => if j.finished then .commit else .abort 3
  | some .overrun => .overrun
  | some .skipped => .skip
  | some .aborted => .abort 3
  | none =>
    if j.finished then
      match j.reads.find? s.refProvisional with
      | some q => .lapse q
      | none => .commit
    else if j.moved then .abort 1
    else .overrun

/-- An overrun (R374): the commit point moves to that of the skipped release. -/
def State.overrun (r : TaskRec) (j : Job) (s : State) : State :=
  let t := r.task
  let f := if r.cls = 1 ∧ r.kind = 0 then s.stretch else 1
  let (w, s) := if j.finished then (w32 j.exec, s) else s.fresh
  let s := ((s.count (Obj.task.overruns t) 1).flag (Obj.task.taskFlags t) 0).flag Obj.sched.schedFlags 0
  let s := (s.raise 0x140 t w.toNat r.wcet 0).skipRelease t 1
  s.setTaskX t fun x =>
    { x with job := some { j with moved := true, commitAt := j.commitAt + r.period * f }, skipNext := true, missCause := 1 }

/-- A lapse (R221, R376). -/
def State.lapseJob (r : TaskRec) (q : ReadRef) (s : State) : State :=
  let t := r.task
  let s := ((s.count (Obj.str.lapses q.string) 1).flag (Obj.str.strFlags q.string) 4).raise 0x0A8 q.string r.jobClass q.no t
  ((s.skipRelease t 3).dropJob t 4).cleanEnd t

/-- The journal's capacity, bytes (R381). -/
abbrev journalSize : Nat := 262144

/-- Commits the due jobs in order. `used` is the retained bytes of this commit so far, `shut` a class shut by a full
journal; the answer lists the jobs that committed. -/
def commitAll (agreed : Nat → Option JobOutcome) : List (TaskRec × Job) → Nat → Option Nat → List (TaskRec × Job) →
    List (Nat × JobOutcome) → State → List (TaskRec × Job) × List (Nat × JobOutcome) × Nat × State
  | [], used, _, done, outs, s => (done, outs, used, s)
  | (r, j) :: l, used, shut, done, outs, s =>
    let t := r.task
    match s.verdict j (agreed t) with
    | .overrun => commitAll agreed l used shut done (outs ++ [(t, .overrun)]) (s.overrun r j)
    | .abort c => commitAll agreed l used shut done (outs ++ [(t, .aborted)]) ((s.abortJob t c).cleanEnd t)
    | .skip => commitAll agreed l used shut done (outs ++ [(t, .skipped)]) (((s.skipRelease t 2).dropJob t 3).cleanEnd t)
    | .lapse q => commitAll agreed l used shut done (outs ++ [(t, .skipped)]) (s.lapseJob r q)
    | .commit =>
      let n := s.retainedBytes j.writes
      if shut = some r.cls then commitAll agreed l used shut done (outs ++ [(t, .aborted)]) (s.abortJob t 2)
      else if journalSize < used + n then commitAll agreed l used (some r.cls) done (outs ++ [(t, .aborted)]) (s.faultJob t 9 0 2)
      else commitAll agreed l (used + n) shut (done ++ [(r, j)]) (outs ++ [(t, .committed)]) (s.commitJob r j)

/-- Applies the journal of the last commit to the retained area (R381). -/
def State.applyJournal (s : State) : State :=
  match s.sched.journal with
  | some j => s.modSched fun u => { u with retained := j.vars.foldl (fun l v => upsert v.1 v.2 l) u.retained, journal := none }
  | none => s

/-- Retained variables whose committed value is not yet in the retained area. -/
def State.retainedChanges (s : State) : List (Nat × List Byte) :=
  match s.catOf with
  | none => []
  | some c => c.retained.filterMap fun r =>
      match s.sched.vars.find? (fun v => v.1 == r.var) with
      | some (_, b) => if s.sched.retained.find? (fun v => v.1 == r.var) = some (r.var, b) then none else some (r.var, b)
      | none => none

/-- RETAIN_DIGEST of the running image. -/
def State.retainDigest (s : State) : Digest := match s.catOf with | some c => c.head.retainDigest | none => 0

/-- Writes the journal of this commit, and notes JOURNAL's peak. -/
def State.writeJournal (bytes : Nat) (s : State) : State :=
  let l := s.retainedChanges
  if l.isEmpty then s
  else
    let s := s.modSched fun u =>
      { u with journal := some ⟨l, true, s.taskTime, s.up⟩, retainDigest := s.retainDigest, pagesOk := true }
    s.wrBits Obj.sched.journal 15 0 (max (s.bits Obj.sched.journal 15 0) ((bytes + 1023) / 1024))

/-- The jobs whose commit point is now, and the rest of a commit: frames, journal and CYCLE_DIGEST (R384). Host writes
have been applied before; `hostBytes` is what they changed of the retained area. The outcomes answer with the state (R383). -/
def State.commitJobs (agreed : Nat → Option JobOutcome) (hostBytes : Nat) (s : State) : List (Nat × JobOutcome) × State :=
  let t := s.taskTime
  let due := s.tasks.filterMap fun r => match (s.taskX r.task).job with
    | some j => if j.commitAt = t then some (r, j) else none
    | none => none
  let s := s.applyJournal
  let (done, outs, used, s) := commitAll agreed (sortBy commitBefore due) hostBytes none [] [] s
  let framesOf (b : Fin 16) : List CanFrame := (sortBy frameBefore done).flatMap fun d => d.2.writes.filterMap fun w =>
    match w with | .frame c f => if c = b then some f else none | _ => none
  let s := s.each (List.finRange 16) fun b s => let l := framesOf b; if l.isEmpty then s else s.canSend b l
  let s := (s.writeJournal used).wr Obj.sched.cycleDigest (w32 (crc32c s.sched.applied))
  let anyJob := s.tasks.any fun r => (s.taskX r.task).job.isSome
  (outs, s.modSched fun u => { u with applied := [], withdrawn := if anyJob then u.withdrawn else [] })

/-! ### Releases (R361 to R364) -/

/-- A release (R362, R364): the job starts with its inputs as they stand now. -/
def State.releaseTask (r : TaskRec) (s : State) : State :=
  let t := r.task
  let now := s.taskTime
  let f := if r.cls = 1 ∧ r.kind = 0 then s.stretch else 1
  let j : Job := { release := now, commitAt := now + r.period * f, startedAt := s.up, moved := false, finished := false, exec := 0,
                   writes := [], reads := [] }
  let s := s.setTaskX t fun x => { x with job := some j, triggers := 0, lastRn := s.rcd.nextRn }
  let s := ((s.count (Obj.task.releases t) 1).wr64 (Obj.task.lastRelease t) now).wrBit (Obj.task.taskStatus t) 12 false
  s.loopRelease t now

/-- Whether the grid or a trigger releases a task at this boundary. -/
def State.releaseDue (s : State) (r : TaskRec) : Bool :=
  if r.kind = 0 then r.period != 0 && s.taskTime % r.period == 0
  else decide (0 < (s.taskX r.task).triggers) && (s.taskX r.task).job.isNone

/-- One task at a boundary's release phase. -/
def State.releaseOne (r : TaskRec) (s : State) : State :=
  let t := r.task
  if !s.releasable r || s.bit (Obj.task.taskStatus t) 13 || !s.releaseDue r then s
  else if r.cls = 1 ∧ r.kind = 0 ∧ s.taskTime / r.period % s.stretch ≠ 0 then
    (s.count Obj.mthm.stretchSkips 1).setTaskX t fun x => { x with missCause := 1 }
  else if (s.taskX t).skipNext then s.setTaskX t fun x => { x with skipNext := false }
  else if (s.taskX t).job.isSome then s
  else s.releaseTask r

/-- The release phase of a boundary; event 0x148 at the first plant release after an initialisation (R380). -/
def State.releaseTasks (s : State) : State :=
  let s := if s.lockstepStandby then s else s.eventTriggers
  let plant := s.sys.mode.running && s.sched.loaded && !s.sched.draining
  let s := if plant && s.sched.startDue then
      (s.modSched fun u => { u with startDue := false }).raise 0x148 0 (s.bits Obj.sched.schedStatus 3 2)
        (s.bit Obj.sched.schedStatus 5).toNat s.tasks.length
    else s
  let s := if plant && !(s.tasks.any fun r => r.cls == 1) then s.modSched fun u => { u with outHold := false } else s
  (s.each s.tasks State.releaseOne).showSched

/-! ### Mode changes and initialisation (R379, R380, R382) -/

/-- Discards the jobs of the tasks that `p` names; the answer counts them. -/
def State.discardJobs (p : TaskRec → Bool) (s : State) : Nat × State :=
  let l := s.tasks.filter fun r => p r && (s.taskX r.task).job.isSome
  (l.length, s.each (s.tasks.filter p) fun r s =>
    (s.dropJob r.task 0).setTaskX r.task fun x => { x with skipNext := false })

/-- Plant tasks halt as the module leaves the running modes (R379): event 0x149. -/
def State.haltPlant (mode : Mode) (s : State) : State :=
  let (n, s) := s.discardJobs fun r => r.cls == 1
  let s := s.modSched fun u => { u with draining := false, outHold := true }
  ((s.raise 0x149 0 mode.code n 0).showModes 3).showSched

/-- Entry to DORMANT (R379): jobs in progress run to their commit points, with no new release. -/
def State.drainPlant (s : State) : State := ((s.modSched fun u => { u with draining := true }).showModes 3).showSched

/-- Plant tasks may be released again: a running mode was entered (R379). -/
def State.enterRunning (s : State) : State :=
  ((s.modSched fun u => { u with draining := false, outHold := true }).showModes 3).showSched

/-- A journal found at a start (R381): a complete one is applied, with event 0x14B. -/
def State.recoverJournal (s : State) : State :=
  match s.sched.journal with
  | none => s
  | some j =>
    if j.complete then
      let n := j.vars.foldl (fun n v => n + v.2.length) 0
      let s := s.applyJournal
      let s := s.wrBits Obj.sched.journal 31 16 (min 65535 (s.bits Obj.sched.journal 31 16 + 1))
      (s.flag Obj.sched.schedFlags 3).raise 0x14B 0 n (j.time % 2 ^ 32) 0
    else s.modSched fun u => { u with journal := none }

/-- Retained data takes its values from INITIAL (R380): event 0x14A. -/
def State.retainedInit (cause mapped : Nat) (s : State) : State :=
  let s := s.modSched fun u => { u with retained := [], retainDigest := s.retainDigest, pagesOk := true }
  (s.flag Obj.sched.schedFlags 4).raise 0x14A 0 cause mapped 0

/-- Program data at a start or an activation (R380, R382): cause 0 keeps retained data where its layout check passes. -/
def State.initPrograms (cold : Bool) (s : State) : State :=
  let s := s.recoverJournal
  let hasRet := match s.catOf with | some c => c.hasRetained | none => false
  let cause := if cold then 1 else if s.sched.retainDigest ≠ s.retainDigest then 2 else if s.sched.pagesOk then 0 else 3
  let s := if hasRet && cause != 0 then s.retainedInit cause 0 else s
  let kept := hasRet && cause == 0
  let s := s.modSched fun u =>
    { u with vars := if kept then u.retained else [], tasks := [], hostStaged := [], withdrawn := [], applied := [], resync := false
             startDue := true, draining := false, outHold := true }
  let a := Obj.sched.schedStatus
  let s := (s.wrBits a 3 2 (if cold then 1 else 0)).wrBit a 5 kept
  let s := s.each s.tasks fun r s => ((s.wrBit (Obj.task.taskStatus r.task) 13 false).flag (Obj.task.taskStatus r.task) 12).setTaskX r.task fun _ =>
    { TaskX.initial with lastRn := s.rcd.nextRn }
  s

/-- Tasks are loaded at the end of BOOT or of a restart; unloaded at its start (R379). -/
def State.loadTasks (on : Bool) (s : State) : State :=
  let s := s.modSched fun u => { u with loaded := on && s.catOf.isSome }
  (s.showModes 4).showSched

/-- Task counters, flags and execution times at power-up and cold restart (R394). -/
def State.taskColdStart (s : State) : State :=
  { s with regs := s.regs.filter fun x => x.1 / 2 ^ 24 != 0x0C || x.1 / 2 == Obj.sched.taskTime / 2 ||
      (decide (x.1 % 2 ^ 24 / 128 ≠ 0) && x.1 % 128 == 0) || x.1 == Obj.sched.schedStatus }

/-! ### Commands and events of tasks -/

/-- JOB_FINISH (R363, R398): the job's writes are staged and slots due without a call are evaluated. A write to an
object that the library refuses faults the job with code 0x08 (R371). -/
def jobFinish (t : Nat) (x : JobResult) (s : State) : State :=
  match s.taskRec t, (s.taskX t).job with
  | some r, some j =>
    if j.finished then s
    else
      let bad := x.writes.any fun w => match w with | .object a _ => !taskWritable a.toNat | _ => false
      if bad then s.faultJob t 8 0 4
      else
        let last (a : Nat) : Option Word := x.writes.foldl (fun o w => match w with
          | .object b v => if b.toNat = a then some v else o
          | _ => o) none
        let s := s.each (s.slotsOf t) fun q s => s.evalSlot q.slot (last (Obj.loop.sp q.slot)) (last (Obj.loop.manOut q.slot)) j.release
        let reads := x.reads.map fun q => (⟨q.1, q.2.1.toNat, q.2.2⟩ : ReadRef)
        let s := s.setTaskX t fun y => { y with job := some { j with finished := true, exec := x.exec, writes := x.writes, reads := reads } }
        let resp := (s.up - j.startedAt) / 1000
        let s := (s.wr (Obj.task.execLast t) (w32 x.exec)).wr (Obj.task.execMax t) (w32 (max x.exec (s.rd (Obj.task.execMax t)).toNat))
        let s := (s.wr (Obj.task.respMax t) (w32 (max resp (s.rd (Obj.task.respMax t)).toNat))).showTask t
        match reads.find? (fun q => s.sched.withdrawn.contains q) with
        | some q => ((s.count (Obj.str.squashes q.string) 1).flag (Obj.str.strFlags q.string) 3).squashJob r q
        | none => s
  | _, _ => s

def execJobFinish (task : Fin 64) (r : JobResult) (s : State) : Host.Outcome State Fault Refusal := s.live (jobFinish task r)

/-- TASK_FAULT (R377): a runtime fault aborts the job at once. -/
def taskFault (t code offset : Nat) (s : State) : State :=
  match (s.taskX t).job with
  | some j => if j.finished then s else s.faultJob t code offset 4
  | none => s

def execTaskFault (task : Fin 64) (code : Fin 10) (offset : BitVec 24) (s : State) : Host.Outcome State Fault Refusal :=
  s.live (taskFault task code offset.toNat)

abbrev TaskCmd.clear : Nat := 1
abbrev TaskCmd.resume : Nat := 2

/-- RESUME (R377, R392): event 0x147. -/
def resume (t : Nat) (s : State) : State :=
  if (s.taskRec t).isNone then s
  else if s.bit (Obj.task.taskStatus t) 13 then
    let s := (s.accept (Obj.task.cmdStatus t) TaskCmd.resume Oc.done).wrBit (Obj.task.taskStatus t) 13 false
    ((s.raise 0x147 t (min 0xFFFFFFFF ((s.up - (s.taskX t).suspendedAt) / 1000000000)) 0 0).showModes 3).showSched
  else s.refuse (Obj.task.cmdStatus t) TaskCmd.resume Oc.notReady

def execResume (task : Fin 64) (s : State) : Host.Outcome State Fault Refusal := s.live (resume task)

/-- TASK_CLEAR_COUNTERS (R392). -/
def taskClearCounters (t : Nat) (s : State) : State :=
  if (s.taskRec t).isNone then s
  else (State.clearAll [Obj.task.releases t, Obj.task.commits t, Obj.task.overruns t, Obj.task.skips t, Obj.task.aborts t, Obj.task.faults t,
    Obj.task.eventsMerged t] s).accept (Obj.task.cmdStatus t) TaskCmd.clear Oc.done

def execTaskClearCounters (task : Fin 64) (s : State) : Host.Outcome State Fault Refusal := s.live (taskClearCounters task)

/-- SCHED_CLEAR_COUNTERS (R389). -/
def schedClearCounters (s : State) : State :=
  (State.clearAll [Obj.sched.digestMismatches, Obj.sched.progResyncs] s).accept Obj.sched.cmdStatus 1 Oc.done

def execSchedClearCounters (s : State) : Host.Outcome State Fault Refusal := s.live schedClearCounters

/-- VAR_DATA_WRITE (R390): all words of one request stage one write; refused beyond VAR_SIZE or where the variable is not
host-writable. -/
def varDataWrite (session first : Nat) (l : List Word) (s : State) : State :=
  let v := s.rd (sessKey session Obj.sched.varSelect)
  let off := (s.rd (sessKey session Obj.sched.varOffset)).toNat + 4 * first
  match s.varDecl v.toNat with
  | none => s
  | some d =>
    if d.writable && decide (off + 4 * (l.length - 1) < d.size) && !l.isEmpty then
      s.stageHost session (.var v off ((bytesOfWords l).take (d.size - off)))
    else s

def execVarDataWrite (session : Fin 68) (first : Fin 64) (values : List (BitVec 32)) (s : State) :
    Host.Outcome State Fault Refusal := s.live (varDataWrite session first values)

/-- PROGRAM_RESYNC_DONE (R384): the standby replaces its program data; event 0x14D. -/
def programResyncDone (l : List (BitVec 32 × List Byte)) (s : State) : State :=
  if s.sched.resync then
    let n := l.foldl (fun n v => n + v.2.length) 0
    let s := s.modSched fun u =>
      { u with resync := false, vars := l.foldl (fun m v => upsert v.1.toNat v.2 m) [] }
    let s := ((s.count Obj.sched.progResyncs 1).wrBit Obj.sched.schedStatus 7 false).raise 0x14D 0 2 n 0
    s.writeJournal 0
  else s

def execProgramResyncDone (vars : List (BitVec 32 × List Byte)) (s : State) : Host.Outcome State Fault Refusal :=
  s.live (programResyncDone vars)

end Sys2Proof.Machine
end

