-- ==== Sys2Proof/Machine/Security.lean ====
section
/-!
DEFINITION. Measurement, quotes, key slots, certificates and the cryptographic engine (R582 to R598, R609 to R614).
-/

namespace Sys2Proof.Machine

def State.modSec (f : SecUnit → SecUnit) (s : State) : State := { s with sec := f s.sec }
def State.modUpd (f : UpdUnit → UpdUnit) (s : State) : State := { s with upd := f s.upd }

/-! ### Measurement (R583 to R585) -/

abbrev Mk.rom : Nat := 1
abbrev Mk.firmware : Nat := 2
abbrev Mk.catalogue : Nat := 3
abbrev Mk.safety : Nat := 4
abbrev Mk.keys : Nat := 5
abbrev Mk.config : Nat := 6
abbrev Mk.svn : Nat := 7
abbrev Mk.catActivation : Nat := 0x10
abbrev Mk.fwActivation : Nat := 0x11
abbrev Mk.keyChange : Nat := 0x12
abbrev Mk.svnCommit : Nat := 0x13
abbrev Mk.fallback : Nat := 0x14

def digestBytes (d : Digest) : List Byte := leBytes d.toNat 48

/-- Extends a measurement register (R584) and logs it; a full log takes no more (R585). -/
def State.extend (reg kind : Nat) (d : Digest) (s : State) : State :=
  let full := decide (256 ≤ s.sec.log.length)
  s.modSec fun u =>
    { u with
      mrs := u.mrs.set reg (Config.sha384 (digestBytes (u.mrs.getD reg 0) ++ digestBytes d))
      log := if full then u.log else u.log ++ [⟨reg, kind, s.now, d⟩]
      logFull := u.logFull || full }

/-- Step 1 of R583: registers and log reset, MR0 extended with the ROM digest and the lifecycle state. -/
def State.measureRom (s : State) : State :=
  (s.modSec fun u => { u with mrs := List.replicate 8 0, log := [], logFull := false }).extend 0 Mk.rom
    (Config.sha384 (digestBytes Config.romDigest ++ leBytes 1 1))

/-- MR6 stands for the running SVN and SVN_FLOOR (R584). -/
def State.measureSvn (svn : Nat) (s : State) : State := s.extend 6 Mk.svn (Config.sha384 (leBytes svn 1 ++ leBytes s.upd.floor 1))

/-! ### Quotes (R586, R587) -/

abbrev SecCmd.quote : Nat := 1
abbrev SecCmd.clear : Nat := 2

/-- QUOTE (R586): BUSY while one runs in the same session. -/
def quote (i mask : Nat) (s : State) : State :=
  if s.sec.quotes.any fun q => q.1 == i then s.refuse Obj.sec.cmdStatus SecCmd.quote Oc.busy
  else
    (s.accept Obj.sec.cmdStatus SecCmd.quote Oc.inProgress).count (Obj.key.keyUses 0) 1 |>.modSec fun u =>
      { u with quotes := u.quotes ++ [(i, mask)] }
def execQuote (session : Fin 68) (mask : Byte) (s : State) : Host.Outcome State Fault Refusal := s.live (quote session mask.toNat)

/-- Bytes 0 to 155 of a quote (R587). -/
def State.quoteBody (i mask : Nat) (s : State) : List Byte :=
  let c := s.catOf
  let sel := (List.range 8).filter fun k => mask = 0 || mask / 2 ^ k % 2 == 1
  let st := (s.bit Obj.time.timeStatus 5).toNat + 2 * s.sec.logFull.toNat + 4 * s.upd.trial.toNat + s.upd.runningFw.svn * 256 + s.upd.floor * 65536
  leBytes 0x544F5147 4 ++ leBytes 1 2 ++ leBytes mask 2 ++ bytesOfWords (s.rdList Obj.mod.serial 4) ++ s.sessBytes i Obj.sec.quoteNonce 12 ++
    leBytes s.now 8 ++ leBytes (s.rd Obj.mod.fwVersion).toNat 4 ++ leBytes ((c.map fun k => k.head.catalogueId).getD 0) 8 ++
    leBytes ((c.map fun k => k.head.revision).getD 0) 4 ++ leBytes s.sec.quoteSeq 4 ++ leBytes s.sec.log.length 4 ++ leBytes st 4 ++
    digestBytes (Config.sha384 (sel.flatMap fun k => digestBytes (s.sec.mrs.getD k 0)))

/-- QUOTE_DONE (R587): signed with the key of slot 0 under R595, readable in the session; event 0x1EE. -/
def quoteDone (i : Nat) (s : State) : State :=
  match s.sec.quotes.find? (fun q => q.1 == i) with
  | none => s
  | some (_, mask) =>
    let body := s.quoteBody i mask
    let seq := s.sec.quoteSeq
    let s := State.wrList (sessKey i Obj.sec.quote) (wordsOfBytes (body ++ Config.ecdsaSign Config.deviceScalar body) 63) s
    let s := s.modSec fun u => { u with quotes := u.quotes.filter fun q => q.1 != i, quoteSeq := u.quoteSeq + 1 }
    ((s.setOutcome Obj.sec.cmdStatus Oc.done).count Obj.sec.quotes 1).raise 0x1EE 0 seq mask i
def execQuoteDone (session : Fin 68) (s : State) : Host.Outcome State Fault Refusal := s.live (quoteDone session)

/-- SEC_CLEAR_COUNTERS (R610). -/
def secClearCounters (s : State) : State :=
  (State.clearAll [Obj.sec.quotes, Obj.sec.cryptoRejects, Obj.sec.certRejects] s).accept Obj.sec.cmdStatus SecCmd.clear Oc.done
def execSecClearCounters (s : State) : Host.Outcome State Fault Refusal := s.live secClearCounters

/-! ### Rejected inputs (R596) -/

abbrev Cr.slotEmpty : Nat := 1
abbrev Cr.wrongKind : Nat := 2
abbrev Cr.scalar : Nat := 3
abbrev Cr.point : Nat := 4
abbrev Cr.signature : Nat := 5
abbrev Cr.tag : Nat := 6
abbrev Cr.exhausted : Nat := 7
abbrev Cr.length : Nat := 8

/-- A rejection: counted, and event 0x1EF at most once per second per slot. -/
def State.cryptoReject (slot op code : Nat) (s : State) : State :=
  let l := s.up :: (lookupD [] s.sec.rejects slot).filter fun t => decide (s.up < t + 1000000000)
  let due := match s.sec.rejectAt.find? (fun x => x.1 == slot) with | some x => decide (x.2 + 1000000000 ≤ s.up) | none => true
  let s := ((s.count Obj.sec.cryptoRejects 1).flag Obj.sec.secFlags 0).modSec fun u =>
    { u with rejects := upsert slot l u.rejects, rejectAt := if due then upsert slot s.up u.rejectAt else u.rejectAt }
  if due then s.raise 0x1EF slot op code l.length else s

/-- A scalar from 1 to n − 1 (R589, R596). -/
def scalarOk (b : List Byte) : Bool := decide (1 ≤ beNat b ∧ beNat b < Config.groupOrder)

/-- A point per R596: coordinates below p, on the curve, not the point at infinity. -/
def pointOk (b : List Byte) : Bool :=
  b.length == 96 && decide (beNat (b.take 48) < Config.fieldModulus) && decide (beNat (b.drop 48) < Config.fieldModulus) && Config.onCurve b

/-! ### Key slots (R588 to R593) -/

abbrev Kd.private_ : Nat := 1
abbrev Kd.public_ : Nat := 2
abbrev Kd.aes : Nat := 3
abbrev Kd.anchor : Nat := 4
abbrev KeyCmd.load : Nat := 1
abbrev KeyCmd.generate : Nat := 2
abbrev KeyCmd.erase : Nat := 3
abbrev KeyCmd.loadCert : Nat := 4
abbrev KeyCmd.clear : Nat := 5

def factorySlot (k : Nat) : Bool := k == 0 || k == 2 || k == 3

/-- KIND of a slot (R588, R614). -/
def State.keyKind (s : State) (k : Nat) : Nat :=
  if k = 0 then Kd.private_ else if factorySlot k then Kd.public_ else s.bits (Obj.key.keyStatus k) 7 4

/-- PUBLIC of a slot, X then Y. -/
def State.keyPublic (s : State) (k : Nat) : List Byte :=
  if k = 0 then Config.ecdsaPublic Config.deviceScalar else if factorySlot k then Config.firmwareKey k
  else bytesOfWords (s.rdList (Obj.key.public k) 24)

/-- The low 64 bits of a KEY_ID (R613). -/
def State.keyIdOf (s : State) (k : Nat) : Nat :=
  if factorySlot k then (Config.sha384 (s.keyPublic k)).toNat % 2 ^ 64 else s.rd64 (Obj.key.keyId k)

/-- The public key of a slot that holds one. -/
def State.slotPub (s : State) (k : Nat) : Option (List Byte) := if s.keyKind k = 0 then none else some (s.keyPublic k)

/-- The codes and KINDs a slot takes (R588). -/
def keyCmdDefined (slot code kind : Nat) : Bool :=
  if code = KeyCmd.clear then true
  else if slot = 1 then (code == KeyCmd.generate && kind == Kd.private_) || code == KeyCmd.loadCert || code == KeyCmd.erase
  else if slot = 4 ∨ slot = 5 then (code == KeyCmd.load && kind == Kd.public_) || code == KeyCmd.erase
  else if slot < 16 then (code == KeyCmd.load && kind == Kd.anchor) || code == KeyCmd.erase
  else (code == KeyCmd.load && decide (1 ≤ kind ∧ kind ≤ 3)) || (code == KeyCmd.generate && (kind == Kd.private_ || kind == Kd.aes)) ||
    code == KeyCmd.erase

/-- A KEY_CMD turned away before it reaches the item (R588): the reply's STATUS. -/
def State.keyRefusal (s : State) (i slot : Nat) : Option Nat :=
  if factorySlot slot then some Rs.wrongAccess
  else if slot < 16 then (if s.sessPort i ≠ 8 then some Rs.wrongPort else if !s.hasRight i Rt.f then some Rs.noRight else none)
  else if !s.hasRight i Rt.w then some Rs.noRight else none

/-- The OUTCOME that refuses a KEY_CMD, if any (R588, R591, R604, R661). -/
def State.keyOutcome (s : State) (i slot code kind : Nat) : Option Nat :=
  if !keyCmdDefined slot code kind then some Oc.badValue
  else if code = KeyCmd.clear then none
  else if slot < 16 ∧ s.upd.activation.isSome then some Oc.busy
  else if (slot = 1 ∨ slot = 4 ∨ slot = 5) ∧ s.sys.mode ≠ .stop ∧ s.sys.mode ≠ .service then some Oc.wrongMode
  else if slot = 5 ∧ !(code = KeyCmd.load ∧ s.keyKind 5 = 0) ∧ !s.authorised i then some Oc.notAuthorised
  else none

/-- What LOAD checks (R589): the code of R596 that its material earns. -/
def materialBad (kind : Nat) (b : List Byte) : Option Nat :=
  if kind = Kd.private_ then (if scalarOk (b.take 48) then none else some Cr.scalar)
  else if kind = Kd.aes then none
  else if pointOk b then none else some Cr.point

/-- A slot takes material, or is emptied where `kind` is 0 (R589, R592). -/
def State.putKey (slot kind rights : Nat) (b : List Byte) (s : State) : State :=
  let secret := if kind = Kd.private_ then b.take 48 else if kind = Kd.aes then b.take 32 else []
  let pub := if kind = Kd.private_ then Config.ecdsaPublic secret else if kind = Kd.public_ ∨ kind = Kd.anchor then b.take 96 else []
  let id := if kind = 0 then 0 else
    (Config.sha384 (if kind = Kd.aes then leBytes 0x44494B47 4 ++ secret else pub)).toNat % 2 ^ 64
  let s := s.wr (Obj.key.keyStatus slot) (w32 ((if kind = Kd.anchor then rights else 0) * 65536 + kind * 16))
  let s := ((s.wr64 (Obj.key.keyId slot) id).wr64 (Obj.key.gcmCount slot) 0)
  let s := State.wrList (Obj.key.public slot) (wordsOfBytes pub 24) s
  s.modSec fun u =>
    { u with
      secrets := if secret.isEmpty then eraseKey slot u.secrets else upsert slot secret u.secrets
      cert := if slot = 1 then none else u.cert }

/-- What follows an accepted change of slots 1 to 15 (R588, R584): MR7, event 0x1EB, KEY_CHANGED_SEEN. -/
def State.keyChanged (slot code : Nat) (s : State) : State :=
  if slot < 16 then
    let id := s.keyIdOf slot
    ((s.extend 7 Mk.keyChange (Config.sha384 (leBytes id 8))).flag Obj.sec.secFlags 2).raise 0x1EB slot code (s.keyKind slot) (id % 2 ^ 32)
  else s

/-- Notes a trust-anchor slot rewritten or erased (R593). -/
def State.anchorGone (slot : Nat) (s : State) : State :=
  if s.keyKind slot = Kd.anchor then s.modSec fun u => { u with anchorsGone := u.anchorsGone ++ [slot] } else s

/-- The change-log entry of slot 5 (R348), and the island's copy on a commissioning load (R591). -/
def State.logSafetyKey (i new : Nat) (pub : Option (List Byte)) (s : State) : State :=
  if s.keyKind 5 = 0 then
    match pub with
    | some b => (s.appendLog 0 6 2 0 new).modIsland fun u => { u with safetyKey := some b }
    | none => s.appendLog 0 6 2 0 new
  else (s.touchSafety i).appendLog (s.rd Obj.safe.sessionUser).toNat 6 2 (s.keyIdOf 5 % 2 ^ 32) new

/-- LOAD, GENERATE or ERASE of a slot with its material. -/
def State.changeKey (i slot code kind rights : Nat) (b : List Byte) (s : State) : State :=
  let c := Obj.key.cmdStatus slot
  match if code = KeyCmd.load then materialBad kind b else none with
  | some r => (s.refuse c code Oc.badValue).cryptoReject slot 6 r
  | none =>
    let s := s.accept c code Oc.done
    let kind := if code = KeyCmd.erase then 0 else kind
    let id := if kind = 0 then 0 else (Config.sha384 (b.take 96)).toNat % 2 ^ 32
    let s := if slot = 5 then s.logSafetyKey i id (if kind = 0 then none else some (b.take 96)) else s
    ((s.anchorGone slot).putKey slot kind rights b).keyChanged slot code

/-- A KEY_CMD that reaches its item, with the material of LOAD or the draw of GENERATE. -/
def State.keyCommand (i slot code kind rights : Nat) (b : List Byte) (s : State) : State :=
  match s.keyOutcome i slot code kind with
  | some o => s.refuse (Obj.key.cmdStatus slot) code o
  | none => s.changeKey i slot code kind rights b

/-- The material of a KEY_CMD: the session's KEY_DATA for LOAD, fresh bytes for GENERATE. -/
def State.keyMaterial (i slot code : Nat) (s : State) : List Byte × State :=
  if code = KeyCmd.generate then (Config.randomBytes s.free 48, { s with free := s.free + 1 })
  else (s.sessBytes i (Obj.key.keyData slot) 24, s)

/-- KEY_LOAD, KEY_GENERATE and KEY_ERASE share their way to the slot. -/
def keyWrite (i slot code kind rights : Nat) (s : State) : State :=
  if (s.keyRefusal i slot).isSome then s
  else
    let (b, s) := s.keyMaterial i slot code
    s.keyCommand i slot code kind rights b

def execKeyLoad (session : Fin 68) (slot : Fin 32) (kind : Fin 16) (rights : Byte) (s : State) : Host.Outcome State Fault Refusal :=
  s.live (keyWrite session slot KeyCmd.load kind rights.toNat)
def execKeyGenerate (session : Fin 68) (slot : Fin 32) (kind : Fin 16) (s : State) : Host.Outcome State Fault Refusal :=
  s.live (keyWrite session slot KeyCmd.generate kind 0)
def execKeyErase (session : Fin 68) (slot : Fin 32) (s : State) : Host.Outcome State Fault Refusal :=
  s.live (keyWrite session slot KeyCmd.erase 0 0)

/-- LOAD_CERT (R612): the staged certificate of slot 1's own key, signed as required. -/
def loadCert (i slot : Nat) (s : State) : State :=
  if (s.keyRefusal i slot).isSome then s
  else
    let c := Obj.key.cmdStatus slot
    match s.keyOutcome i slot KeyCmd.loadCert 0 with
    | some o => s.refuse c KeyCmd.loadCert o
    | none =>
      let der := lookupD [] s.sec.staged i
      match Config.certInfo der with
      | some (pub, ecdsa) =>
        if s.keyKind 1 ≠ 0 ∧ pub = s.keyPublic 1 ∧ ecdsa = true then
          (((s.accept c KeyCmd.loadCert Oc.done).modSec fun u => { u with cert := some der }).wrBit (Obj.key.keyStatus 1) 3 true).keyChanged
            1 KeyCmd.loadCert
        else s.refuse c KeyCmd.loadCert Oc.badValue
      | none => s.refuse c KeyCmd.loadCert Oc.badValue
def execLoadCert (session : Fin 68) (slot : Fin 32) (s : State) : Host.Outcome State Fault Refusal := s.live (loadCert session slot)

/-- KEY_CLEAR_COUNTERS (R613). -/
def keyClearCounters (i slot : Nat) (s : State) : State :=
  if (s.keyRefusal i slot).isSome then s
  else (s.wr (Obj.key.keyUses slot) 0).accept (Obj.key.cmdStatus slot) KeyCmd.clear Oc.done
def execKeyClearCounters (session : Fin 68) (slot : Fin 32) (s : State) : Host.Outcome State Fault Refusal :=
  s.live (keyClearCounters session slot)

/-- KEY_CMD by its code, as a write of the item (R613, R661). -/
def keyCmdWrite (i slot : Nat) (w : Word) (s : State) : State :=
  match bitsOf 7 0 w with
  | 1 => keyWrite i slot KeyCmd.load (bitsOf 11 8 w) (bitsOf 23 16 w) s
  | 2 => keyWrite i slot KeyCmd.generate (bitsOf 11 8 w) 0 s
  | 3 => keyWrite i slot KeyCmd.erase 0 0 s
  | 4 => loadCert i slot s
  | 5 => keyClearCounters i slot s
  | n => if (s.keyRefusal i slot).isSome then s else s.refuse (Obj.key.cmdStatus slot) n Oc.badValue

/-- At the next commit point the sessions whose chain ended at a changed anchor end, with their uncommitted requests (R593). -/
def State.endAnchorSessions (s : State) : State :=
  let l := s.sec.anchorsGone
  let s := s.modSec fun u => { u with anchorsGone := [] }
  s.each l.eraseDups fun k s =>
    let ends := s.net.sessions.filter fun x => x.2.anchors.contains k
    let s := s.each ends fun x s =>
      let reqs := s.net.reqs.filter fun r => r.dest == .session x.1 && !r.committed
      let s := s.modSched fun u => { u with hostStaged := u.hostStaged.filter fun h => !reqs.any fun r => h.req == some r.id }
      (s.modNet fun u => { u with reqs := u.reqs.filter fun r => !reqs.any fun q => q.id == r.id }).closeSession x.1 3
    if ends.isEmpty then s else (s.flag Obj.sec.secFlags 3).raise 0x1EC k ends.length 0 0

/-! ### The task library (R594 to R596) -/

/-- The job of a task that may call the library: released and not finished. -/
def State.callingJob (s : State) (t : Nat) : Option Job := match (s.taskX t).job with | some j => if j.finished then none else some j | none => none

/-- A library operation on a slot: KIND and length are checked, then the operation's own inputs; a rejection answers zeros of
the answer's length. `run` gives a code or the answer, and the state. -/
def State.cryptoOp (t slot op : Nat) (kinds : List Nat) (len out : Nat) (run : Job → State → (Nat ⊕ List Byte) × State) (s : State) : State :=
  match s.callingJob t with
  | none => s
  | some j =>
    let s := s.count (Obj.key.keyUses slot) 1
    let (r, s) : (Nat ⊕ List Byte) × State :=
      if s.keyKind slot = 0 then (.inl Cr.slotEmpty, s)
      else if !kinds.contains (s.keyKind slot) then (.inl Cr.wrongKind, s)
      else if 16384 < len then (.inl Cr.length, s)
      else run j s
    match r with
    | .inl code => (s.cryptoReject slot op code).emit (.library t op code (List.replicate out 0))
    | .inr b => s.emit (.library t op 0 b)

def State.secretOf (s : State) (slot : Nat) : List Byte := lookupD [] s.sec.secrets slot

/-- CRYPTO_SIGN (R595): deterministic. -/
def cryptoSign (t slot : Nat) (data : List Byte) (s : State) : State :=
  s.cryptoOp t slot 1 [Kd.private_] data.length 96 fun _ s => (.inr (Config.ecdsaSign (s.secretOf slot) data), s)
def execCryptoSign (task : Fin 64) (slot : Fin 16) (data : List Byte) (s : State) : Host.Outcome State Fault Refusal :=
  s.live (cryptoSign task (slot + 16) data)

/-- CRYPTO_VERIFY (R596). -/
def cryptoVerify (t slot : Nat) (data sig : List Byte) (s : State) : State :=
  s.cryptoOp t slot 2 [Kd.private_, Kd.public_] data.length 0 fun _ s =>
    (if scalarOk (sig.take 48) && scalarOk (sig.drop 48) && Config.ecdsaVerify (s.keyPublic slot) data sig then .inr [] else .inl Cr.signature, s)
def execCryptoVerify (task : Fin 64) (slot : Fin 16) (data sig : List Byte) (s : State) : Host.Outcome State Fault Refusal :=
  s.live (cryptoVerify task (slot + 16) data sig)

/-- CRYPTO_ECDH (R594, R596). -/
def cryptoEcdh (t slot : Nat) (point : List Byte) (s : State) : State :=
  s.cryptoOp t slot 3 [Kd.private_] 0 48 fun _ s =>
    (if pointOk point then .inr (Config.ecdhSecret (s.secretOf slot) point) else .inl Cr.point, s)
def execCryptoEcdh (task : Fin 64) (slot : Fin 16) (point : List Byte) (s : State) : Host.Outcome State Fault Refusal :=
  s.live (cryptoEcdh task (slot + 16) point)

/-- ENCRYPTs staged by a job on a slot. -/
def State.gcmUsed (s : State) (t release slot : Nat) : Nat :=
  match s.sec.gcmStaged.find? (fun x => x.1 == t && x.2.1 == release && x.2.2.1 == slot) with | some x => x.2.2.2 | none => 0

/-- CRYPTO_ENCRYPT (R594, R595): the nonce is formed from GCM_COUNT, whose increment commits with the job. -/
def cryptoEncrypt (t slot : Nat) (aad data : List Byte) (s : State) : State :=
  s.cryptoOp t slot 4 [Kd.aes] data.length (data.length + 16) fun j s =>
    let used := s.gcmUsed t j.release slot
    let n := s.rd64 (Obj.key.gcmCount slot) + used
    if 2 ^ 64 - 1 ≤ n then (.inl Cr.exhausted, s)
    else
      let (c, tag) := Config.gcmSeal (s.secretOf slot) (leBytes slot 1 ++ leBytes 0x47 1 ++ [0, 0] ++ leBytes n 8) aad data
      (.inr (c ++ tag), s.modSec fun u =>
        { u with gcmStaged := (t, j.release, slot, used + 1) :: u.gcmStaged.filter fun x => !(x.1 == t && x.2.2.1 == slot) })
def execCryptoEncrypt (task : Fin 64) (slot : Fin 16) (aad data : List Byte) (s : State) : Host.Outcome State Fault Refusal :=
  s.live (cryptoEncrypt task (slot + 16) aad data)

/-- CRYPTO_DECRYPT (R595, R596): no plaintext is released on a wrong tag. -/
def cryptoDecrypt (t slot : Nat) (nonce aad cipher tag : List Byte) (s : State) : State :=
  s.cryptoOp t slot 5 [Kd.aes] cipher.length cipher.length fun _ s =>
    (match Config.gcmOpen (s.secretOf slot) nonce aad cipher tag with | some p => .inr p | none => .inl Cr.tag, s)
def execCryptoDecrypt (task : Fin 64) (slot : Fin 16) (nonce : BitVec 96) (aad cipher tag : List Byte) (s : State) :
    Host.Outcome State Fault Refusal := s.live (cryptoDecrypt task (slot + 16) (leBytes nonce.toNat 12) aad cipher tag)

/-- CRYPTO_HASH (R594). -/
def cryptoHash (t : Nat) (data : List Byte) (s : State) : State :=
  if (s.callingJob t).isSome then s.emit (.library t 7 0 (digestBytes (Config.sha384 data))) else s
def execCryptoHash (task : Fin 64) (data : List Byte) (s : State) : Host.Outcome State Fault Refusal := s.live (cryptoHash task data)

/-- CRYPTO_RANDOM (R595): a lockstep standby returns the bytes that the active module's agreement carries. -/
def cryptoRandom (t n : Nat) (s : State) : State :=
  if (s.callingJob t).isNone then s
  else
    match (if s.lockstepStandby then s.red.randoms.find? fun x => x.1 == t else none) with
    | some x => { s with red := { s.red with randoms := s.red.randoms.erase x } }.emit (.library t 8 0 x.2)
    | none =>
      let b := Config.randomBytes s.free n
      let s := { s with free := s.free + 1 }.emit (.library t 8 0 b)
      s.agree (.random (Fin.ofNat 64 t) b)
def execCryptoRandom (task : Fin 64) (count : Fin 16385) (s : State) : Host.Outcome State Fault Refusal := s.live (cryptoRandom task count)

/-! ### The certificate window (R612) -/

/-- A write of an item of the certificate window: the reply's STATUS. -/
def State.certWrite (i item : Nat) (w : Word) (s : State) : Nat × State :=
  let staging := (s.rd (sessKey i Obj.cert.certSelect)).toNat == 3
  let put (b : List Byte) (s : State) : State := s.modSec fun u => { u with staged := upsert i b u.staged }
  let b := lookupD [] s.sec.staged i
  match item with
  | 0 => if w.toNat ≤ 3 then (Rs.ok, s.wr (sessKey i Obj.cert.certSelect) w) else (Rs.badValue, s)
  | 1 => if w.toNat % 4 = 0 then (Rs.ok, s.wr (sessKey i Obj.cert.certOffset) w) else (Rs.badValue, s)
  | 2 =>
    if !staging then (Rs.wrongAccess, s)
    else if 1 ≤ w.toNat ∧ w.toNat ≤ 2048 then (Rs.ok, put (b.take w.toNat ++ List.replicate (w.toNat - b.length) 0) s)
    else (Rs.badValue, s)
  | _ =>
    let off := (s.rd (sessKey i Obj.cert.certOffset)).toNat + 4 * (item - 0x40)
    if !staging then (Rs.wrongAccess, s)
    else (Rs.ok, put ((b.take off ++ leBytes w.toNat 4 ++ b.drop (off + 4)).take b.length) s)

end Sys2Proof.Machine
end

