-- ==== Sys2Proof/Machine/RingExec.lean ====
section
/-!
DEFINITION. Ring commands and events whose effects reach beyond the ring protocol: the ends of transactions, frames that
confirm values, FAULT, retirement, NODE_CMD (R88, R93, R104, R105, R124 to R160).
-/

namespace Sys2Proof.Machine

/-! ### The ends of transactions (R151, R531) -/

/-- The reply STATUS that the end of a transaction stands for (R531). -/
def TxnEnd.replyStatus : TxnEnd → Nat
  | .ok => Rs.ok
  | .status _ => Rs.nodeStatus
  | .failed => Rs.failed
  | .unreachable => Rs.unreachable
  | .discarded => Rs.discarded

/-- Hands one end of a transaction on: to a calibration pass, to protection, to the job that asked, to the host request. -/
def State.settleResult (r : TxnResult) (s : State) : State :=
  let s := match r.req.owner with
    | .calibration _ => calResult r s
    | .contactor _ => contactorResult r s
    | .task t => s.emit (.library t 9 r.outcome.replyStatus (bytesOfWords r.data))
    | _ => s
  match r.req.host with
  | none => s
  | some (id, inst) =>
    match r.req.scope with
    | .single => s.targetDone id inst r.outcome.replyStatus
    | _ => s.each (s.nodesOf r.req.string) fun q s => s.targetDone id (nodeInst r.req.string q.p) r.outcome.replyStatus

/-- Distributes the ends of transactions until none is left; what they request may end at once in turn. -/
def settle : Nat → State → State
  | 0, s => s
  | n + 1, s =>
    match s.ring.results with
    | [] => s
    | l => settle n (({ s with ring := { s.ring with results := [] } }).each l State.settleResult)

/-- A meaning on the rings: its effect, then the ends of transactions it brought. -/
def State.ringLive (f : State → State) (s : State) : Host.Outcome State Fault Refusal := s.live fun s => settle 64 (f s)

def execTxnRetry (txn : Nat) (s : State) : Host.Outcome State Fault Refusal := s.ringLive (txnRetry txn)
def execTxnFailed (txn : Nat) (s : State) : Host.Outcome State Fault Refusal := s.ringLive (txnFailed txn)
def execTxnDiscarded (txn : Nat) (s : State) : Host.Outcome State Fault Refusal := s.ringLive (txnDiscarded txn)
def execReplyReceive (f : NodeFrame) (s : State) : Host.Outcome State Fault Refusal := s.ringLive (replyReceive f)
def execIdentReceive (f : NodeFrame) (s : State) : Host.Outcome State Fault Refusal := s.ringLive (identReceive f)
def execBadFrame (port : Fin 512) (why : BadFrame) (s : State) : Host.Outcome State Fault Refusal := s.ringLive (badFrame port why)
def execCommandLoopback (port : Fin 512) (seq : BitVec 32) (opcode : Byte) (s : State) : Host.Outcome State Fault Refusal :=
  s.ringLive (commandLoopback port seq opcode.toNat)

def execSymbolError (port : Fin 512) (symbol : Nat) (place : SymbolPlace) (s : State) :
    Host.Outcome State Fault Refusal := s.ringLive (symbolError port symbol place)
def execLosAssert (port : Fin 512) (s : State) : Host.Outcome State Fault Refusal := s.ringLive (losAssert port)
def execLosDeassert (port : Fin 512) (s : State) : Host.Outcome State Fault Refusal :=
  s.ringLive fun s => (losDeassert port s).checkScore port
def execPortOverrun (port : Fin 512) (orderedSet : Bool) (s : State) : Host.Outcome State Fault Refusal :=
  s.ringLive (portOverrun port orderedSet)
def execCalPassStart (string : Fin 256) (s : State) : Host.Outcome State Fault Refusal := s.ringLive (calPassStart string)
def execCalPassRetry (string : Fin 256) (s : State) : Host.Outcome State Fault Refusal := s.ringLive (calPassRetry string)
def execTimeRecalibrate (string : Fin 65536) (s : State) : Host.Outcome State Fault Refusal :=
  s.ringLive (timeRecalibrate string)

/-- ALERT_RECEIVE (R149, R166): the time of the occurrence is converted on receipt. -/
def alertExec (f : NodeFrame) (s : State) : State :=
  let (_, s) := s.convertShort (leAt f.payload 4 4) (f.port.val % 256)
  alertReceive f s
def execAlertReceive (f : NodeFrame) (s : State) : Host.Outcome State Fault Refusal := s.ringLive (alertExec f)

/-! ### Confirmed values (R212, R213) -/

/-- What follows the confirmation of a node's sample: the balancer's mask and protection's checks (R291, R294, R319). -/
def State.onConfirmed (n p : Nat) (x : ConfSample) (s : State) : State :=
  (s.balMeas n p x.instant (parseMeas x.payload)).protSample n p x.no x.payload

/-- Every node of a string whose newest confirmed sample differs from that of an earlier state. -/
def State.confirmedSince (s old : State) (n : Nat) : State :=
  s.each (s.nodesOf n) fun r s =>
    match s.newestSample (nodeInst n r.p) with
    | some x => if old.newestSample (nodeInst n r.p) = some x then s else s.onConfirmed n r.p x
    | none => s

/-- MEAS_RECEIVE (R203, R213, R214, R221, R539): what the Weir confirms goes on to its consumers, what it withdraws squashes
its readers, and a copy of a new sample is published provisionally. -/
def measExec (f : NodeFrame) (s : State) : State :=
  let n := f.port.val % 256
  let t : State := ((measReceive f s).confirmedSince s n).settleNotices
  if (t.strX n).snaps.any fun q => q.no == f.seq.toNat && !q.samples.isEmpty then t.publishProv n f.seq.toNat else t
def execMeasReceive (f : NodeFrame) (s : State) : Host.Outcome State Fault Refusal := s.ringLive (measExec f)

/-! ### FAULT (R88, R318, R329) -/

/-- FAULT_RECEIVE: the port records it, protection acts on a new episode, and the island at once. -/
def faultReceive (i cause hops : Nat) (s : State) : State :=
  let n := i % 256
  if s.link i ≠ Link.up then s
  else
    let pos := faultPosition i (s.ringN n) hops
    let new := !s.bit (Obj.port.portStatus i) 8
    let s := portFault i cause hops s
    let s := if new then s.protFault i pos else s
    s.islandFault n pos
def execFaultReceive (port : Fin 512) (cause : Fin 4) (hops : Fin 64) (s : State) : Host.Outcome State Fault Refusal :=
  s.live (faultReceive port cause hops)

/-! ### Retirement (R93, R104, R105, R108) -/

/-- TRAINING_FAILURE (R93, R104 reason 0x02). -/
def trainingFailure (i : Nat) (s : State) : State := if s.link i = Link.training then s.retirePort i 2 else s
def execTrainingFailure (port : Fin 512) (s : State) : Host.Outcome State Fault Refusal := s.ringLive (trainingFailure port)

/-- PORT_LOS_TIMEOUT (R104 reason 0x01). -/
def portLosTimeout (i : Nat) (s : State) : State :=
  if s.bit (Obj.port.portStatus i) 6 && !s.portRetired i && s.link i != Link.disabled then s.retirePort i 1 else s
def execPortLosTimeout (port : Fin 512) (s : State) : Host.Outcome State Fault Refusal := s.ringLive (portLosTimeout port)

/-- PORT_RETIRE (R104 reason 0x05, R106): accepted in any mode; a port already retired stays as it is. -/
def portRetire (i : Nat) : State → State := portCmd PortCmd.retire i fun s =>
  let s := s.accept (Obj.port.cmdStatus i) PortCmd.retire Oc.done
  if s.link i = Link.retired then s else s.retirePort i 5
def execPortRetire (port : Fin 512) (s : State) : Host.Outcome State Fault Refusal := s.ringLive (portRetire port)
def execPortRetrain (port : Fin 512) (s : State) : Host.Outcome State Fault Refusal :=
  s.ringLive fun s => (portRetrain port s).checkScore port

/-! ### NODE_CMD (R145, R147, R148, R160) -/

abbrev NodeCmd.identify : Nat := 1
abbrev NodeCmd.configure : Nat := 2
abbrev NodeCmd.clear : Nat := 3
abbrev NodeCmd.reset : Nat := 4
abbrev NodeCmd.clearCounters : Nat := 5

/-- The payload of CONFIGURE (R145), from the Catalogue. -/
def State.configPayload (r : NodeRec) (s : State) : List Byte :=
  leBytes r.string 2 ++ leBytes r.p 1 ++ leBytes (s.ringN r.string) 1 ++ leBytes (s.hostLossMs r.string) 2 ++ leBytes r.firstCell 2 ++
    leBytes r.cells 1 ++ leBytes r.temps 1 ++ [0, 0] ++ leBytes r.serial 4

/-- A NODE_CMD write reaching a node, asked by the request `host` (R160, R531). In group and all scope CLEAR leaves as one
command of the ring (R126), with the first node of the string. -/
def nodeCommand (n p code : Nat) (multi : Bool) (host : Option (Nat × Nat)) (s : State) : State :=
  match s.nodeRec n p with
  | none => s
  | some r =>
    let a := nodeInst n p
    let st := Obj.node.cmdStatus a
    let go (op : Nat) (scope : Scope) (payload : List Byte) : State :=
      (s.accept st code Oc.inProgress).request n op scope p payload (.nodeCmd code) host
    match code with
    | 1 => go Op.identify .single []
    | 2 => if (s.nodeX a).mismatched then s.refuse st code Oc.notReady else go Op.configure .single (s.configPayload r)
    | 3 =>
      if multi then
        (if (s.nodesOf n).all fun q => decide (p ≤ q.p) then go Op.clear .all [0x0F, 0, 0, 0] else s.accept st code Oc.inProgress)
      else go Op.clear .single [0x0F, 0, 0, 0]
    | 4 => go Op.resetNode .single []
    | 5 =>
      (State.clearAll [Obj.node.txns a, Obj.node.retries a, Obj.node.txnFailed a, Obj.node.lateReplies a, Obj.node.nodeDiscards a,
        Obj.node.safeEntries a] s).accept st code Oc.done
    | c => s.refuse st c Oc.badValue

def execNodeIdentify (node : NodeId) (s : State) : Host.Outcome State Fault Refusal :=
  s.ringLive (nodeCommand node.string node.p NodeCmd.identify false none)
def execNodeConfigure (node : NodeId) (s : State) : Host.Outcome State Fault Refusal :=
  s.ringLive (nodeCommand node.string node.p NodeCmd.configure false none)
def execNodeClear (node : NodeId) (s : State) : Host.Outcome State Fault Refusal :=
  s.ringLive (nodeCommand node.string node.p NodeCmd.clear false none)
def execNodeReset (node : NodeId) (s : State) : Host.Outcome State Fault Refusal :=
  s.ringLive (nodeCommand node.string node.p NodeCmd.reset false none)
def execNodeClearCounters (node : NodeId) (s : State) : Host.Outcome State Fault Refusal :=
  s.ringLive (nodeCommand node.string node.p NodeCmd.clearCounters false none)

/-- AUTO_CONFIGURE (R145): CONFIGURE goes to every node that reports UNCONFIGURED in a confirmed MEAS and whose IDENT matched,
unless one is on its way. -/
def State.autoConfigure (n : Nat) (s : State) : State :=
  if s.commander then
    s.each (s.nodesOf n) fun r s =>
      let a := nodeInst n r.p
      let pending (op : Nat) : Bool :=
        (s.ring.queue ++ s.ring.held ++ s.ring.txns.map Txn.req).any fun q => q.string == n && q.target == r.p && q.opcode == op
      match s.newestSample a with
      | some x =>
        if (parseMeas x.payload).state = 1 ∧ (s.nodeX a).identOk ∧ !pending Op.configure then
          s.request n Op.configure .single r.p (s.configPayload r) .autoConfig none
        else s
      | none => s
  else s

/-! ### SNAPSHOT_CLOSE (R205, R217) -/

/-- A string whose estimation has been updated: the next AGREE_DIGESTS carries its digest (R255). -/
def State.noteEst (n : Nat) (s : State) : State := { s with red := { s.red with estDone := (s.red.estDone.filter (· != n)) ++ [n] } }

/-- The work on a closed snapshot, in its order: sensors, near limits, estimation, learning, the thermal level, nodes to be
configured; what was withdrawn squashes its readers. -/
def State.useSnapshot (n : Nat) (q : Snap) (s : State) : State :=
  let (q, s) := s.thermSensors n q
  let s := (s.scanNear n q).estMeasure n q
  let s := s.estCurrent n q
  let (r, s) := s.estUpdate n q
  let s := s.learnCurrent n q
  let s := if r.isSome then (s.learnUpdate n q).noteEst n else s
  (((s.thermEvaluate n q).tighten n).autoConfigure n).settleNotices

end Sys2Proof.Machine
end

