-- ==== Sys2Proof/Machine/RedBase.lean ====
section
/-!
DEFINITION. The pair as a module sees it: OWN and its line, the partner's state, compatibility, health (R17, R485 to R489,
R500 to R504).
-/

namespace Sys2Proof.Machine

def State.modRed (f : RedUnit → RedUnit) (s : State) : State := { s with red := f s.red }
def State.modSys (f : Sys → Sys) (s : State) : State := { s with sys := f s.sys }

/-- The cross-link path and the interlock path are audible (R485). -/
def State.xHeard (s : State) : Bool := s.bit Obj.red.redStatus 17
def State.ilHeard (s : State) : Bool := s.bit Obj.red.redStatus 18
def State.partnerAlive (s : State) : Bool := s.xHeard || s.ilHeard

/-- REDUNDANCY of the Catalogue in force, or its defaults (R46, R70). -/
def State.redRec (s : State) : RedundancyRec :=
  match s.catOf with
  | some c => c.redundancy
  | none => { role := 0, healthMin := 80, hbTimeout := 1500, pairIndex := 0, workers := 0, dispatchHold := 10000, hierTimeout := 50000 }

/-- HB_TIMEOUT, ns. -/
def State.hbTimeout (s : State) : Nat := s.redRec.hbTimeout * 1000

/-! ### The partner's heartbeat as received -/

/-- The partner's mode code, 0xF where it is not known. -/
def State.partnerMode (s : State) : Nat := match s.red.partner with | some b => bitsOf 3 0 b.mode | none => 0xF
def State.partnerIn (s : State) (m : Mode) : Bool := s.partnerMode == m.code
/-- The partner's own score and its conditions. -/
def State.partnerScore (s : State) : Nat := match s.red.partner with | some b => bitsOf 7 0 b.health | none => 0

/-- HEALTH (R30, R502): the own score stands in [7:0]; the partner's reads 0 while the cross-link path is silent with the
interlock path audible, and 0xFF with no partner. -/
def State.showPartnerHealth (s : State) : State :=
  s.wrBits Obj.mod.health 15 8 (if s.xHeard && s.red.partner.isSome then s.partnerScore else if s.partnerAlive then 0 else 0xFF)

/-- MODE.LOCKSTEP (R489). -/
def State.lockstepNow (s : State) : Bool :=
  match s.sys.mode with
  | .standby => true
  | .active => s.partnerIn .standby
  | _ => false

/-- Whether the agreement is current (R489, R494): on a standby that follows it, on an active module whose partner does. -/
def State.agreeNow (s : State) : Bool :=
  s.lockstepNow && s.xHeard && (match s.sys.mode with
    | .standby => !s.bit Obj.red.redStatus 25 && s.red.join.isNone
    | _ => match s.red.partner with | some b => !bitAt 0 b.healthWord | none => false)

/-- RED_STATUS (R514) and MODE.LOCKSTEP as they stand. -/
def State.showRed (s : State) : State :=
  let a := Obj.red.redStatus
  let s := s.modSys fun y => { y with lockstep := s.lockstepNow }
  let s := (s.wrBits a 31 28 s.partnerMode).wrBit a 27 (match s.red.partner with | some b => bitAt 14 b.mode | none => false)
  let s := ((s.wrBit a 24 s.red.join.isSome).wrBit a 23 s.agreeNow).wrBit a 20 s.sys.peerOwn
  ((s.wrBit a 19 s.sys.cable).wrBits a 7 0 s.redRec.healthMin).showPartnerHealth

/-! ### Compatibility (R503, R504) -/

/-- The running image's FW_VERSION. -/
def State.fwWord (s : State) : Nat := (s.rd Obj.mod.fwVersion).toNat

/-- A word of the Catalogue in force, 0 without one. -/
def State.catWord (s : State) (f : CatHead → Nat) : Nat := match s.catOf with | some c => f c.head % 2 ^ 32 | none => 0

/-- HEARTBEAT as this module sends it (R483). -/
def State.heartbeat (s : State) : PartnerBeat where
  mode := s.modeWord
  health := s.rd Obj.mod.health
  healthWord := s.rd Obj.red.healthWord
  fw := s.rd Obj.mod.fwVersion
  catalogueId := w32 (s.catWord CatHead.catalogueId)
  revision := w32 (s.catWord CatHead.revision)
  structDigest := w32 (s.catWord fun h => h.structDigest.toNat)
  retainDigest := w32 (s.catWord fun h => h.retainDigest.toNat)
  progDigest := w32 (s.catWord fun h => h.progDigest.toNat)
  safetyCrc := w32 (s.catWord CatHead.safetyCrc)
  serial := s.rd Obj.mod.serial
  timeStatus := putBit 4 s.leader (s.rd Obj.time.timeStatus)

/-- COMPAT (R503, R514): bit i + 1 for the i-th check, and PARTNER_SEEN. Bit 3 shows equal minor versions. -/
def compatWord (own peer : PartnerBeat) : Nat :=
  let l := [bitAt 14 own.mode != bitAt 14 peer.mode, bitsOf 31 24 own.fw == bitsOf 31 24 peer.fw,
    bitsOf 23 16 own.fw == bitsOf 23 16 peer.fw, own.catalogueId == peer.catalogueId, own.structDigest == peer.structDigest,
    own.retainDigest == peer.retainDigest, own.progDigest == peer.progDigest, own.safetyCrc == peer.safetyCrc]
  1 + (l.zipIdx.map fun x => x.1.toNat * 2 ^ (x.2 + 1)).foldl (· + ·) 0

/-- The checks of a join (R503) against the last heartbeat: a failing one answers false with event 0x1AF, and a conflict of
unit identity raises 0x1BA; differences in the last four rows raise event 0x02A. -/
def State.checkJoin (s : State) : Bool × State :=
  match s.red.partner with
  | none => (false, s)
  | some b =>
    let w := compatWord s.heartbeat b
    let s := s.wr Obj.red.compat (w32 w)
    let on (i : Nat) : Bool := w / 2 ^ i % 2 == 1
    let s := if on 1 then s else (s.flag Obj.red.redFlags 8).raise 0x1BA 0 s.unit 0 0
    let s := if on 5 && on 6 && on 7 && on 8 then s
      else s.raise 0x02A 0 (s.catWord CatHead.revision) b.revision.toNat (on 5).toNat
    if on 1 && on 2 && on 4 && on 5 then (true, s)
    else (false, (s.flag Obj.red.redFlags 7).raise 0x1AF 0 w b.fw.toNat b.revision.toNat)

/-- FW_DIFFERS (R504): minor versions differ while a partner is heard; event 0x1BC at entry and exit. -/
def State.showFwDiffers (s : State) : State :=
  let now := s.pairRole && (match s.red.partner with | some b => bitsOf 23 16 b.fw != bitsOf 23 16 (s.rd Obj.mod.fwVersion) | none => false)
  if s.bit Obj.red.redStatus 26 = now then s
  else (s.wrBit Obj.red.redStatus 26 now).raise 0x1BC 0 s.fwWord (s.rd Obj.red.partnerFw).toNat now.toNat

/-! ### Health (R500 to R502) -/

/-- The conditions of R500 with their deductions: HEALTH_WORD bit, and points; bits 0 and 16 give score 0 outright. X0, X1
and the interlock path count in a pair role. -/
def State.healthParts (s : State) : List (Nat × Nat) :=
  let n (l : List Nat) (p : Nat → Bool) : Nat := (l.filter p).length
  let pair := s.pairRole
  let lanes := 16 - n (List.range 16) (fun l => s.bit Obj.imp.arrayStatus l)
  let ports := s.strings.flatMap fun k => [k, 256 + k]
  let badPorts := n ports fun i => s.portRetired i || s.bit (Obj.port.portStatus i) 7
  let io := n (List.range 256) (fun c => s.bit (Obj.di.diStatus c) 2) + n (List.range 128) (fun c => s.bit (Obj.dout.doStatus c) 3) +
    n (List.range 64) (fun c => s.bit (Obj.ao.aoStatus c) 3)
  let stops := n [0, 1] fun p => (s.st p).retired.isSome
  let plant := (List.range 4).map fun k =>
    let down (p : Nat) : Bool := s.plantPort p && !s.bit (Obj.nport.nportStatus p) 3
    match down (2 * k), down (2 * k + 1) with
    | true, true => 20
    | false, false => 0
    | _, _ => 5
  let recent := match s.red.testFailedAt with | some t => decide (s.up ≤ t + 86400000000000) | none => false
  let dram : Nat := (s.red.dramErrs.filter fun e => decide (s.up ≤ e.1 + 86400000000000)).foldl (fun k e => k + e.2) 0
  let level := s.modLevel
  [(1, if pair && !s.bit Obj.red.redStatus 15 then 10 else 0), (2, if pair && !s.bit Obj.red.redStatus 16 then 10 else 0),
   (3, if pair && s.red.ilFault.isSome then 25 else 0), (4, 10 * lanes), (5, min 30 (2 * badPorts)),
   (6, 15 * n (List.range 16) s.busRetired), (7, min 30 (2 * io)), (8, 15 * n (List.range 4) fun f => !s.supplyOk f),
   (9, 10 * stops), (10, plant.foldl (· + ·) 0), (11, if level = 1 then 10 else 0), (12, if level = 2 then 40 else 0),
   (13, if s.bit Obj.pwr.pwrStatus 0 && s.bit Obj.pwr.pwrStatus 1 then 0 else 5), (14, if recent then 40 else 0),
   (15, if 24 < dram then 10 else 0)]

/-- HEALTH_WORD and the own score. -/
def State.healthNow (s : State) : Nat × Nat :=
  let l := s.healthParts
  let zero := (s.sys.mode == .standby && s.red.detached) || s.red.join.isSome
  let word := zero.toNat + (l.filter fun x => x.2 != 0).foldl (fun w x => w + 2 ^ x.1) 0 + s.red.digestBad.toNat * 2 ^ 16
  (word, if zero || s.red.digestBad then 0 else 100 - l.foldl (fun k x => k + x.2) 0)

/-- HEALTH_COMPUTE (R500, R502): the score of a protection cycle; event 0x1B0 below HEALTH_MIN, 0x1B1 back at it. -/
def State.updateHealth (s : State) : State :=
  let (word, score) := s.healthNow
  let s := ((s.wr Obj.red.healthWord (w32 word)).wrBits Obj.mod.health 7 0 score).showPartnerHealth
  let low := decide (score < s.redRec.healthMin)
  if low = s.red.healthLow then s
  else
    let s := s.modRed fun u => { u with healthLow := low }
    if low then (s.flag Obj.red.redFlags 5).raise 0x1B0 0 score word 0 else s.raise 0x1B1 0 score 0 0

/-! ### OWN (R17, R486, R487) -/

/-- OWN changes hands (R513): the time is kept. -/
def State.setOwn (on : Bool) (s : State) : State :=
  if s.sys.own = on then s else (s.modSys fun y => { y with own := on }).wr64 Obj.red.ownTime s.now

/-- The module asserts its line where the peer's reads de-asserted (R486); unit B withdraws it again where unit A's line has
become asserted 2 µs later. -/
def State.assertOwn (peerAfter : Bool) (s : State) : State :=
  if !s.pairRole || s.sys.own || s.sys.peerOwn then s
  else if s.sys.unitB && peerAfter && s.sys.cable then s.modSys fun y => { y with peerOwn := true }
  else s.setOwn true

/-- A capture of what the partner's PARTNER_LOST ends (R485): nothing of the partner is known. -/
def State.forgetPartner (s : State) : State :=
  (s.modRed fun u => { u with partner := none, rxNext := none }).showFwDiffers.showRed

end Sys2Proof.Machine
end

