-- ==== Sys2Proof/Machine/FwImage.lean ====
section
/-!
DEFINITION. Firmware images and the start sequence (R583 to R585, R599, R600, R605, R606), the Catalogue slots and the
running copy (R35, R36, R66, R70, R73, R590).
-/

namespace Sys2Proof.Machine

/-! ### Slots of flash -/

/-- The bytes of a slot up to its last written page; a page not written reads as blank flash. -/
def slotBytes (pages : List (Nat × List Byte)) : List Byte :=
  let n := pages.foldl (fun m p => max m (p.1 + 1)) 0
  (List.range n).flatMap fun i => match pages.find? (fun p => p.1 == i) with
    | some p => p.2
    | none => List.replicate 4096 Config.blankFlashByte

/-- The slot that a selection record names: the copy with the higher valid count (R36, R583). -/
def selected (a b : SelCopy) : Nat := if a.valid && (!b.valid || decide (b.count ≤ a.count)) then a.slot else b.slot

/-- The record flipped to a slot: the older copy is written, with the next count. -/
def reselect (a b : SelCopy) (slot : Nat) : SelCopy × SelCopy :=
  if a.valid && (!b.valid || decide (b.count ≤ a.count)) then (a, ⟨slot, a.count + 1, true⟩) else (⟨slot, b.count + 1, true⟩, b)

/-! ### Firmware slots (R599 to R601) -/

def State.setFwSlot (k : Nat) (f : FwSlot → FwSlot) (s : State) : State :=
  s.modUpd fun u => if k = 0 then { u with slotA := f u.slotA } else { u with slotB := f u.slotB }

/-- The fields of an image's header and trailer. -/
def fwHead (b : List Byte) : FwHead :=
  let tr := leAt b 0x18 4 - 256
  { version := leAt b 0xC 4, svn := byteAt b 0x10, isa := leAt b 0x14 2, length := leAt b 0x18 4, buildTime := leAt b 0x20 8
    keyId := leAt b (tr + 8) 8, digest := digestAt b (tr + 0x10) }

/-- Steps 1 to 9 of R600: REJECT, or 0. -/
def fwImageCheck (floor revision : Nat) (b : List Byte) : Nat :=
  let len := leAt b 0x18 4
  let tr := len - 256
  let key := [2, 3].find? fun k => keyIdOf (Config.firmwareKey k) == leAt b (tr + 8) 8
  if leAt b 0 4 ≠ 0x49574647 then 0x01
  else if byteAt b 5 ≠ 1 then 0x02
  else if leAt b 0xFC 4 ≠ crc32c (b.take 0xFC) then 0x03
  else if len < 8192 ∨ 536870912 < len ∨ leAt b tr 4 ≠ 0x47495347 then 0x04
  else if leAt b 8 4 ≠ 0x4750 then 0x05
  else if revision < byteAt b 0x11 ∨ byteAt b 0x12 < revision then 0x06
  else if digestAt b (tr + 0x10) ≠ Config.sha384 (b.take tr) then 0x07
  else match key with
    | none => 0x08
    | some k =>
      if Config.ecdsaVerify (Config.firmwareKey k) (b.take tr) (sliceOf b (tr + 0x40) 96) = false then 0x09
      else if byteAt b 0x10 < floor then 0x0A else 0

/-- Steps 1 to 9 on a slot. The image shipped passes all but step 9 by itself (log 7). -/
def State.fwSlotCheck (s : State) (k : Nat) : Nat :=
  let x := s.upd.slot k
  if x.factory then (if ((x.head.getD .factory).svn) < s.upd.floor then 0x0A else 0)
  else fwImageCheck s.upd.floor (s.bits Obj.mod.ident 7 0) (slotBytes x.pages)

/-- The header a slot holds. -/
def FwSlot.header (x : FwSlot) : FwHead := if x.factory then x.head.getD .factory else fwHead (slotBytes x.pages)

/-- Step 11 of R600: the current Catalogue runs under the image. -/
def State.fwServesCatalogue (s : State) (h : FwHead) : Bool :=
  match s.catOf with
  | none => true
  | some c => decide (c.head.minFw ≤ h.version) && c.codes.all fun r => decide (r.isa ≤ h.isa)

/-- The slot becomes the running one (R583): IN_USE, its version shown. -/
def State.takeFw (k : Nat) (s : State) : State :=
  let h := (s.upd.slot k).header
  let s := s.setFwSlot k fun x => { x with state := 6, reject := 0, previous := false, head := some h }
  let s := s.setFwSlot (1 - k) fun x => if x.state = 6 then { x with state := 3 } else x
  (s.modUpd fun u => let (a, b) := if selected u.selA u.selB = k then (u.selA, u.selB) else reselect u.selA u.selB k
                     { u with selA := a, selB := b }).wr Obj.mod.fwVersion (w32 h.version)

/-- FW_FALLBACK (R605): the selection flips to slot `k`; MR7, flag, count and event 0x1E6. -/
def State.fwFallback (k cause : Nat) (s : State) : State :=
  let s := if cause = 2 then s.setFwSlot (1 - k) fun x => { x with state := 4, reject := s.fwSlotCheck (1 - k), previous := false }
    else s.setFwSlot (1 - k) fun x => { x with state := 3, previous := false }
  let s := (s.modUpd fun u => { u with trial := false }).takeFw k
  let s := (s.extend 7 Mk.fallback (s.upd.slot k).header.digest).flag Obj.upd.updFlags 1
  (s.count Obj.upd.fallbacks 1).raise 0x1E6 0 (1 - k) cause (s.upd.slot k).header.version

/-- MR1 and MR6 for the slot that starts (R583 step 3). -/
def State.measureFw (s : State) : State :=
  (s.extend 1 Mk.firmware s.upd.runningFw.digest).measureSvn s.upd.runningFw.svn

/-- Steps 2 to 5 of R583: the selected slot starts, or the other one by R605, or the module stays in recovery (R606).
`fatal` says that a FATAL led here, `locked` that step 10 of R600 passes on the selected slot's copy. -/
def State.selectFw (fatal locked : Bool) (s : State) : State :=
  let k := s.upd.running
  let ok (j : Nat) : Bool := (s.upd.slot j).state != 0 && (s.upd.slot j).state != 5 && s.fwSlotCheck j == 0
  let s := s.modSys fun y => { y with recovery := false }
  if fatal && s.upd.trial && ok (1 - k) then (s.fwFallback (1 - k) 1).measureFw
  else if ok k && locked then (s.takeFw k).measureFw
  else if ok (1 - k) then (s.fwFallback (1 - k) 2).measureFw
  else s.modSys fun y => { y with recovery := true }

/-- START_SEQUENCE (R583) up to the release of the cores; a check or an activation under way ended with the supply or the
reset. -/
def State.startSequence (fatal : Bool) (s : State) : State :=
  let settle (x : FwSlot) : FwSlot := if x.state = 2 ∨ x.state = 5 then { x with state := 1 } else x
  let s := s.modUpd fun u =>
    { u with activation := none, slotA := settle u.slotA, slotB := settle u.slotB, trialUsed := u.trialUsed + (s.up - u.trialAt), trialAt := s.up }
  s.measureRom.selectFw fatal true

/-! ### Catalogue slots (R35, R36, R72, R73) -/

def State.modCat (f : CatUnit → CatUnit) (s : State) : State := { s with cat := f s.cat }

/-- The physical slots that are current and pending. -/
def State.currentPhys (s : State) : Nat := selected s.cat.selA s.cat.selB
def State.slotImage (s : State) (phys : Nat) : SlotImage := if phys = 0 then s.cat.slot0 else s.cat.slot1
def State.setSlotImage (phys : Nat) (x : SlotImage) (s : State) : State :=
  s.modCat fun u => if phys = 0 then { u with slot0 := x } else { u with slot1 := x }
/-- The image bytes in the current (0) or pending (1) slot. -/
def State.catBytes (s : State) (i : Nat) : List Byte :=
  slotBytes (s.slotImage (if i = 0 then s.currentPhys else 1 - s.currentPhys)).pages

abbrev Cs.empty : Nat := 0
abbrev Cs.written : Nat := 1
abbrev Cs.checking : Nat := 2
abbrev Cs.valid : Nat := 3
abbrev Cs.invalid : Nat := 4
abbrev Cs.erasing : Nat := 5
abbrev Cs.inUse : Nat := 6

def State.catState (s : State) (i : Nat) : Nat := s.bits (Obj.slot.slotStatus i) 7 0
def State.setCatState (i v : Nat) (s : State) : State := s.wrBits (Obj.slot.slotStatus i) 7 0 v

/-- Header-derived items of a slot, or 0 (R72). -/
def State.showSlot (i : Nat) (h : Option CatHead) (s : State) : State :=
  match h with
  | none => State.clearAll (((List.range 8).map fun k => Obj.slot.catalogueId i + k) ++ ((List.range 24).map fun k => Obj.slot.structDigest i + k)) s
  | some h =>
    let s := (((s.wr64 (Obj.slot.catalogueId i) h.catalogueId).wr (Obj.slot.revision i) (w32 h.revision)).wr
      (Obj.slot.length i) (w32 h.imageLength)).wr64 (Obj.slot.buildTime i) h.buildTime
    let s := (s.wr (Obj.slot.minFw i) (w32 h.minFw)).wr (Obj.slot.safetyCrc i) (w32 h.safetyCrc)
    let words (d : Digest) : List Word := (List.range 12).map fun k => w32 (d.toNat / 2 ^ (32 * k))
    (s.wrList (Obj.slot.structDigest i) (words h.structDigest)).wrList (Obj.slot.retainDigest i) (words h.retainDigest)

/-- REJECT, REJECT_WHERE and REJECT_RECORD of a slot (R72, R73). -/
def State.showReject (i : Nat) (r : Option Reject) (s : State) : State :=
  match r with
  | none => ((s.wrBits (Obj.slot.slotStatus i) 23 16 0).wr (Obj.slot.rejectWhere i) 0).wr (Obj.slot.rejectRecord i) 0
  | some r =>
    ((s.wrBits (Obj.slot.slotStatus i) 23 16 r.code).wr (Obj.slot.rejectWhere i) (w32 (r.sec * 65536 + r.off))).wr
      (Obj.slot.rejectRecord i) (w32 r.record)

/-- STRUCT_SAME, RETAIN_SAME and SAFETY_DIFF of the pending slot against the image in force (R73). -/
def State.showSame (s : State) : State :=
  let a := Obj.slot.slotStatus 1
  let st := s.catState 1
  if st = Cs.valid ∨ st = Cs.invalid ∨ st = Cs.checking then
    let h := (decodeCatalogue (s.catBytes 1)).head
    match s.catOf with
    | none => (s.wrBits a 11 10 0).wrBit a 9 true
    | some c =>
      ((s.wrBit a 11 (h.structDigest == c.head.structDigest)).wrBit a 10 (h.retainDigest == c.head.retainDigest)).wrBit a 9
        (h.safetyCrc != c.head.safetyCrc)
  else (s.wrBits a 11 10 0).wrBit a 9 s.catOf.isNone

/-- What a check of an image needs: for the pending slot the keys of slots 4 and 5 as they stand, at BOOT the activation
shadow and the island's copy (R590). -/
def State.checkEnv (s : State) (pending : Bool) : CheckEnv :=
  { fw := s.upd.runningFw.version, isa := s.upd.runningFw.isa
    catKey := if pending then s.slotPub 4 else s.sec.shadow
    safetyKey := if pending then s.slotPub 5 else s.island.safetyKey }

/-- The copy of the current image at BOOT (R35, R70): in force where it passes its check, else event 0x026. -/
def State.loadCatalogue (s : State) : State :=
  let b := s.catBytes 0
  let empty := decide (b.length < 8192)
  let verdict := if empty then some ⟨1, 0, 0, 0⟩ else validateImage (s.checkEnv false) b
  match verdict with
  | none =>
    let c := decodeCatalogue b
    (((s.modCat fun u => { u with cat := some c, activation := none }).setCatState 0 Cs.inUse).showReject 0 none).showSlot 0 (some c.head) |>.showSame
  | some r =>
    let s := s.modCat fun u => { u with cat := none, activation := none }
    let s := if s.catState 0 = Cs.empty then s else ((s.setCatState 0 Cs.invalid).showReject 0 (some r))
    s.showSame.raise 0x026 0 (if s.catState 0 = Cs.empty then 0 else r.code) 0 0

/-- A slot that was being checked or erased when the supply was lost reads WRITTEN (R65, R73). -/
def State.settleSlots (s : State) : State :=
  let st := s.catState 1
  if st = Cs.checking ∨ st = Cs.erasing then (s.setCatState 1 Cs.written).showSlot 1 none else s

/-- MR2 to MR5 and event 0x1E0 (R583 step 6). -/
def State.measureBoot (s : State) : State :=
  let s := match s.catOf with
    | none => s
    | some c =>
      let b := s.catBytes 0
      let safety := match findSec (secTable b) 0x15 with | some e => secBytes b e | none => []
      (s.extend 2 Mk.catalogue c.head.imageDigest).extend 3 Mk.safety (Config.sha384 safety)
  let keys := (List.range 15).flatMap fun k => leBytes (s.keyKind (k + 1)) 1 ++ leBytes (s.keyIdOf (k + 1)) 8
  let s := s.extend 4 Mk.keys (Config.sha384 keys)
  let s := s.extend 5 Mk.config (Config.sha384 (leBytes s.unit 1 ++ leBytes s.role 1 ++ leBytes 1 1))
  s.raise 0x1E0 0 s.upd.runningFw.version s.upd.running s.upd.runningFw.svn

end Sys2Proof.Machine
end

