-- ==== Sys2Proof/Machine/Starts.lean ====
section
/-!
DEFINITION. Mode entry, what a transition discards, the warm and the cold start, POWER_UP, BOOTED, FATAL and SUPPLY_LOST
(R13 to R29, R194, R225, R257, R282, R308, R328, R340, R379, R457, R477, R562, R563, R578, R583, R606, R619, R640).
-/

namespace Sys2Proof.Machine

/-! ### Mode commands and their status (R24, R33, R661) -/

/-- A refused mode command: status and event 0x002 (R34). -/
def State.modeRefused (cmd outcome : Nat) (s : State) : State :=
  (s.refuse Obj.mod.cmdStatus cmd outcome).raise 0x002 s.unit cmd outcome s.sys.mode.code

/-- An accepted mode command. -/
def State.modeAccept (cmd outcome : Nat) (s : State) : State := s.accept Obj.mod.cmdStatus cmd outcome

/-- The outcome of a mode command in progress; without one nothing changes. -/
def State.modeDone (outcome : Nat) (s : State) : State :=
  if s.bits Obj.mod.cmdStatus 15 8 = Oc.inProgress then s.setOutcome Obj.mod.cmdStatus outcome else s

/-- A mode command in progress that ends refused: event 0x002 with it. -/
def State.modeFailed (outcome : Nat) (s : State) : State :=
  if s.bits Obj.mod.cmdStatus 15 8 = Oc.inProgress then
    (s.setOutcome Obj.mod.cmdStatus outcome).raise 0x002 s.unit (s.bits Obj.mod.cmdStatus 7 0) outcome s.sys.mode.code
  else s

def State.setTrans (t : Trans) (trig : Trigger) (s : State) : State := s.modSys fun y => { y with trans := t, transTrig := trig }

/-- A transition abandoned by a trigger that acts at once (R27): event 0x001, the command aborted. -/
def State.abortTrans (t : Trigger) (resulting : Mode) (s : State) : State :=
  if s.sys.trans = .none then s
  else
    let s := s.raise 0x001 s.unit s.sys.trans.code t.code resulting.code
    (s.modSys fun y => { y with trans := .none, switchDue := false, switchToStop := false }).modeDone Oc.aborted

/-! ### What a transition discards (R25, R531, R619) -/

/-- Uncommitted work discarded, by cause 2 switch-over, 3 warm restart or firmware pause, 5 LOCKOUT. With `before` only the ring
work asked for before that identifier is discarded: that of the ending cycle commits first (R497). -/
def State.discardWork (cause : Nat) (before : Option Nat) (s : State) : State :=
  let (_, s) := s.discardJobs fun _ => true
  let old (id : Nat) : Bool := match before with | none => true | some b => decide (id < b)
  let s := s.each (s.ring.txns.filter fun t => old t.req.id) (State.discardTxn cause)
  let s := s.each ((s.ring.queue ++ s.ring.held).filter fun r => old r.id) (State.discardReq cause)
  let s := s.discardRequests (if cause = 5 then 4 else cause)
  let s := s.each s.strings fun n s => s.recordAbandoned n 5
  if cause = 2 then s else s.discardSnaps

/-! ### Entering a mode -/

/-- Enters a mode (R23, R30, R34): event 0x000 and MODE_TIME; plant tasks halt or may be released (R379); LOCKOUT discards
the uncommitted work and opens every contactor (R25, R319); DORMANT is preceded by a checkpoint (R254). -/
def State.enterMode (m : Mode) (t : Trigger) (s : State) : State :=
  let old := s.sys.mode
  if old = m then s
  else
    let s := s.modSys fun y => { y with prev := old, mode := m, partnerWait := false }
    let s := (s.wr64 Obj.mod.modeTime s.now).raise 0x000 s.unit old.code m.code t.code
    let s := match m with
      | .lockout => (let s := s.discardWork 5 none; if old.running then s.haltPlant m else s).protLockout
      | .dormant => checkpointWrite true (s.modSched fun u => { u with draining := false, outHold := true })
      | .stop | .service => if old.running then s.haltPlant m else s
      | _ => if m.running && !old.running then s.enterRunning else s
    s.balModeExit.showRed

/-! ### The warm restart (R28) and the firmware pause (R603) -/

/-- Every session and Modbus connection is closed (R28), cause 5. -/
def State.dropSessions (s : State) : State :=
  let s := s.each (s.net.sessions.map Prod.fst) fun i s => s.closeSession i 5
  s.each s.net.modbus fun k s => (connectionLost (.modbus (Fin.ofNat 8 k)) s).emit (.closed (.modbus (Fin.ofNat 8 k)))

/-- RESTARTS and LAST_RESTART (R33): kind 0 power-up, 1 warm, 2 cold. -/
def State.noteRestart (cause kind : Nat) (s : State) : State :=
  let a := Obj.mod.restarts
  let s := if kind = 1 then s.wrBits a 15 0 (satAdd 65535 (s.bits a 15 0) 1) else s.wrBits a 31 16 (satAdd 65535 (s.bits a 31 16) 1)
  s.wr Obj.mod.lastRestart (w32 (cause * 256 + kind))

/-- A running self-test ends with the restart; its channel stays retired (R28, R625). -/
def State.endSelfTests (s : State) : State :=
  let s := s.each (allPorts.filter fun i => s.link i == Link.selfTest) fun i s => s.setLink i Link.retired
  s.modArc fun u => { u with ports := u.ports.map fun x => (x.1, { x.2 with testing := false }) }

/-- A warm restart or firmware pause begins (R25, R28, R225, R457, R477, R578). -/
def State.warmStart (trans : Trans) (cause : Nat) (s : State) : State :=
  let s := (s.discardWork 3 none).dropSessions
  let s := checkpointWrite true s
  let s := ((s.canWarmStart.ioWarmStart.archiveStart true).loadTasks false).endSelfTests
  let s := s.modSec fun u => { u with gcmStaged := [] }
  let s := (s.noteRestart cause 1).modSys fun y => { y with restart := { y.restart with cold := false, cause := cause } }
  s.flushAll.setTrans trans .restart

/-- DRAM state as a warm restart finds it (R28, R257, R282, R308): kept where its check passes. -/
def State.keepDram (ok : Bool) (s : State) : State :=
  if ok then s
  else
    let s := s.each s.strings fun n u => u.disqualify n 0x0C true (u.cellIdxOf n)
    let s := s.modEst fun u => { u with cells := [], strs := [] }
    let s := s.modLearn fun u => { u with cells := [], strs := [], waiting := [] }
    let s := s.modTherm fun u => { u with cells := [], nodes := [], bals := [] }
    s.each s.strings fun n u => u.setStrProt n fun y => { y with runs := [] }

/-- A warm restart ends (R28, R578): event 0x003. -/
def State.warmFinish (dramOk : Bool) (s : State) : State :=
  let hasRet := match s.catOf with | some c => c.hasRetained | none => false
  let s := (s.initPrograms false).keepDram dramOk
  let kept := !hasRet || s.bit Obj.sched.schedStatus 5
  let s := (((s.ringsStart dramOk).loopStart false).loadTasks true)
  let s := s.modScan fun u => { u with strs := u.strs.map fun x => (x.1, { x.2 with nextWindow := none }) }
  s.raise 0x003 s.unit s.sys.restart.cause kept.toNat dramOk.toNat

/-! ### The cold start (R28, R583) -/

/-- Whether a key of the object store outlives a cold start: the objects whose table says that they are kept, and those whose
spaces settle it themselves. -/
def keptKey (a : Nat) : Bool :=
  decide (a < 2 ^ 32) &&
    ([0x0C, 0x0E, 0x0F].contains (a / 2 ^ 24) || (match objDefAt a with | some d => d.kept | none => false))

/-- Clears what no cold start keeps (R28 and the start tables of the chapters). `power` says that the supply was gone, so that
Module Time and the servo frequency go too (R194). -/
def State.coldClear (power : Bool) (s : State) : State :=
  let limit := s.bits Obj.mod.faults 1 1
  let retired := (allPorts.filter s.portRetired).map fun i => (i, s.bits (Obj.port.portStatus i) 23 16)
  let si := (List.range 32).map fun c => (c, s.bits (Obj.si.siStatus c) 1 0)
  let pw := s.bits Obj.pwr.pwrStatus 3 0
  let shut := s.bit Obj.pwr.pwrFlags 4
  let freq := s.rd Obj.time.freq
  let first := s.bit Obj.time.timeStatus 9
  let s := s.taskColdStart.ioColdStart.canColdStart
  let s := { s with regs := s.regs.filter fun x => keptKey x.1 }
  let s := s.each retired fun r s => (s.wrBits (Obj.port.portStatus r.1) 23 16 r.2).wrBits (Obj.port.portStatus r.1) 3 0 Link.retired
  let s := s.each si fun r s => s.wrBits (Obj.si.siStatus r.1) 1 0 r.2
  let s := ((s.wrBits Obj.mod.faults 1 1 limit).wrBits Obj.pwr.pwrStatus 3 0 pw).wrBit Obj.pwr.pwrFlags 4 shut
  let s := if power then s else (s.wr Obj.time.freq freq).wrBit Obj.time.timeStatus 9 first
  let s := if power then { s with now := s.time.saved } else s
  let s := { s with
    ring := { ports := [], rings := [], nodes := [], queue := [], held := [], txns := [], ended := [], results := []
              nextId := s.ring.nextId, localCount := s.ring.localCount, indexUsed := [], staged := [], cmdBytes := [] }
    time := { TimeUnit.initial with saved := s.time.saved, freqs := if power then [] else s.time.freqs }
    scan := .initial
    est := { EstUnit.initial with ckpt0 := s.est.ckpt0, ckpt1 := s.est.ckpt1 }
    learn := .initial
    therm := .initial
    sched := { SchedUnit.initial with retained := s.sched.retained, retainDigest := s.sched.retainDigest, pagesOk := s.sched.pagesOk
                                      journal := s.sched.journal }
    pwr := { PwrUnit.initial with clockFault := s.pwr.clockFault }
    net := { NetUnit.initial with rings := s.net.rings, nextReq := s.net.nextReq, nextSub := s.net.nextSub, workerNo := s.net.workerNo
                                  prpPub := s.net.prpPub, prpIdentity := s.net.prpIdentity, prpUnit := s.net.prpUnit }
    red := { RedUnit.initial with msgSeq := s.red.msgSeq } }
  let s := s.modSec fun u => { u with staged := [], quotes := [], gcmStaged := [], rejects := [], rejectAt := [], anchorsGone := [] }
  let s := s.modIsland fun u =>
    { u with running := false, funcs := [], sis := [], sqs := [], notice := none, nonce := none, session := none, fails := [], blocked := false }
  ((s.ringsStart false).archiveStart false).refreshSq

/-- Ports and ring states of the Catalogue in force (R107): enabled ports that were DISABLED train. -/
def State.portsConfigure (s : State) : State :=
  let s := s.each allPorts fun i s =>
    if s.portRetired i then s
    else if s.portEnabled i then
      (if s.link i = Link.disabled then (s.setLink i Link.training).setPortX i fun x => { x with trainAt := s.up } else s)
    else if s.link i = Link.disabled then s else s.setLink i Link.disabled
  s.each s.strings fun n s => if s.ringState n = Rs.unconfigured then s.deriveRing n n else s

/-- A start through BOOT up to the release of the cores (R22, R28, R583): cause and kind as LAST_RESTART codes them; `powerUp`
holds POWER_UP's supply bits where the supply or a hardware reset began it. -/
def State.coldStart (cause kind : Nat) (powerUp : Option Nat) (fatal : Bool) (s : State) : State :=
  let old := if powerUp.isSome then .boot else s.sys.mode
  let anchored := s.strings.map fun n => (n, (s.cellIdxOf n).filter fun i => (s.cellLearn i).anchor.isSome)
  let s := s.coldClear powerUp.isSome
  let s := s.modSys fun y =>
    { y with
      mode := .boot, prev := old, trans := .boot, transTrig := if fatal then .fatal else if powerUp.isSome then .powerUp else .restart
      own := false, peerOwn := false, lockstep := false, mismatchHold := false, autoRun := false, partnerWait := false, bootPartnerLost := false
      tripPending := false, resetDue := false, wakeDue := false, lossPending := false, switchDue := false
      switchToStop := false, serviceFrom := .stop, parkedFrom := .stop, latched := [], modeCmds := []
      restart := { y.restart with cold := true, cause := cause } }
  let s := s.wr64 Obj.mod.modeTime s.now
  if (s.startSequence fatal).sys.recovery then s.startSequence fatal
  else
  let s := (s.modSys fun y => { y with recovery := false }).recorderStart
  let s := s.each anchored fun a s =>
    if a.2 = [] then s
    else ((((s.each a.2 fun i u => u.wrBits (Obj.cell.capLast i) 31 24 0x0C).count Obj.imp.capDisqualified a.2.length).flag
      (Obj.impS.impFlags a.1) 2).wrBits (Obj.impS.capStr a.1) 7 0 0x0C).raise 0x0D5 a.1 0x0C a.2.length 0
  let s := (s.startSequence fatal).settleSlots
  let s := (s.recoverJournal.loadCatalogue.checkLearned).protRestart
  let s := (s.each s.strings fun n s => s.calStale n).portsConfigure
  let startKind := match s.catOf with | some c => c.module_.startKind | none => 0
  let s := s.modSys fun y => { y with bootCold := powerUp.isNone || startKind == 1, phase := 5000 * s.bits Obj.prot.protCfg 31 24 }
  let s := s.noteRestart cause kind
  let s := match powerUp with
    | some inputs => s.raise 0x005 s.unit inputs startKind 0
    | none => s.raise 0x004 s.unit cause 0 0
  s.showRed

/-! ### POWER_UP and the hold-up bank (R22, R639, R640) -/

/-- POWER_UP (R23, R33): a hardware reset starts the module at once; where supply is applied, BOOT begins with the bank at
45 V (R640), and until then nothing runs. -/
def powerUp (p : PowerUp) (s : State) : State :=
  let reset := p.hardwareReset && s.sys.powered
  let s := s.modSys fun y => { y with unitB := p.cable && !p.unitSel, cable := p.cable }
  let s := ((s.wrBit Obj.pwr.pwrStatus 0 p.inputA).wrBit Obj.pwr.pwrStatus 1 p.inputB).showSource
  let inputs := p.inputA.toNat + 2 * p.inputB.toNat
  if reset then (s.modSys fun y => { y with brownOut := false, recovery := false }).coldStart 0 0 (some inputs) false
  else
    (s.modSys fun y => { y with powered := false, chargeWait := true, own := false, mode := .boot, prev := .boot, trans := .boot
                                transTrig := .powerUp }).islandStop

def execPowerUp (p : PowerUp) (s : State) : Host.Outcome State Fault Refusal := .next (powerUp p s).dark

/-- HOLDUP_CHARGED (R640): the bank reaches 45 V and BOOT begins, after a shutdown by SUPPLY_LOST with cause 0x08 (R33). -/
def holdupCharged (s : State) : State :=
  if s.sys.chargeWait then
    let brown := s.sys.brownOut
    let s := s.modSys fun y => { y with powered := true, chargeWait := false, brownOut := false, recovery := false }
    let s := s.coldStart (if brown then 8 else 0) 0 (some (s.bits Obj.pwr.pwrStatus 1 0)) false
    if brown then s.flag Obj.mod.faults 5 else s
  else s

def execHoldupCharged (s : State) : Host.Outcome State Fault Refusal := .next (holdupCharged s).dark

/-! ### BOOTED (R23 (a), R16, R29) -/

/-- Either condition of R16. -/
def State.roleMismatch (s : State) : Bool := if s.pairRole then !s.sys.cable else s.partnerAlive

/-- ROLE_MISMATCH (R16): the flag, the suppression and event 0x00E. -/
def State.raiseMismatch (s : State) : State :=
  ((s.modSys fun y => { y with mismatchHold := true }).flag Obj.mod.faults 3).raise 0x00E s.unit s.role s.sys.cable.toNat s.partnerAlive.toNat

/-- Auto-run is suppressed (R31). -/
def State.suppressed (s : State) : Bool := s.sys.mismatchHold || s.bit Obj.mod.faults 1

/-- The check of R16 at the end of BOOT or of an activation. -/
def State.checkRole (s : State) : State :=
  if s.roleMismatch then s.raiseMismatch else s.modSys fun y => { y with mismatchHold := false }

/-- The island's own verification of the image in force (R61, R328). -/
def State.islandVerifies (s : State) : Bool :=
  let b := s.catBytes 0
  s.catOf.isNone || ((checkSignature b s.sec.islandShadow).isNone && (checkSafetySig b s.island.safetyKey).isNone && (checkDigests b).isNone)

/-- Its result (R61, R337): cause 3 comes or goes; a failure keeps every SQ off and raises event 0x02B. -/
def State.islandCheck (s : State) : State :=
  if s.islandVerifies then s.lockoutCause 3 false 0
  else (s.lockoutCause 3 true 0).raise 0x02B 0 (s.catWord CatHead.safetyCrc) 0 0

/-- A change-log entry still pending at a start of the island (R68): completed where the new image runs, else withdrawn. -/
def State.settlePending (s : State) : State :=
  match s.island.log.find? (fun e => e.kind == 1 && e.state == 1) with
  | some e => s.settleLog (if e.new = s.catWord CatHead.safetyCrc then 2 else 3)
  | none => s

/-- The user behind a pending change-log entry of a safety section. -/
def State.pendingUser (s : State) : Nat :=
  match s.island.log.find? (fun e => e.kind == 1 && e.state == 1) with | some e => e.user | none => 0

/-- A Catalogue activation succeeded (R67, R75): ACTIVATIONS, events 0x023, 0x028 and 0x029. The image before it stands in the
pending slot with PREVIOUS set. -/
def State.activationEnd (kind user : Nat) (s : State) : State :=
  let was := s.bit (Obj.slot.slotStatus 1) 8
  let old (a : Nat) : Nat := if was then (s.rd a).toNat else 0
  let hasRet := match s.catOf with | some c => c.hasRetained | none => false
  let crc := s.catWord CatHead.safetyCrc
  let s := (s.count Obj.cat.activations 1).raise 0x023 0 (old (Obj.slot.revision 1)) (s.catWord CatHead.revision) kind
  let s := if old (Obj.slot.safetyCrc 1) = crc then s else s.raise 0x028 0 (old (Obj.slot.safetyCrc 1)) crc user
  if hasRet && !s.bit Obj.sched.schedStatus 5 then
    s.raise 0x029 0 (old (Obj.slot.retainDigest 1)) (s.catWord fun h => h.retainDigest.toNat) 0
  else s

/-- BOOTED (R23 (a)): measured boot and the island's check complete; namespaces are mounted, program data is initialised and
the module goes to LOCKOUT or STOP, with auto-run due where it applies. `measured` is step 10 of R600 on the locked copy. -/
def booted (measured : Bool) (drives : List (Fin 2 × DriveFound)) (s : State) : State :=
  if s.sys.mode != .boot || s.sys.recovery then s
  else
    let s := if measured then s else s.selectFw false false
    if s.sys.recovery then s
    else
      let user := s.pendingUser
      let s := s.measureBoot.islandStart.islandCheck.settlePending
      let s := s.archiveMount drives
      let s := ((s.initPrograms s.sys.bootCold).loopStart true).loadTasks true
      let s := s.each (List.range 8) State.showPlantPort
      let s := if s.sys.restart.cold && s.sys.restart.cause == 7 then s.activationEnd 1 user else s
      let s := s.checkRole
      let s := if s.sys.limitDue then
          ((s.modSys fun y => { y with limitDue := false }).flag Obj.mod.faults 1).raise 0x007 s.unit s.sys.fatals.length 0 0
        else s
      let plan := s.sys.restart
      let auto := match s.catOf with | some c => c.module_.autoRun | none => false
      let wanted := if plan.cold && (plan.cause == 1 || plan.cause == 7) then plan.endRun else auto
      let go := s.catOf.isSome && wanted && !s.suppressed
      let s := s.enterMode (if s.sys.lockoutLatch then .lockout else .stop) .booted
      let s := s.modSys fun y =>
        { y with trans := .none, autoRun := go && y.mode == .stop, tripPending := false, bootedAt := s.up }
      (s.modRed fun u => { u with heardBooted := false }).showRed

def execBooted (measured : Bool) (drives : List (Fin 2 × DriveFound)) (s : State) : Host.Outcome State Fault Refusal :=
  s.live (booted measured drives)

/-! ### FATAL (R23, R27, R29, R634) -/

def fatalCode : FatalCause → Nat
  | .lockstep => 2 | .watchdog => 3 | .memory => 4 | .clock => 5

/-- Activations that a trigger abandons before their step 4 (R69, R603): events 0x024 and 0x1E5. -/
def State.abandonActivations (t : Trigger) (s : State) : State :=
  let s := match s.cat.activation with
    | some a =>
      if a.step < 4 then
        ((s.modCat fun u => { u with activation := none }).setOutcome Obj.cat.catCmdStatus Oc.aborted).raise 0x024 1 a.step t.code 0
      else s
    | none => s
  match s.upd.activation with
  | some a => if a.step < 4 then ((s.modUpd fun u => { u with activation := none }).setOutcome Obj.upd.cmdStatus Oc.aborted).raise 0x1E5 0 a.step t.code 0 else s
  | none => s

/-- A journal whose writing the fault may have cut short: it is complete or not, which no rule settles (R381, log 1). -/
def State.cutJournal (s : State) : State :=
  match s.sched.journal with
  | some j =>
    if s.up < j.at_ + 2000000 then
      let (w, s) := s.fresh
      s.modSched fun u => { u with journal := some { j with complete := j.complete && bitAt 0 w } }
    else s
  | none => s

/-- FATAL: hardware releases OWN, the recorder is flushed (R559), and BOOT starts as a cold restart with the cause. -/
def State.fatal (cause : FatalCause) (block : Nat) (s : State) : State :=
  let times := (s.now :: s.sys.fatals).take 3
  let third := match times with | [_, _, t] => decide (s.now ≤ t + 600000000000) | _ => false
  let s := s.abandonActivations .fatal
  let s := s.raise 0x006 s.unit (fatalCode cause) block 0
  let s := if s.sys.trans = .boot then s else s.abortTrans .fatal .boot
  let s := s.modSys fun y => { y with fatals := times, limitDue := y.limitDue || third, own := false, restart := { y.restart with endRun := false } }
  let s := (s.islandStop).cutJournal
  let s := if s.sys.mode = .boot then s else s.raise 0x000 s.unit s.sys.mode.code Mode.boot.code Trigger.fatal.code
  (s.flushAll.coldStart (fatalCode cause) 2 none true).flag Obj.mod.faults 0

def execFatal (cause : FatalCause) (block : BitVec 32) (s : State) : Host.Outcome State Fault Refusal :=
  s.liveRom (State.fatal cause block.toNat)

/-- CLOCK_MONITOR_FAULT (R634): held in MRAM for event 0x1F5, and FATAL with cause 0x05; CLK_STATUS names the clock. -/
def clockMonitorFault (clock : Nat) (s : State) : State :=
  ({ s with pwr := { s.pwr with clockFault := some clock } }).fatal .clock clock

def execClockMonitorFault (clock : Fin 7) (s : State) : Host.Outcome State Fault Refusal :=
  s.liveRom (clockMonitorFault clock)

/-! ### SUPPLY_LOST (R23 (m), R562, R563) -/

/-- SUPPLY_LOST: transitions and activations are abandoned, SQ go off, OWN is released, and the recorder and MRAM take what they
must before the module de-energises; `collapse` says how far a supply that falls too fast lets it get. -/
def supplyLost (va vb bank : Nat) (collapse : Option Collapse) (s : State) : State :=
  if s.sys.chargeWait then s.modSys fun y => { y with chargeWait := false }
  else if !s.sys.powered then s
  else
    let saved := match collapse with | some c => c.saved | none => true
    let s := s.abandonActivations .supplyLost
    let s := s.modRcd fun r => { r with pfBegun := true }
    let s := (s.raise 0x1F2 0 va vb bank)
    let s := if s.sys.trans = .boot then s else s.abortTrans .supplyLost s.sys.mode
    let c := Obj.pwr.brownouts
    let s := (s.wrBits c 15 0 (satAdd 65535 (s.bits c 15 0) 1)).islandStop
    let s := s.modSys fun y => { y with own := false }
    let s := if saved then timeSave s else
      (match s.sched.journal with
        | some j => if s.up < j.at_ + 2000000 then s.modSched fun u => { u with journal := some { j with complete := false } } else s
        | none => s)
    let s := s.powerFailFlush collapse
    s.modSys fun y => { y with powered := false, brownOut := true }

def execSupplyLost (voltageA voltageB bank : BitVec 16) (collapse : Option Collapse) (s : State) : Host.Outcome State Fault Refusal :=
  .next (supplyLost voltageA.toNat voltageB.toNat bank.toNat collapse s).dark

/-! ### WARM_RESTART_DONE (R28) -/

/-- The restart ends in STOP, and where MODE_CMD.END asked for it the module then acts as CMD_RUN at the next boundary. -/
def warmRestartDone (dramOk : Bool) (s : State) : State :=
  if s.sys.trans = .warmRestart then
    let s := (s.warmFinish dramOk).setTrans .none .restart
    let s := s.enterMode .stop .restart
    if s.sys.restart.endRun then s.modSys fun y => { y with autoRun := true } else s.modeDone Oc.done
  else s

def execWarmRestartDone (dramOk : Bool) (s : State) : Host.Outcome State Fault Refusal := s.live (warmRestartDone dramOk)

end Sys2Proof.Machine
end

