-- ==== Sys2Proof/Machine/Mode.lean ====
section
/-!
DEFINITION. The mode commands and triggers of the module, and what a protection-cycle boundary does with them (R16 to R29,
R485 to R488, R497 to R499, R661 to R663).
-/

namespace Sys2Proof.Machine

/-- Codes of MODE_CMD.CMD (R32). -/
abbrev Mc.run : Nat := 1
abbrev Mc.stop : Nat := 2
abbrev Mc.service : Nat := 3
abbrev Mc.endService : Nat := 4
abbrev Mc.switch : Nat := 5
abbrev Mc.park : Nat := 6
abbrev Mc.wake : Nat := 7
abbrev Mc.restart : Nat := 8

/-! ### OWN and the identity (R17, R486, R498) -/

/-- The module asserts OWN where it can, and with it takes the identity. -/
def State.takeOwn (peerAfter : Bool) (s : State) : State :=
  let t := s.assertOwn peerAfter
  if t.sys.own && !s.sys.own then t.identityMoved true else t

/-- The module releases OWN, and with it the identity. -/
def State.releaseOwn (s : State) : State := if s.sys.own then (s.setOwn false).identityMoved false else s

/-! ### Joining (R23 (b), R492, R505) -/

/-- This module's part of the identity exchange (R505 step 1, R597): its device certificate and SERIAL. -/
def State.sendIdentity (s : State) : State :=
  (s.modRed fun u => { u with idSeq := u.msgSeq }).xSend (.transfer (.identity Config.deviceCert (bytesOfWords (s.rdList Obj.mod.serial 4))))

/-- A state transfer begins, with cause 0 for a join, else as event 0x1AB codes a rejoin. -/
def State.startJoin (cause : Nat) (trig : Trigger) (s : State) : State :=
  let s := (s.modRed fun u => { u with join := some ⟨cause, s.up, false, []⟩, rejoinDue := none, commitDue := false, pairKey := none }).setTrans .resync trig
  (if cause = 0 then s.raise 0x1AD 0 s.strings.length 0 0 else (s.count Obj.red.rejoins 1).raise 0x1AB 0 cause 0 0).showRed.sendIdentity

/-- A transfer ends once every string is in, at this boundary (R505 step 5). -/
def State.finishJoin (s : State) : State :=
  match s.red.join with
  | none => s
  | some j =>
    if j.gotModule && s.strings.all (j.strings.contains ·) then
      let ms := (s.up - j.at_) / 1000000
      let trig := s.sys.transTrig
      let s := s.modRed fun u => { u with join := none, detached := false, detachedRun := 0, digestBad := false, rxMissing := [], agreedAt := some s.up }
      let s := (s.wrBit Obj.red.redStatus 25 false).setTrans .none trig
      let s := if j.cause = 0 then (s.raise 0x1AE 0 ms j.strings.length 0).enterMode .standby trig else s.raise 0x1AC 0 ms j.strings.length 0
      (s.modeDone Oc.done).showRed
    else s

/-- A resynchronisation or rejoin given up. -/
def State.dropJoin (s : State) : State := (s.modRed fun u => { u with join := none, rejoinDue := none }).showRed

/-! ### Running (R23 (b), R662, R663) -/

/-- CONFIG.PARTNER_WAIT in ns. -/
def State.partnerWaitNs (s : State) : Nat := 100000000 * (match s.catOf with | some c => c.module_.partnerWait | none => 30)

/-- What CMD_RUN in STOP does (R23 (b)): `host` where a host's command is being evaluated, else auto-run, the end of a wait or of a
restart. -/
def State.runEval (host peerAfter : Bool) (s : State) : State :=
  let refuse (s : State) : State := if host then s.modeRefused Mc.run Oc.notReady else s.modeFailed Oc.notReady
  let accept (oc : Nat) (s : State) : State := if host then s.modeAccept Mc.run oc else if oc = Oc.done then s.modeDone oc else s
  if s.catOf.isNone || s.roleMismatch then refuse s
  else if !s.pairRole then (accept Oc.done s).enterMode .solo .cmdRun
  else if !s.red.heardBooted && !s.sys.bootPartnerLost && decide (s.up < s.sys.bootedAt + s.partnerWaitNs) then
    let s := if host then s.modeAccept Mc.run Oc.inProgress else s.refuse Obj.mod.cmdStatus Mc.run Oc.inProgress
    s.modSys fun y => { y with partnerWait := true }
  else if s.partnerIn .active then
    let (ok, s) := s.checkJoin
    if ok then (accept Oc.inProgress s).startJoin 0 .cmdRun else refuse s
  else if s.sys.own then (accept Oc.done s).enterMode .active .cmdRun
  else if s.sys.peerOwn then
    if s.xHeard then
      ((accept Oc.inProgress s).modRed fun u => { u with ownAskAt := some s.up }).setTrans .switchOver .cmdRun
    else refuse s
  else
    let t := s.takeOwn peerAfter
    if t.sys.own then (accept Oc.done t).enterMode .active .cmdRun
    else (accept Oc.inProgress t).modSys fun y => { y with autoRun := true }

/-- CMD_RUN (R23). -/
def cmdRun (session : Nat) (peerAfter : Bool) (s : State) : State :=
  if s.sys.trans != .none then s.modeRefused Mc.run Oc.busy
  else match s.sys.mode with
    | .boot => s.modeRefused Mc.run Oc.busy
    | .solo | .active | .standby => s.modeAccept Mc.run Oc.done
    | .service | .lockout => s.modeRefused Mc.run Oc.wrongMode
    | .dormant => (s.modeAccept Mc.run Oc.inProgress).wakeSource 3 (64 + session)
    | .stop => if s.sys.partnerWait then s.modeAccept Mc.run Oc.inProgress else s.runEval true peerAfter

def execCmdRun (session : Fin 68) (s : State) : Host.Outcome State Fault Refusal := s.live (cmdRun session.val false)

/-- PARTNER_WAIT_EXPIRED (R663): event 0x00C; the module asserts OWN and goes to ACTIVE. -/
def partnerWaitExpired (s : State) : State :=
  if s.sys.partnerWait then
    let s := s.raise 0x00C s.unit (s.partnerWaitNs / 100000000) 0 0
    (s.modSys fun y => { y with partnerWait := false, bootPartnerLost := true }).runEval false false
  else s

def execPartnerWaitExpired (s : State) : Host.Outcome State Fault Refusal := s.live partnerWaitExpired

/-- OWN_REQUEST_TIMEOUT (R662): a request for OWN that was not granted in time ends NOT_READY. -/
def ownRequestTimeout (s : State) : State :=
  if s.red.ownAskAt.isSome && s.sys.trans == .switchOver then
    ((s.modRed fun u => { u with ownAskAt := none }).setTrans .none .cmdRun).modeFailed Oc.notReady
  else s

def execOwnRequestTimeout (s : State) : Host.Outcome State Fault Refusal := s.live ownRequestTimeout

/-! ### Stopping, service, switch-over (R23 (c) to (f)) -/

/-- The partner is in STANDBY with a score at or above HEALTH_MIN, as heard over the cross-link (R23 (c)). -/
def State.healthyStandby (s : State) : Bool :=
  s.partnerIn .standby && s.xHeard && decide (s.redRec.healthMin ≤ s.partnerScore)

/-- CMD_STOP (R23, R24, R27). -/
def cmdStop (force : Bool) (s : State) : State :=
  if s.sys.trans = .resync then
    let s := ((s.raise 0x001 s.unit Trans.resync.code Trigger.cmdStop.code Mode.stop.code).dropJoin).setTrans .none .cmdStop
    (s.modeAccept Mc.stop Oc.done).enterMode .stop .cmdStop
  else if s.sys.trans != .none then s.modeRefused Mc.stop Oc.busy
  else match s.sys.mode with
    | .boot => s.modeRefused Mc.stop Oc.busy
    | .stop => (s.modSys fun y => { y with partnerWait := false, autoRun := false }).modeAccept Mc.stop Oc.done
    | .lockout => s.modeRefused Mc.stop Oc.wrongMode
    | .active =>
      if s.healthyStandby then
        ((s.modeAccept Mc.stop Oc.inProgress).setTrans .toStop .cmdStop).modSys fun y => { y with switchDue := true, switchToStop := true }
      else if force then (s.modeAccept Mc.stop Oc.done).enterMode .stop .cmdStop
      else s.modeRefused Mc.stop Oc.notReady
    | _ => (s.modeAccept Mc.stop Oc.done).enterMode .stop .cmdStop

def execCmdStop (force : Bool) (s : State) : Host.Outcome State Fault Refusal := s.live (cmdStop force)

/-- SERVICE is entered from STOP or STANDBY (R23). -/
def State.enterService (s : State) : State :=
  (s.modSys fun y => { y with serviceFrom := y.mode }).enterMode .service .cmdService

/-- CMD_SERVICE. -/
def cmdService (s : State) : State :=
  if s.sys.trans != .none then s.modeRefused Mc.service Oc.busy
  else match s.sys.mode with
    | .boot => s.modeRefused Mc.service Oc.busy
    | .service => s.modeAccept Mc.service Oc.done
    | .stop | .standby => (s.modeAccept Mc.service Oc.done).enterService
    | _ => s.modeRefused Mc.service Oc.wrongMode

def execCmdService (s : State) : Host.Outcome State Fault Refusal := s.live cmdService

/-- SERVICE_DONE (R23 (e)): back to the former mode, to STANDBY through a resynchronisation; without an ACTIVE partner to
resynchronise with, to STOP (log 50). -/
def State.leaveService (s : State) : State :=
  if s.sys.mode != .service then s
  else if s.sys.serviceFrom = .standby && s.partnerIn .active && s.xHeard then s.startJoin 0 .serviceDone
  else (s.setTrans .none .serviceDone).enterMode .stop .serviceDone

/-- END_SERVICE. -/
def endService (s : State) : State :=
  if s.sys.trans != .none then s.modeRefused Mc.endService Oc.busy
  else if s.sys.mode = .service then (s.modeAccept Mc.endService Oc.done).leaveService
  else s.modeRefused Mc.endService Oc.wrongMode

def execEndService (s : State) : Host.Outcome State Fault Refusal := s.live endService

/-- SERVICE_DONE as the end of a SERVICE operation, none being under way any more. -/
def serviceDone (s : State) : State :=
  if s.cat.activation.isSome || s.upd.activation.isSome || s.red.join.isSome then s else s.leaveService

def execServiceDone (s : State) : Host.Outcome State Fault Refusal := s.live serviceDone

/-- The conditions of R23 (f), as the active module judges them. -/
def State.maySwitch (s : State) : Bool :=
  s.healthyStandby && decide (s.redRec.healthMin ≤ s.bits Obj.mod.health 7 0) && s.sys.lockstep

/-- CMD_SWITCH (R23 (f), R497): on the active module OWN passes at the next boundary; on the standby the heartbeat carries the
request to the active module. -/
def cmdSwitch (s : State) : State :=
  if s.sys.trans != .none then s.modeRefused Mc.switch Oc.busy
  else match s.sys.mode with
    | .boot => s.modeRefused Mc.switch Oc.busy
    | .active =>
      if s.maySwitch then
        ((s.modeAccept Mc.switch Oc.inProgress).setTrans .switchOver .cmdSwitch).modSys fun y => { y with switchDue := true, switchToStop := false }
      else s.modeRefused Mc.switch Oc.notReady
    | .standby =>
      if s.partnerIn .active && s.xHeard && decide (s.redRec.healthMin ≤ s.partnerScore) &&
          decide (s.redRec.healthMin ≤ s.bits Obj.mod.health 7 0) && s.sys.lockstep then
        ((s.modeAccept Mc.switch Oc.inProgress).modRed fun u => { u with ownAskAt := some s.up }).setTrans .switchOver .cmdSwitch
      else s.modeRefused Mc.switch Oc.notReady
    | _ => s.modeRefused Mc.switch Oc.wrongMode

def execCmdSwitch (s : State) : Host.Outcome State Fault Refusal := s.live cmdSwitch

/-! ### Parking, waking, restarting (R23 (j) to (l)) -/

/-- Every configured string reports its contactors open and |I| below 0.01 C (R23 (j)). -/
def State.parkable (s : State) : Bool :=
  s.strings.all fun n => match s.th1 n with
    | none => true
    | some r => match s.newestSample (nodeInst n r.p) with
      | none => false
      | some x =>
        let m := parseMeas x.payload
        s.bits (Obj.pstr.pstrStatus n) 2 0 == 0 && decide ((m.iA + m.iB).natAbs * 50 < s.rated n)

/-- CMD_PARK: the plant cycle runs to its end (R25). -/
def cmdPark (s : State) : State :=
  if s.sys.trans != .none then s.modeRefused Mc.park Oc.busy
  else match s.sys.mode with
    | .boot => s.modeRefused Mc.park Oc.busy
    | .dormant => s.modeAccept Mc.park Oc.done
    | .solo | .active =>
      if s.parkable then
        (((s.modeAccept Mc.park Oc.inProgress).setTrans .park .cmdPark).modSys fun y => { y with parkedFrom := y.mode }).drainPlant
      else s.modeRefused Mc.park Oc.notReady
    | _ => s.modeRefused Mc.park Oc.wrongMode

def execCmdPark (s : State) : Host.Outcome State Fault Refusal := s.live cmdPark

/-- CMD_WAKE: wake source 3 (R23 (k)). -/
def cmdWake (session : Nat) (s : State) : State :=
  if s.sys.trans != .none then s.modeRefused Mc.wake Oc.busy
  else match s.sys.mode with
    | .boot => s.modeRefused Mc.wake Oc.busy
    | .dormant => (s.modeAccept Mc.wake Oc.inProgress).wakeSource 3 (64 + session)
    | _ => s.modeRefused Mc.wake Oc.wrongMode

def execCmdWake (session : Fin 68) (s : State) : Host.Outcome State Fault Refusal := s.live (cmdWake session.val)

/-- A cold restart (R28): what is uncommitted goes, the recorder is flushed, and BOOT starts. -/
def State.coldRestart (cause : Nat) (s : State) : State :=
  let s := (s.discardWork 3 none).dropSessions
  let s := s.raise 0x000 s.unit s.sys.mode.code Mode.boot.code Trigger.restart.code
  s.flushAll.coldStart cause 2 none false

/-- CMD_RESTART. -/
def cmdRestart (cold endRun : Bool) (s : State) : State :=
  if s.sys.trans != .none then s.modeRefused Mc.restart Oc.busy
  else match s.sys.mode with
    | .boot => s.modeRefused Mc.restart Oc.busy
    | .stop | .service =>
      let s := s.modSys fun y => { y with restart := ⟨cold, endRun, 1⟩, partnerWait := false, autoRun := false }
      let s := s.modeAccept Mc.restart Oc.inProgress
      if cold then s.coldRestart 1 else s.warmStart .warmRestart 1
    | _ => s.modeRefused Mc.restart Oc.wrongMode

def execCmdRestart (cold endRun : Bool) (s : State) : Host.Outcome State Fault Refusal := s.ringLive (cmdRestart cold endRun)

/-- A word written to MODE_CMD (R32, R661). -/
def modeCommand (w : Word) (session : Nat) (peerAfter : Bool) (s : State) : State :=
  match bitsOf 7 0 w with
  | 1 => cmdRun session peerAfter s
  | 2 => cmdStop (bitAt 8 w) s
  | 3 => cmdService s
  | 4 => endService s
  | 5 => cmdSwitch s
  | 6 => cmdPark s
  | 7 => cmdWake session s
  | 8 => cmdRestart (bitAt 10 w) (bitAt 9 w) s
  | c => s.modeRefused c Oc.badValue

/-! ### Loss of the partner (R23, R27, R487, R499) -/

/-- The module, not running, takes OWN (R23 (h)): stop values, FAULTS.OWN_TAKEN_STOPPED, event 0x00A. -/
def State.ownStopped (peerAfter : Bool) (s : State) : State :=
  let t := s.takeOwn peerAfter
  if t.sys.own && !s.sys.own then ((t.flag Obj.mod.faults 4).raise 0x00A t.unit t.sys.mode.code 0 0).showRed else t

/-- What an unsynced takeover initialises (R499): retained data from the module's own MRAM, other data from INITIAL, FIRST_SCAN,
and every string as after a current gap. -/
def State.unsynced (transferred : Nat) (s : State) : State :=
  let s := (s.flag Obj.mod.faults 2).raise 0x009 s.unit transferred s.strings.length 0
  let s := (s.initPrograms false).loopStart false
  s.each s.strings fun n u => u.setStrEst n fun x => { x with currents := [], afterGap := true }

/-- A STANDBY enters ACTIVE after PARTNER_LOST (R499): event 0x1A7 with its kind. -/
def State.takeover (peerAfter : Bool) (s : State) : State :=
  let t := s.takeOwn peerAfter
  if !t.sys.own then t
  else
    let synced := s.red.takeoverSynced || s.bit Obj.red.redStatus 26
    let n := s.red.detachedRun
    let t := if synced then t else t.unsynced 0
    let a := Obj.red.takeovers
    let t := if synced then t.wrBits a 15 0 (satAdd 65535 (t.bits a 15 0) 1) else t.wrBits a 31 16 (satAdd 65535 (t.bits a 31 16) 1)
    let t := t.raise 0x1A7 0 (if synced then 1 else 2) (t.rd Obj.prot.cycleNo).toNat n
    let t := t.modRed fun u => { u with detached := false, detachedRun := 0, rxMissing := [], commitDue := false, rejoinDue := none, digestBad := false }
    (t.wrBit Obj.red.redStatus 25 false).enterMode .active .partnerLost

/-- A module that is to assert OWN waits while the peer's line reads asserted (R487). -/
def State.beginOwnWait (s : State) : State :=
  if s.red.ownWaitAt.isSome then s
  else
    let s := (s.modRed fun u => { u with ownWaitAt := some s.up }).flag Obj.red.redFlags 2
    s.setTrans .switchOver .partnerLost

/-- PARTNER_LOST without a transition in the way (R23). -/
def State.lossByMode (peerAfter : Bool) (s : State) : State :=
  match s.sys.mode with
  | .boot => s.modSys fun y => { y with bootPartnerLost := true }
  | .solo | .active => s
  | .standby => if s.sys.peerOwn then s.beginOwnWait else s.takeover peerAfter
  | _ => if s.sys.own then s else if s.sys.peerOwn then s.beginOwnWait else s.ownStopped peerAfter

/-- The step of the activation in progress, 0 without one. -/
def State.activationStep (s : State) : Nat :=
  match s.cat.activation, s.upd.activation with
  | some a, _ => a.step
  | none, some a => a.step
  | none, none => 0

/-- PARTNER_LOST at its boundary (R27). A loss that must wait for the end of a transition stays pending. -/
def State.lossStep (peerAfter : Bool) (s : State) : State :=
  let done (s : State) : State := s.modSys fun y => { y with lossPending := false }
  match s.sys.trans with
  | .none | .boot => (done s).lossByMode peerAfter
  | .warmRestart | .fwPause | .park => s
  | .catActivation | .serviceOp =>
    if s.activationStep < 4 then ((done (s.abandonActivations .partnerLost)).abortTrans .partnerLost .service).lossByMode peerAfter else s
  | .resync =>
    let n := match s.red.join with | some j => j.strings.length | none => 0
    if s.sys.peerOwn then s
    else
      let s := (done s).raise 0x001 s.unit Trans.resync.code Trigger.partnerLost.code Mode.active.code
      let s := ((s.takeOwn peerAfter).dropJoin).unsynced n
      let s := (s.setTrans .none .partnerLost).modeDone Oc.aborted
      s.enterMode .active .partnerLost
  | .switchOver =>
    if s.sys.switchDue then ((done s).abortTrans .partnerLost .active).lossByMode peerAfter
    else if s.red.ownWaitAt.isSome then done s
    else if s.sys.mode = .standby then
      (((done s).modRed fun u => { u with ownAskAt := none }).abortTrans .partnerLost .active).lossByMode peerAfter
    else done s
  | .toStop => (done s).abortTrans .partnerLost .active
  | .wake => done (s.modSys fun y => { y with parkedFrom := if y.parkedFrom = .standby then .active else y.parkedFrom })
/-- The OWN wait at a boundary (R487): event 0x1A8 with the whole time once the line is free. -/
def State.ownWaitStep (peerAfter : Bool) (s : State) : State :=
  match s.red.ownWaitAt with
  | none => s
  | some t =>
    if s.sys.peerOwn then s.flag Obj.red.redFlags 2
    else
      let s := (s.modRed fun u => { u with ownWaitAt := none }).setTrans .none .partnerLost
      (s.raise 0x1A8 0 (min 0xFFFFFFFF ((s.up - t) / 1000)) 0 0).lossByMode peerAfter

/-! ### Switch-over (R497) -/

/-- The boundary of a switch-over has come: the agreement of the boundary before carried it (R497). -/
def State.switchNow (s : State) : Bool := s.sys.switchDue && s.red.switchAgreed.isSome

/-- OWN passes at this boundary: event 0x1A6, SWITCHOVERS for CMD_SWITCH, the modes changed. -/
def State.switchOver (before : Nat) (s : State) : State :=
  let stop := s.sys.switchToStop
  let old := s.sys.mode == .active
  let trig : Trigger := if stop then .cmdStop else .cmdSwitch
  let unit := if old then 1 - s.unit else s.unit
  let s := s.discardWork 2 (some before)
  let s := (s.modSys fun y => { y with switchDue := false, switchToStop := false }).setTrans .none trig
  let s := if old then s.releaseOwn else (s.modSys fun y => { y with peerOwn := false }).takeOwn false
  let s := s.modRed fun u => { u with ownAskAt := none, sending := none, commitDue := false, agreedAt := some s.up, switchAgreed := none }
  let s := if stop then s else s.count Obj.red.switchovers 1
  let s := s.raise 0x1A6 0 unit (s.rd Obj.prot.cycleNo).toNat (if stop then 2 else 1)
  let s := s.enterMode (if !old then .active else if s.sys.tripPending then .lockout else if stop then .stop else .standby) trig
  (s.modeDone Oc.done).showRed

/-! ### SAFETY_TRIP at its boundary (R25, R27) -/

def State.tripStep (s : State) : State :=
  let lock (s : State) : State := ((s.modSys fun y => { y with tripPending := false }).setTrans .none .safetyTrip).enterMode .lockout .safetyTrip
  match s.sys.trans with
  | .none => lock s
  | .boot | .warmRestart | .fwPause => s
  | .catActivation | .serviceOp =>
    if s.activationStep < 4 then lock ((s.abandonActivations .safetyTrip).abortTrans .safetyTrip .lockout) else s
  | .switchOver => if s.sys.switchDue then s else lock ((s.modRed fun u => { u with ownAskAt := none, ownWaitAt := none }).abortTrans .safetyTrip .lockout)
  | .toStop => if s.sys.switchDue then s else lock (s.abortTrans .safetyTrip .lockout)
  | .resync => lock (s.dropJoin.abortTrans .safetyTrip .lockout)
  | .park | .wake => lock ((s.modSys fun y => { y with wakeDue := false }).abortTrans .safetyTrip .lockout)

/-! ### Parking and waking at a boundary (R23 (j), (k), R25) -/

/-- No plant job is left. -/
def State.drained (s : State) : Bool := s.tasks.all fun r => r.cls == 0 || (s.taskX r.task).job.isNone

/-- DORMANT is entered: the last plant cycle is complete, in a pair at the boundary that the agreement has named. -/
def State.parkStep (s : State) : State :=
  let sleep (s : State) : State :=
    (((s.modRed fun u => { u with modeAgreed := none }).setTrans .none .cmdPark).enterMode .dormant .cmdPark).modeDone Oc.done
  if s.sys.trans != .park then s
  else if s.red.modeAgreed == some Mode.dormant.code then sleep s
  else if s.sys.mode = .standby && s.partnerAlive then s
  else if !s.drained then s
  else if s.sys.mode = .active && s.partnerIn .standby && s.xHeard then s.modRed fun u => { u with modeAgreed := some Mode.dormant.code }
  else sleep s

/-- A wake takes effect (R23 (k)). -/
def State.wakeStep (s : State) : State :=
  if s.sys.wakeDue && s.sys.mode == .dormant then
    let dest := s.sys.parkedFrom
    let s := (s.modSys fun y => { y with wakeDue := false }).setTrans .none .wake
    let s := if dest = .active then s.takeOwn false else s
    (s.enterMode dest .wake).modeDone Oc.done
  else s.modSys fun y => { y with wakeDue := false }

/-! ### The request for OWN between the modules (R662) -/

/-- A module that holds OWN in STOP or SERVICE releases it once its partner's heartbeat asks for it; the asking module asserts it
at the first boundary at which the line is free, and enters ACTIVE. -/
def State.askStep (peerAfter : Bool) (s : State) : State :=
  let asks := match s.red.partner with | some b => bitsOf 3 0 b.mode == Mode.stop.code && bitsOf 11 8 b.mode == Trans.switchOver.code && !bitAt 15 b.mode | none => false
  if s.sys.own && asks && s.xHeard && (s.sys.mode == .stop || s.sys.mode == .service) && s.sys.trans == .none then s.releaseOwn
  else if s.red.ownAskAt.isSome && s.sys.mode == .stop && s.sys.trans == .switchOver && !s.sys.peerOwn then
    let t := s.takeOwn peerAfter
    if t.sys.own then
      (((t.modRed fun u => { u with ownAskAt := none }).setTrans .none .cmdRun).enterMode .active .cmdRun).modeDone Oc.done
    else t
  else s

/-! ### The mode part of a boundary -/

/-- The suppression of a role mismatch (R16): re-judged at every boundary while it stands. -/
def State.mismatchStep (s : State) : State :=
  if !s.sys.mismatchHold then s
  else if s.roleMismatch then s.flag Obj.mod.faults 3
  else if s.bit Obj.mod.faults 3 then s
  else s.modSys fun y => { y with mismatchHold := false }

/-- Triggers latched during a transition are evaluated at its end (R27). -/
def State.releaseLatched (s : State) : State :=
  if s.sys.trans = .none then
    let l := s.sys.latched
    s.modSys (fun y => { y with latched := [] }) |>.each l fun x s => if x.1 = .wake then s.wakeSource x.2.1 x.2.2 else s.resetEdge x.2.1
  else s

/-- Mode changes of a protection-cycle boundary (R25, R316): `before` is the first ring request that does not belong to the
ending cycle's uncommitted work (R497). -/
def State.modeStep (peerOwn peerAfter : Bool) (before : Nat) (s : State) : State :=
  let s := (s.modSys fun y => { y with peerOwn := peerOwn && y.cable }).mismatchStep
  let s := if s.sys.tripPending then s.tripStep else s
  let s := if s.sys.lossPending then s.lossStep peerAfter else s
  let s := if s.sys.resetDue then
      let s := s.modSys fun y => { y with resetDue := false }
      if s.sys.mode = .lockout && !s.sys.lockoutLatch then s.enterMode .stop .resetEdge else s
    else s
  let s := if s.sys.wakeDue then s.wakeStep else s
  let s := if s.switchNow then s.switchOver before else s
  let s := if s.sys.tripPending then s.tripStep else s
  let s := ((s.askStep peerAfter).ownWaitStep peerAfter).parkStep
  let s : State := match s.red.rejoinDue with | some c => if s.sys.mode == Mode.standby && s.sys.trans == Trans.none then s.startJoin c .partnerLost else s | none => s
  let s := s.finishJoin
  let s := if s.sys.autoRun && s.sys.trans == .none && s.sys.mode == .stop then
      (s.modSys fun y => { y with autoRun := false }).runEval false peerAfter else s
  let cmds := s.sys.modeCmds
  let s := (s.modSys fun y => { y with modeCmds := [] }).each cmds fun c s =>
    let s := modeCommand c.word c.session peerAfter s
    match c.req with
    | some id => s.targetDone id 0 (statusOfOutcome (s.bits Obj.mod.cmdStatus 15 8))
    | none => s
  s.releaseLatched.showRed

end Sys2Proof.Machine
end

