-- ==== Sys2Proof/Machine/CatCmd.lean ====
section
/-!
DEFINITION. Catalogue operations: page writes, ERASE, VALIDATE and ACTIVATE (R64 to R75), and what an activation changes in the
state of strings, loops and network (R207, R259, R276, R282, R361, R417).
-/

namespace Sys2Proof.Machine

abbrev CatCmd.validate : Nat := 1
abbrev CatCmd.activate : Nat := 2
abbrev CatCmd.erase : Nat := 3

/-! ### Upload, erase and validation (R64 to R66) -/

/-- The pending slot is being checked or erased, or an activation runs (R64, R66, R69). -/
def State.slotBusy (s : State) : Bool :=
  s.catState 1 == Cs.checking || s.catState 1 == Cs.erasing || s.cat.activation.isSome

def State.pendingPhys (s : State) : Nat := 1 - s.currentPhys

/-- CAT_PAGE_WRITE (R64): one blank page of the pending slot; events 0x020 at the first since the erase and 0x027 at a page that
is not blank. -/
def catPageWrite (i : Nat) (q : ReqHead) (page : Nat) (b : List Byte) : State → State :=
  State.admitReq i q Mt.imageWrite [Rt.c] fun s =>
    let img := s.slotImage s.pendingPhys
    if b.length ≠ 4096 then s.badRequest i q Mt.imageWrite
    else if s.slotBusy then s.refuseReq i q Mt.imageWrite Rs.busy
    else if hasKey page img.pages then (s.raise 0x027 1 (4096 * page) 0 0).refuseReq i q Mt.imageWrite Rs.notBlank
    else
      let s := s.setSlotImage s.pendingPhys ⟨upsert page b img.pages⟩
      let s := (((s.setCatState 1 Cs.written).wrBit (Obj.slot.slotStatus 1) 8 false).showSlot 1 none).showReject 1 none
      let s := (s.wr (Obj.slot.pages 1) (w32 (img.pages.length + 1))).showSame
      let s := if img.pages = [] then s.raise 0x020 1 (4096 * page) 0 0 else s
      s.refuseReq i q Mt.imageWrite Rs.ok

def execCatPageWrite (session : Fin 68) (req : ReqHead) (page : Fin 65536) (bytes : List Byte) (s : State) :
    Host.Outcome State Fault Refusal := s.live (catPageWrite session req page bytes)

/-- CAT_ERASE (R65). -/
def catErase (s : State) : State :=
  let c := Obj.cat.catCmdStatus
  if s.slotBusy then s.refuse c CatCmd.erase Oc.busy
  else
    let s := ((s.accept c CatCmd.erase Oc.inProgress).setCatState 1 Cs.erasing).wr Obj.cat.eraseProgress 0
    (((s.wrBit (Obj.slot.slotStatus 1) 8 false).showSlot 1 none).showReject 1 none).showSame

def execCatErase (s : State) : Host.Outcome State Fault Refusal := s.live catErase

/-- CAT_ERASE_DONE (R65): the slot is EMPTY; event 0x025. -/
def catEraseDone (s : State) : State :=
  if s.catState 1 = Cs.erasing then
    let s := s.setSlotImage s.pendingPhys ⟨[]⟩
    let s := ((s.setCatState 1 Cs.empty).wr (Obj.slot.pages 1) 0).wr Obj.cat.eraseProgress 65536
    (s.showSame.setOutcome Obj.cat.catCmdStatus Oc.done).raise 0x025 1 65536 0 0
  else s

def execCatEraseDone (s : State) : Host.Outcome State Fault Refusal := s.live catEraseDone

/-- CAT_VALIDATE (R66). -/
def catValidate (s : State) : State :=
  let c := Obj.cat.catCmdStatus
  if s.slotBusy then s.refuse c CatCmd.validate Oc.busy
  else if s.catState 1 = Cs.empty then s.refuse c CatCmd.validate Oc.notReady
  else
    let s := (s.accept c CatCmd.validate Oc.inProgress).setCatState 1 Cs.checking
    (s.showSlot 1 (some (decodeCatalogue (s.catBytes 1)).head)).showSame

def execCatValidate (s : State) : Host.Outcome State Fault Refusal := s.live catValidate

/-- The pending slot fails a check (R63, R66, R67): INVALID with its rejection, event 0x022. -/
def State.rejectPending (r : Reject) (s : State) : State :=
  let s := ((s.setCatState 1 Cs.invalid).showReject 1 (some r)).showSame
  s.raise 0x022 1 r.code (r.sec * 65536 + r.off) r.record

/-- CAT_VALIDATE_DONE (R63, R66): VALID with event 0x021, or INVALID. -/
def catValidateDone (s : State) : State :=
  if s.catState 1 = Cs.checking then
    match validateImage (s.checkEnv true) (s.catBytes 1) with
    | none =>
      let h := (decodeCatalogue (s.catBytes 1)).head
      let s := (((s.setCatState 1 Cs.valid).showReject 1 none).showSlot 1 (some h)).showSame
      (s.setOutcome Obj.cat.catCmdStatus Oc.done).raise 0x021 1 h.revision h.imageLength 0
    | some r => (s.rejectPending r).setOutcome Obj.cat.catCmdStatus Oc.rejected
  else s

def execCatValidateDone (s : State) : Host.Outcome State Fault Refusal := s.live catValidateDone

/-! ### Activation (R67) -/

/-- CAT_ACTIVATE: accepted only in STOP with no transition, the pending slot VALID, and with a changed safety section only from a
session that holds an authorised safety session; step 1 enters SERVICE. -/
def catActivate (i : Nat) (cold endRun : Bool) (s : State) : State :=
  let c := Obj.cat.catCmdStatus
  let no (oc : Nat) : State := s.refuse c CatCmd.activate oc
  if s.sys.trans != .none then no Oc.busy
  else if s.sys.mode != .stop then no Oc.wrongMode
  else if s.slotBusy then no Oc.busy
  else if s.catState 1 ≠ Cs.valid then no Oc.notReady
  else if s.bit (Obj.slot.slotStatus 1) 9 && !s.authorised i then no Oc.notAuthorised
  else
    let s := (s.accept c CatCmd.activate Oc.inProgress).enterService
    let s := s.modCat fun u => { u with activation := some ⟨2, cold, endRun, s.authUser i⟩ }
    s.setTrans .catActivation .cmdService

def execCatActivate (session : Fin 68) (cold endRun : Bool) (s : State) : Host.Outcome State Fault Refusal :=
  s.live (catActivate session cold endRun)

/-- The stored CONFIRM_WINDOW of every string whose N or FIBRE_M changes must stay within the new bound (R207): the record of RINGS
that breaks it. -/
def State.windowReject (s : State) (c : Catalogue) : Option Reject :=
  let old (n : Nat) : Option RingRec := s.ringRec n
  match c.rings.zipIdx.find? fun r =>
      (match old r.1.string with
        | some o => o.nodes != r.1.nodes || o.fibreM != r.1.fibreM
        | none => true) &&
        decide (s.bits (Obj.str.scanCfg2 r.1.string) 31 16 * 1000 < confirmBoundNs r.1.nodes r.1.fibreM) with
  | some (_, k) => some ⟨0x17, 0x0004, 0, k⟩
  | none => none

/-- The slot objects after the flip of step 4: the new image is current, the old one pending with PREVIOUS. -/
def State.swapSlots (s : State) : State :=
  let a := (List.range 0x24).map fun k => (k, s.rd (Obj.slot.slotStatus 0 + k), s.rd (Obj.slot.slotStatus 1 + k))
  let s := s.each a fun x s => (s.wr (Obj.slot.slotStatus 0 + x.1) x.2.2).wr (Obj.slot.slotStatus 1 + x.1) x.2.1
  let s := (s.wrBits (Obj.slot.slotStatus 0) 11 8 0).setCatState 0 Cs.inUse
  if s.catState 1 = Cs.inUse then (s.setCatState 1 Cs.valid).wrBit (Obj.slot.slotStatus 1) 8 true else s

/-- CAT_COPY_CHECKED (R67 steps 2 to 5, R590): the copy is checked; the change log takes a pending entry, the island and the shadow
their copies of the keys, the selection flips, and the restart begins. -/
def catCopyChecked (s : State) : State :=
  match s.cat.activation with
  | none => s
  | some a =>
    if a.step ≠ 2 then s
    else
      let b := s.catBytes 1
      let c := decodeCatalogue b
      let verdict := match validateImage (s.checkEnv true) b with | some r => some r | none => s.windowReject c
      match verdict with
      | some r =>
        let s := (s.modCat fun u => { u with activation := none }).rejectPending r
        let s := (s.setOutcome Obj.cat.catCmdStatus Oc.rejected).raise 0x024 1 2 r.code 0
        (s.setTrans .none .serviceDone).enterMode .stop .serviceDone
      | none =>
        let pub := s.slotPub 4
        let s := s.modSec fun u => { u with shadow := pub, islandShadow := pub }
        let key := s.slotPub 5
        let s := s.modIsland fun u => { u with safetyKey := key }
        let s := if s.bit (Obj.slot.slotStatus 1) 9 then s.appendLog a.user 1 1 (s.catWord CatHead.safetyCrc) c.head.safetyCrc else s
        let (x, y) := reselect s.cat.selA s.cat.selB s.pendingPhys
        let old := s.catWord CatHead.revision
        let s := (s.modCat fun u => { u with selA := x, selB := y, oldRevision := old, activation := some { a with step := 5 } }).swapSlots
        let s := s.extend 7 Mk.catActivation c.head.imageDigest
        let s := s.modSys fun y => { y with restart := ⟨a.cold, a.endRun, 7⟩ }
        if a.cold then s.coldRestart 7 else s.warmStart .catActivation 7

def execCatCopyChecked (s : State) : Host.Outcome State Fault Refusal := s.live catCopyChecked

/-! ### What the new image changes -/

/-- The string of an object key, for the spaces kept per string, node or cell. -/
def stringOfKey (a : Nat) : Option Nat :=
  let inst := a / 2 ^ 7 % 2 ^ 17
  match a / 2 ^ 24 with
  | 0x04 => some (inst / 64)
  | 0x05 | 0x08 => some inst
  | 0x06 => some (inst / 512)
  | 0x02 | 0x07 | 0x09 | 0x0A => if inst < 256 then none else some (inst - 256)
  | _ => none

/-- A string that the new image no longer configures leaves nothing behind (R67, R259). -/
def State.removeString (n : Nat) (s : State) : State :=
  let own (i : Nat) : Bool := i / 512 == n
  let s := { s with regs := s.regs.filter fun x => stringOfKey x.1 != some n }
  let s := s.modScan fun u =>
    { u with strs := eraseKey n u.strs, newest := u.newest.filter fun x => x.1 / 64 != n, held := u.held.filter fun h => h.string != n
             notices := u.notices.filter fun w => w.string != n }
  let cut (c : Checkpoint) : Checkpoint := { c with cells := c.cells.filter fun x => !own x.1 }
  let s := s.modEst fun u =>
    { u with cells := u.cells.filter fun x => !own x.1, strs := eraseKey n u.strs, ckpt0 := cut u.ckpt0, ckpt1 := cut u.ckpt1 }
  let s := s.modLearn fun u => { u with cells := u.cells.filter fun x => !own x.1, strs := eraseKey n u.strs }
  let s := s.modTherm fun u =>
    { u with cells := u.cells.filter fun x => !own x.1, nodes := u.nodes.filter fun x => x.1 / 64 != n, bals := eraseKey n u.bals
             strs := eraseKey n u.strs }
  let s := { s with prot := { s.prot with strs := eraseKey n s.prot.strs } }
  { s with ring := { s.ring with rings := eraseKey n s.ring.rings, nodes := s.ring.nodes.filter fun x => x.1 / 64 != n } }

/-- Estimation and learned values of a string under the new image (R259, R276, R282). -/
def State.adoptString (old : StringRec) (oldChem : Option ChemRec) (s : State) : State :=
  let n := old.string
  match s.stringRec n with
  | none => s.removeString n
  | some r =>
    let chem := r.chem != old.chem || s.chemOf n != oldChem
    let rated := r.ratedCap != old.ratedCap
    let idx := (List.range (min r.cells old.cells)).map fun k => n * 512 + k
    let s := if chem || rated || r.cells != old.cells then s.disqualify n 0x0D true (s.cellIdxOf n) else s
    let s := if chem || rated || r.filter != old.filter then
        let p := match s.chemOf n with | some c => c.p0 | none => []
        let hit := idx.filter s.hasCell
        let s := s.each hit fun i u => u.setCell i fun x => { x with va := 0, vb := 0, p := p }
        s.raise 0x0C0 n 5 hit.length 0
      else s
    let s := if chem || rated then
        s.each idx fun i u => ((u.emptyBatch i false).emptyBatch i true).setCellLearn i fun x => { x with run := 0 }
      else s
    let s := if chem then
        s.each idx fun i u => ((u.wr (Obj.cell.scale i) 0x10001000).setCell i fun x => { x with sRs := 4096, sCt := 4096 })
      else s
    let s := if rated then
        s.each idx fun i u =>
          let cap := (u.learned i).1
          if 2 * cap < r.ratedCap ∨ 6 * r.ratedCap < 5 * cap then
            let u := u.wr (Obj.cell.capacity i) (w32 r.ratedCap)
            if u.hasCell i then u.setCell i fun x => { x with cap := r.ratedCap } else u
          else u
      else s
    let out (i : Nat) : Bool := i / 512 == n && decide (r.cells ≤ i % 512)
    let cut (c : Checkpoint) : Checkpoint := { c with cells := c.cells.filter fun x => !out x.1 }
    let s := { s with regs := s.regs.filter fun x => !(x.1 / 2 ^ 24 == 0x06 && out (x.1 / 2 ^ 7 % 2 ^ 17)) }
    let s := s.modEst fun u => { u with cells := u.cells.filter fun x => !out x.1, ckpt0 := cut u.ckpt0, ckpt1 := cut u.ckpt1 }
    s.modLearn fun u => { u with cells := u.cells.filter fun x => !out x.1 }

/-- The running copy becomes the new image (R67 step 5): everything that does not follow from the image alone is settled against
the old one. -/
def State.adoptCatalogue (s : State) : State :=
  let old := s.catOf
  let allocOld := s.ringAlloc
  let s := s.loadCatalogue
  let strs := match old with | some c => c.strings.map fun r => (r, c.chems.find? fun k => k.profile == r.chem) | none => []
  let s := s.each strs fun r u => u.adoptString r.1 r.2
  let s := s.portsConfigure
  let s := s.each (allPorts.filter fun i => decide (i < 256) && !s.hasString i) fun n u =>
    if u.ringState n = Rs.unconfigured then u else u.wrBits (Obj.port.ring n) 3 0 Rs.unconfigured
  let s := s.loopConfigure (match old with | some c => c.loops | none => [])
  let s := s.modNet fun u => { u with rings := u.rings.filter fun x => allocOld x.1 == s.ringAlloc x.1 }
  let p := s.protUs
  let s := s.wr64 Obj.sched.taskTime (s.taskTime / p * p)
  let s := s.each (List.range 8) State.showPlantPort
  s.mountPorts [0, 1]

/-- CATALOGUE_ACTIVATED (R67 steps 5 to 7, R61, R328, R339): the warm restart ends under the new image; the island verifies it and
takes it up with its function states kept; the module checks its role and returns to STOP, or acts as CMD_RUN. -/
def catalogueActivated (s : State) : State :=
  match s.cat.activation with
  | none => s
  | some a =>
    if a.step ≠ 5 then s
    else
      let user := s.pendingUser
      let s := (s.adoptCatalogue).warmFinish true
      let s := s.islandCheck
      let s := if s.islandVerifies then (if s.island.running then s.islandTake false else s) else s
      let s := s.settlePending.activationEnd 0 user
      let s := (s.modCat fun u => { u with activation := none }).checkRole
      let s := (s.setOutcome Obj.cat.catCmdStatus Oc.done).setTrans .none .serviceDone
      let s := s.enterMode .stop .serviceDone
      s.modSys fun y => { y with autoRun := a.endRun }

def execCatalogueActivated (s : State) : Host.Outcome State Fault Refusal := s.live catalogueActivated

end Sys2Proof.Machine
end

