-- ==== Sys2Proof/Machine/RedLink.lean ====
section
/-!
DEFINITION. The heartbeat paths, the cross-links, the pair time link, self-tests of the pair, and the hierarchy (R173 to R175,
R482 to R488, R501, R509 to R511, R513, R545).
-/

namespace Sys2Proof.Machine

/-! ### The pair time link (R173, R175, R179) -/

/-- The pair time link is lost; where the partner lives, the follower steers from its own domain or holds over (R175). -/
def State.pairLinkLost (s : State) : State :=
  if !s.bit Obj.time.timeStatus 8 then s
  else
    let s := (s.wrBit Obj.time.timeStatus 8 false).wr Obj.time.pairOffset 0x80000000
    if s.leader || !s.partnerAlive then s
    else
      let s := (s.modTime fun u => { u with pairLost := true }).flag Obj.time.timeFlags 4
      let s := s.raise 0x08A 0 (bitsOfInt 32 (clampInt (-2147483648) 2147483647 s.time.pairLast)) 0 0
      trySources s.sources s

/-- A measurement of the pair link, follower minus leader in ns (R173). A follower's first one sets its time in one step (R179);
one after a loss is slewed out with event 0x08B (R175); any other steers the reference by the module's own law. -/
def State.pairMeasure (off : Int) (leaderStatus : Word) (s : State) : State :=
  let p := bitsOfInt 32 (clampInt (-2147483648) 2147483647 off)
  let lost := s.time.pairLost
  let s := ((s.modTime fun u => { u with pairLast := off, pairLost := false }).flag Obj.time.timeStatus 8).wr Obj.time.pairOffset (w32 p)
  if s.leader then s
  else
    let first := !s.bit Obj.time.timeStatus 9
    let s := ((s.setSelected none).setTimeState Ts.pair).wrBit Obj.time.timeStatus 5 (bitAt 5 leaderStatus)
    if first then (s.flag Obj.time.timeStatus 9).stepTime (-off) 0
    else if lost then (s.raise 0x08B 0 p 0 0).startSlew (-off) Ts.pair
    else
      let (w, s) := s.fresh
      s.steer w.toInt

/-! ### Paths (R485, R488) -/

/-- OWN held by both modules as a path returns (R488): unit B takes FATAL. `path` is 1 for the cross-link, 2 for the interlock. -/
def State.dualOwnership (path : Nat) (peerOwn : Bool) (s : State) : State :=
  if s.pairRole && s.sys.own && peerOwn && s.sys.unitB then (s.raise 0x1A9 0 s.unit path 0).fatal .lockstep 0 else s

/-- A path from the partner is audible (R485): `interlock` tells which. A path that returns ends its fault with event 0x1A3. -/
def State.pathHeard (interlock peerOwn : Bool) (s : State) : State :=
  let bit_ := if interlock then 18 else 17
  let was := s.bit Obj.red.redStatus bit_
  let s := s.modRed fun u => if interlock then { u with ilAt := some s.up, heardBooted := true } else { u with xAt := some s.up, heardBooted := true }
  if was then s
  else
    let fault := if interlock then s.red.ilFault else s.red.xFault
    let s := s.wrBit Obj.red.redStatus bit_ true
    let s := s.modRed fun u => if interlock then { u with ilFault := none } else { u with xFault := none }
    let path := if interlock then 2 else 1
    let s := match fault with | some t => s.raise 0x1A3 0 path (min 0xFFFFFFFF ((s.up - t) / 1000000)) 0 | none => s
    s.showPartnerHealth.dualOwnership path peerOwn

/-- PARTNER_LOST as both paths fall silent (R485): event 0x1A1. The trigger waits for its boundary, in BOOT for BOOTED; the kind
of a takeover is settled now (R499). -/
def State.partnerFailed (s : State) : State :=
  let s := s.raise 0x1A1 0 s.hbAge s.sys.mode.code 0
  let synced := s.red.join.isNone && (match s.red.agreedAt with | some t => decide (s.up ≤ t + s.hbTimeout + s.protPeriod) | none => false)
  let s := s.modRed fun u => { u with found := false, takeoverSynced := synced }
  let s := s.modSys fun y => if y.mode = .boot then { y with bootPartnerLost := true } else { y with lossPending := true }
  s.forgetPartner.islandPartnerLost

/-- PATH_SILENT (R485): a path that has been audible falls silent for HB_TIMEOUT. -/
def pathSilent (interlock : Bool) (s : State) : State :=
  let bit_ := if interlock then 18 else 17
  if !s.bit Obj.red.redStatus bit_ then s
  else
    let s := s.wrBit Obj.red.redStatus bit_ false
    if !s.pairRole then s.forgetPartner
    else if s.partnerAlive then
      let s := s.modRed fun u => if interlock then { u with ilFault := some s.up } else { u with xFault := some s.up }
      let s := ((s.count Obj.red.pathFaults 1).flag Obj.red.redFlags 1).raise 0x1A2 0 (if interlock then 2 else 1) 0 0
      if interlock then s.showPartnerHealth else s.forgetPartner.pairLinkLost
    else
      let s := if interlock then s else s.pairLinkLost
      s.partnerFailed

def execPathSilent (interlock : Bool) (s : State) : Host.Outcome State Fault Refusal := s.live (pathSilent interlock)

/-- TOGGLE_EDGE (R484, R485): an edge on the interlock cable, with the peer's OWN line as it then reads. -/
def toggleEdge (peerOwn : Bool) (s : State) : State := if s.sys.cable then (s.pathHeard true peerOwn).showRed else s

def execToggleEdge (peerOwn : Bool) (s : State) : Host.Outcome State Fault Refusal := s.live (toggleEdge peerOwn)

/-- CROSSLINK_DOWN (R485): event 0x1A4; with the other link down too the pair time link is gone (R175). -/
def crosslinkDown (second : Bool) (s : State) : State :=
  let bit_ := 15 + second.toNat
  if !s.bit Obj.red.redStatus bit_ then s
  else
    let s := s.wrBit Obj.red.redStatus bit_ false
    let s := if s.pairRole then (s.flag Obj.red.redFlags 0).raise 0x1A4 0 second.toNat 0 0 else s
    if s.bits Obj.red.redStatus 16 15 = 0 then s.pairLinkLost else s

def execCrosslinkDown (second : Bool) (s : State) : Host.Outcome State Fault Refusal := s.live (crosslinkDown second)

/-- CROSSLINK_UP (R485): event 0x1A5. -/
def crosslinkUp (second : Bool) (s : State) : State :=
  let bit_ := 15 + second.toNat
  if s.bit Obj.red.redStatus bit_ then s
  else
    let s := s.wrBit Obj.red.redStatus bit_ true
    if s.pairRole then s.raise 0x1A5 0 second.toNat 0 0 else s

def execCrosslinkUp (second : Bool) (s : State) : Host.Outcome State Fault Refusal := s.live (crosslinkUp second)

/-! ### Cross-link messages (R482) -/

/-- Takes a number out of the missing ranges. -/
def fillGap (q : Nat) (l : List (Nat × Nat)) : List (Nat × Nat) :=
  l.flatMap fun r =>
    if r.1 ≤ q ∧ q < r.2 then (if r.1 < q then [(r.1, q)] else []) ++ (if q + 1 < r.2 then [(q + 1, r.2)] else []) else [r]

/-- A good cross-link message: the first copy of each MSG_SEQ is used, the second discarded (R482); numbers passed over are
missing (R491). A detached standby whose numbers run on again starts a rejoin at the next boundary (R492). -/
def State.onXMsg (seq : Nat) (peerOwn : Bool) (f : State → State) (s : State) : State :=
  let missing := s.red.rxMissing.any fun r => decide (r.1 ≤ seq ∧ seq < r.2)
  let next := s.red.rxNext.getD seq
  if seq < next && !missing then s
  else
    let runs := s.red.rxNext == some seq && s.red.rxMissing.isEmpty
    let s := s.modRed fun u =>
      if missing then { u with rxMissing := fillGap seq u.rxMissing }
      else { u with rxNext := some (seq + 1), rxMissing := if next < seq then u.rxMissing ++ [(next, seq)] else u.rxMissing }
    let s := s.pathHeard false peerOwn
    let s := if runs && s.red.detached && s.sys.mode == .standby && s.red.join.isNone && s.red.rejoinDue.isNone then
        s.modRed fun u => { u with rejoinDue := some 1 } else s
    f s

/-- A message other than a heartbeat: it serves the modules of a pair. -/
def State.pairMsg (seq : Nat) (f : State → State) (s : State) : State :=
  s.onXMsg seq false fun s => if s.pairRole then f s else s

/-! ### Heartbeats (R483, R484) -/

/-- XLINK_HEARTBEAT_SEND (R484): every 250 µs, in every mode except BOOT. -/
def xlinkHeartbeatSend (s : State) : State :=
  if s.pairRole && s.sys.mode != .boot then s.xSend (.heartbeat s.heartbeat) else s

def execXlinkHeartbeatSend (s : State) : Host.Outcome State Fault Refusal := s.live xlinkHeartbeatSend

/-- PROG_DIFFERS (R386): the PROG_DIGESTs differ, as word 0 of them tells; event 0x14E at entry and exit. -/
def State.showProgDiffers (s : State) : State :=
  let own := w32 (s.catWord fun h => h.progDigest.toNat)
  let peer := match s.red.partner with | some b => b.progDigest | none => own
  let now := s.pairRole && own != peer
  if s.bit Obj.sched.schedStatus 6 = now then s
  else (s.wrBit Obj.sched.schedStatus 6 now).raise 0x14E 0 own.toNat peer.toNat now.toNat

/-- What a module does on its partner's mode as a heartbeat shows it: a partner that wakes wakes it (R23 (k)), a partner that
parks takes its STANDBY along (R23 (j)), a STANDBY that asks for a switch-over has it evaluated by the ACTIVE module (R497), and
a partner that is heard again ends a wait for OWN (R487). -/
def State.followPartner (b : PartnerBeat) (s : State) : State :=
  let mode := bitsOf 3 0 b.mode
  let trans := bitsOf 11 8 b.mode
  let s := if s.sys.mode = .dormant ∧ (trans = Trans.wake.code ∨ (2 ≤ mode ∧ mode ≤ 4)) then s.wakeSource 4 0 else s
  let s := if s.sys.mode = .standby ∧ s.sys.trans = .none ∧ mode = Mode.active.code ∧ trans = Trans.park.code then
      ((s.setTrans .park .cmdPark).modSys fun y => { y with parkedFrom := .standby }).drainPlant else s
  let s := if s.sys.mode = .active ∧ s.sys.trans = .none ∧ mode = Mode.standby.code ∧ trans = Trans.switchOver.code ∧ s.maySwitch = true then
      (s.setTrans .switchOver .cmdSwitch).modSys fun y => { y with switchDue := true, switchToStop := false } else s
  if s.red.ownWaitAt.isSome then
    let s := (s.modRed fun u => { u with ownWaitAt := none }).setTrans .none .partnerLost
    if s.sys.mode = .standby then s.modRed fun u => { u with rejoinDue := some 1 } else s
  else s

/-- XLINK_HEARTBEAT_RECEIVE (R483): the partner's state, compatibility and time; `offset` is this module's measurement of the pair
link, follower minus leader. -/
def xlinkHeartbeat (seq : Nat) (b : PartnerBeat) (offset : Int) (s : State) : State :=
  s.onXMsg seq (bitAt 15 b.mode) fun s =>
    let s := s.modRed fun u => { u with partner := some b }
    if !s.pairRole then s
    else
      let w := compatWord s.heartbeat b
      let s := (((s.wr Obj.red.partnerWord b.healthWord).wr Obj.red.partnerFw b.fw).wr Obj.red.partnerRev b.revision).wr Obj.red.compat (w32 w)
      let s := if s.red.found then s
        else (s.modRed fun u => { u with found := true }).raise 0x1A0 0 (bitAt 14 b.mode).toNat (bitsOf 3 0 b.mode) w
      let level := if bitAt 12 b.healthWord then 2 else (bitAt 11 b.healthWord).toNat
      let s := if s.sys.mode == .active then { s with therm := { s.therm with partnerLevel := level } } else s
      let s := (s.pairMeasure offset b.timeStatus).showFwDiffers.showProgDiffers.showRed
      let s := if s.sys.partnerWait && s.sys.mode == .stop then s.modSys fun y => { y with partnerWait := false, autoRun := true } else s
      s.followPartner b

def execXlinkHeartbeatReceive (seq : BitVec 64) (b : PartnerBeat) (offset : Int) (s : State) : Host.Outcome State Fault Refusal :=
  s.live (xlinkHeartbeat seq.toNat b offset)

/-- ISLAND_MESSAGE_RECEIVE (R332, R337). -/
def execIslandMessageReceive (seq : BitVec 64) (m : IslandMessage) (s : State) : Host.Outcome State Fault Refusal :=
  s.live (State.pairMsg seq.toNat (islandMessageReceive m))

/-! ### Results (R494) -/

/-- RESULT_RECEIVE: the record enters the duplicate-result cache and is acknowledged. -/
def resultReceive (seq : Nat) (r : ResultRec) : State → State := State.pairMsg seq fun s =>
  (s.cachePut r.client.toNat ⟨r.no.toNat, r.type.toNat, r.status.toNat, r.multi, r.payload, s.up⟩).xSend (.resultAck r.client r.no)

def execResultReceive (seq : BitVec 64) (r : ResultRec) (s : State) : Host.Outcome State Fault Refusal := s.live (resultReceive seq.toNat r)

/-- RESULT_ACK_RECEIVE: the reply that waits for it is sent. -/
def resultAckReceive (seq : Nat) (q : ReqHead) : State → State := State.pairMsg seq fun s =>
  match s.net.reqs.find? (fun r => r.client == q.client.toNat && r.no == q.no.toNat && r.ready.isSome) with
  | some r => match r.ready with
    | some (st, payload) => (s.modRed fun u => { u with unrepRun := 0 }).answer r.id st payload
    | none => s
  | none => s

def execResultAckReceive (seq : BitVec 64) (req : ReqHead) (s : State) : Host.Outcome State Fault Refusal :=
  s.live (resultAckReceive seq.toNat req)

/-! ### Self-tests and commands (R501, R513) -/

/-- RING_LOOPBACK_TEST (R501): on a STANDBY, over every 10 s, each CLOSED ring must return at least 99 % of its commands. -/
def ringLoopbackTest (s : State) : State :=
  let now (n : Nat) : Nat × Nat := ((s.portX n).sent + (s.portX (256 + n)).sent, (s.portX n).loopbacks + (s.portX (256 + n)).loopbacks)
  let bad := s.strings.filter fun n =>
    let (s1, r1) := now n
    let (s0, r0) := lookupD (0, 0) s.red.loopBase n
    (s.ringX n).eff == Rs.closed && decide (100 * (r1 - r0) < 99 * (s1 - s0))
  let base := s.strings.map fun n => (n, now n)
  let s := s.modRed fun u => { u with loopBase := base }
  if s.sys.mode = .standby then s.each bad (State.selfTestFailed 1) else s

def execRingLoopbackTest (s : State) : Host.Outcome State Fault Refusal := s.live ringLoopbackTest

/-- MEMORY_SCRUB (R501): the corrected errors of a pass. -/
def memoryScrub (corrected : Nat) (s : State) : State :=
  s.modRed fun u => { u with dramErrs := (s.up, corrected) :: u.dramErrs.filter fun e => decide (s.up ≤ e.1 + 86400000000000) }

def execMemoryScrub (corrected : Nat) (s : State) : Host.Outcome State Fault Refusal := s.live (memoryScrub corrected)

abbrev RedCmd.clear : Nat := 1
abbrev RedCmd.rejoin : Nat := 2

/-- RED_REJOIN (R492, R513): STANDBY only. -/
def redRejoin (s : State) : State :=
  let st := Obj.red.cmdStatus
  if s.sys.mode ≠ .standby then s.refuse st RedCmd.rejoin Oc.wrongMode
  else if s.red.join.isSome || s.red.rejoinDue.isSome then s.refuse st RedCmd.rejoin Oc.busy
  else (s.accept st RedCmd.rejoin Oc.done).modRed fun u => { u with rejoinDue := some 3 }

def execRedRejoin (s : State) : Host.Outcome State Fault Refusal := s.live redRejoin

/-- RED_CLEAR_COUNTERS (R513). -/
def redClearCounters (s : State) : State :=
  (State.clearAll [Obj.red.switchovers, Obj.red.takeovers, Obj.red.detachedCycles, Obj.red.pathFaults, Obj.red.rejoins,
    Obj.red.unreplicated] s).accept Obj.red.cmdStatus RedCmd.clear Oc.done

def execRedClearCounters (s : State) : Host.Outcome State Fault Refusal := s.live redClearCounters

/-! ### Dispatches (R509, R510, R545) -/

def State.dispState (s : State) : Nat := s.bits Obj.hier.hierStatus 3 0

/-- DISPATCH_SEND (R509): the manager's owner sends CYCLE_NO and the committed words of WK_DISP_OUT to a configured worker. -/
def dispatchSend (k : Nat) (s : State) : State :=
  if s.manager && s.owner && s.sys.mode != .boot && decide (1 ≤ k ∧ k ≤ s.redRec.workers) then
    let no := s.net.workerNo
    let s := s.modNet fun u => { u with workerNo := (no + 1) % 2 ^ 32 }
    ((s.count (Obj.wk.wkSent k) 1).count Obj.hier.dispatches 1).emit
      (.worker k Mt.dispatch no (leBytes (s.rd Obj.prot.cycleNo).toNat 4 ++ bytesOfWords (s.rdList (Obj.wk.wkDispOut k) 32)))
  else s

def execDispatchSend (worker : Fin 64) (s : State) : Host.Outcome State Fault Refusal := s.live (dispatchSend worker)

/-- An accepted dispatch applies (R510): DISP_IN, DISP_STATE 1, event 0x1B7 where the worker had been holding. -/
def State.applyDispatch (seq : Word) (l : List Word) (s : State) : State :=
  let was := s.dispState
  let held := match s.red.dispAt with | some t => min 0xFFFFFFFF ((s.up - t) / 1000000) | none => 0
  let s := s.modRed fun u => { u with dispAt := some s.up, dispSeq := some seq.toNat }
  let s := ((State.wrList Obj.hier.dispIn l s).wr Obj.hier.dispSeq seq).count Obj.hier.dispatches 1
  let s := s.wrBits Obj.hier.hierStatus 3 0 1
  if 2 ≤ was then s.raise 0x1B7 0 seq.toNat held 0 else s

/-- DISPATCH (R510, R545): answered OK at once; the owner of a worker takes a higher number for the next boundary. -/
def dispatch (i : Nat) (q : ReqHead) (seq : Word) (l : List Word) : State → State :=
  State.direct i q Mt.dispatch [Rt.w] fun s =>
    if l.length ≠ 32 then s.badRequest i q Mt.dispatch
    else if s.role ≠ 3 ∨ s.owner = false then s.reply i q.client.toNat q.no.toNat Mt.dispatch Rs.notOwner 0 []
    else
      let s := s.reply i q.client.toNat q.no.toNat Mt.dispatch Rs.ok 0 []
      let waiting := s.red.due.findSome? fun x => match x with | .dispatch k _ => some k.toNat | _ => none
      let newer := match waiting, s.red.dispSeq with
        | some k, _ => noAbove seq.toNat k
        | none, some k => noAbove seq.toNat k
        | none, none => true
      if newer then
        s.modRed fun u => { u with due := u.due.filter (fun x => match x with | .dispatch _ _ => false | _ => true) ++ [.dispatch seq l] }
      else s

def execDispatch (session : Fin 68) (req : ReqHead) (seq : BitVec 32) (words : List (BitVec 32)) (s : State) :
    Host.Outcome State Fault Refusal := s.live (dispatch session req seq words)

/-- DISPATCH_HOLD (R510): the first slot without a dispatch. -/
def dispatchHold (s : State) : State :=
  if s.role = 3 ∧ s.dispState = 1 then
    ((s.wrBits Obj.hier.hierStatus 3 0 2).flag Obj.hier.hierFlags 0).raise 0x1B5 0 (s.rd Obj.hier.dispSeq).toNat 0 0
  else s

def execDispatchHold (s : State) : Host.Outcome State Fault Refusal := s.live dispatchHold

/-- DISPATCH_DEFAULT (R510): no dispatch for DISPATCH_HOLD; the safe default is 32 words of 0. -/
def dispatchDefault (s : State) : State :=
  if s.role = 3 ∧ (s.dispState = 1 ∨ s.dispState = 2) then
    let s := (State.wrList Obj.hier.dispIn (List.replicate 32 0) s).wrBits Obj.hier.hierStatus 3 0 3
    ((s.count Obj.hier.dispDefaults 1).flag Obj.hier.hierFlags 1).raise 0x1B6 0 s.dispAge 0 0
  else s

def execDispatchDefault (s : State) : Host.Outcome State Fault Refusal := s.live dispatchDefault

/-! ### Polls (R511) -/

/-- WORKER_POLL (R511): the manager's owner reads the worker's summary items of space 0x10. -/
def workerPoll (k : Nat) (s : State) : State :=
  if s.manager && s.owner && s.sys.mode != .boot && decide (1 ≤ k ∧ k ≤ s.redRec.workers) then
    let no := s.net.workerNo
    (s.modNet fun u => { u with workerNo := (no + 1) % 2 ^ 32 }).emit
      (.worker k Mt.read no (leBytes Obj.hier.hierStatus 4 ++ leBytes 6 2 ++ leBytes 0 2))
  else s

def execWorkerPoll (worker : Fin 64) (s : State) : Host.Outcome State Fault Refusal := s.live (workerPoll worker)

/-- A poll's result applies: silence after three failures in a row, events 0x1B8 and 0x1B9. -/
def State.applyPoll (k : Nat) (r : Option (Byte × Fin 16)) (s : State) : State :=
  let a := Obj.wk.wkStatus k
  let x := s.workerX k
  let put (y : WorkerX) (s : State) : State := s.modRed fun u => { u with workers := upsert k y u.workers }
  match r with
  | some (h, m) =>
    let s := (put { fails := 0, silentAt := none } s).wr a (w32 (h.toNat * 65536 + m.val * 4096 + 1))
    match x.silentAt with
    | some t => s.raise 0x1B9 k (min 0xFFFFFFFF ((s.up - t) / 1000000000)) 0 0
    | none => s
  | none =>
    let s := s.count (Obj.wk.wkPollFails k) 1
    let n := x.fails + 1
    if 3 ≤ n ∧ x.silentAt = none then
      (((put { fails := n, silentAt := some s.up } s).wrBits a 1 0 2).flag Obj.hier.hierFlags 2).raise 0x1B8 k n 0 0
    else put { x with fails := n } s

/-- WORKER_POLL_REPLY (R511): the worker's health and mode, or none after HIER_TIMEOUT; it applies at the next boundary. -/
def workerPollReply (k : Nat) (r : Option (Byte × Fin 16)) (s : State) : State :=
  if s.manager && s.owner && decide (1 ≤ k ∧ k ≤ s.redRec.workers) then
    s.modRed fun u => { u with due := u.due ++ [.poll (Fin.ofNat 64 k) r] }
  else s

def execWorkerPollReply (worker : Fin 64) (result : Option (Byte × Fin 16)) (s : State) : Host.Outcome State Fault Refusal :=
  s.live (workerPollReply worker result)

end Sys2Proof.Machine
end

