-- ==== Sys2Proof/Machine/UpdCmd.lean ====
section
/-!
DEFINITION. Firmware update: page writes, ERASE, VALIDATE, ACTIVATE, trial and SVN floor (R599 to R607, R615 to R617).
-/

namespace Sys2Proof.Machine

abbrev UpdCmd.validate : Nat := 1
abbrev UpdCmd.activate : Nat := 2
abbrev UpdCmd.erase : Nat := 3
abbrev UpdCmd.commitSvn : Nat := 4
abbrev UpdCmd.clear : Nat := 5

/-- The slot that update commands act on: the inactive one, in recovery slot A (R599, R606). -/
def State.updSlot (s : State) : Nat := if s.sys.recovery then 0 else 1 - s.upd.running

/-- The slot is being checked or erased, or an activation runs (R601, R604). -/
def State.updBusy (s : State) : Bool :=
  (s.upd.slot s.updSlot).state == 2 || (s.upd.slot s.updSlot).state == 5 || s.upd.activation.isSome

/-! ### Upload, erase and validation (R601) -/

/-- FW_PAGE_WRITE: one blank page of the inactive slot, from an SV session holding F. -/
def fwPageWrite (i : Nat) (q : ReqHead) (page : Nat) (b : List Byte) : State → State :=
  State.admitReq i q Mt.imageWrite [] fun s =>
    let no (status : Nat) (s : State) : State := s.refuseReq i q Mt.imageWrite status
    let k := s.updSlot
    let x := s.upd.slot k
    if s.sessPort i ≠ 8 then no Rs.wrongPort s
    else if !s.hasRight i Rt.f then no Rs.noRight s
    else if b.length ≠ 4096 then s.badRequest i q Mt.imageWrite
    else if s.updBusy then no Rs.busy s
    else if x.factory || hasKey page x.pages then no Rs.notBlank (s.raise 0x1EA (k + 1) (4096 * page) 0 0)
    else
      let s := s.setFwSlot k fun y => { y with pages := upsert page b y.pages, state := 1, reject := 0, previous := false, head := none }
      no Rs.ok (if x.pages = [] then s.raise 0x1E1 (k + 1) (4096 * page) 0 0 else s)

def execFwPageWrite (session : Fin 68) (req : ReqHead) (page : Fin 131072) (bytes : List Byte) (s : State) :
    Host.Outcome State Fault Refusal := s.liveRom (fwPageWrite session req page bytes)

/-- UPD_ERASE. -/
def updErase (s : State) : State :=
  if s.updBusy then s.refuse Obj.upd.cmdStatus UpdCmd.erase Oc.busy
  else
    (s.accept Obj.upd.cmdStatus UpdCmd.erase Oc.inProgress).setFwSlot s.updSlot fun x =>
      { x with state := 5, reject := 0, previous := false, head := none }

def execUpdErase (s : State) : Host.Outcome State Fault Refusal := s.liveRom updErase

/-- UPD_ERASE_DONE: the slot is EMPTY; event 0x1E9. -/
def updEraseDone (s : State) : State :=
  let k := s.updSlot
  if (s.upd.slot k).state = 5 then
    let s := s.setFwSlot k fun x => { x with factory := false, pages := [], state := 0 }
    (s.setOutcome Obj.upd.cmdStatus Oc.done).raise 0x1E9 (k + 1) 131072 0 0
  else s

def execUpdEraseDone (s : State) : Host.Outcome State Fault Refusal := s.liveRom updEraseDone

/-- UPD_VALIDATE. -/
def updValidate (s : State) : State :=
  let k := s.updSlot
  let c := Obj.upd.cmdStatus
  if s.updBusy then s.refuse c UpdCmd.validate Oc.busy
  else if (s.upd.slot k).state = 0 then s.refuse c UpdCmd.validate Oc.notReady
  else (s.accept c UpdCmd.validate Oc.inProgress).setFwSlot k fun x => { x with state := 2, head := some x.header }

def execUpdValidate (s : State) : Host.Outcome State Fault Refusal := s.liveRom updValidate

/-- Steps 1 to 9 and 11 of R600 on a slot. -/
def State.fwVerdict (s : State) (k : Nat) : Nat :=
  let r := s.fwSlotCheck k
  if r ≠ 0 then r else if s.fwServesCatalogue (s.upd.slot k).header then 0 else 0x0B

/-- A slot fails a check: INVALID with its code, REJECT_SEEN, event 0x1E3. -/
def State.rejectFw (k code : Nat) (s : State) : State :=
  let v := (s.upd.slot k).header.version
  ((s.setFwSlot k fun x => { x with state := 4, reject := code }).flag Obj.upd.updFlags 0).raise 0x1E3 (k + 1) code v 0

/-- UPD_VALIDATE_DONE: VALID with event 0x1E2, or INVALID. -/
def updValidateDone (s : State) : State :=
  let k := s.updSlot
  if (s.upd.slot k).state = 2 then
    match s.fwVerdict k with
    | 0 =>
      let h := (s.upd.slot k).header
      let s := s.setFwSlot k fun x => { x with state := 3, reject := 0, head := some h }
      (s.setOutcome Obj.upd.cmdStatus Oc.done).raise 0x1E2 (k + 1) h.version h.svn h.length
    | code => (s.rejectFw k code).setOutcome Obj.upd.cmdStatus Oc.rejected
  else s

def execUpdValidateDone (s : State) : Host.Outcome State Fault Refusal := s.liveRom updValidateDone

/-! ### Activation (R602 to R604, R606) -/

/-- ACTIVATE in recovery (R606): the slot is checked, selected and started through R583. -/
def State.romActivate (s : State) : State :=
  let c := Obj.upd.cmdStatus
  match s.fwSlotCheck 0 with
  | 0 =>
    let s := (s.accept c UpdCmd.activate Oc.done).modUpd fun u =>
      let (a, b) := if selected u.selA u.selB = 0 then (u.selA, u.selB) else reselect u.selA u.selB 0
      { u with selA := a, selB := b, slotA := { u.slotA with state := 3, reject := 0 } }
    if s.sys.transTrig = .powerUp then
      s.coldStart s.sys.restart.cause 0 (some (s.bits Obj.pwr.pwrStatus 1 0)) false
    else s.coldStart s.sys.restart.cause 2 none false
  | code => (s.accept c UpdCmd.activate Oc.rejected).setFwSlot 0 fun x => { x with state := 4, reject := code }

/-- UPD_ACTIVATE (R602): step 1 of R603 enters SERVICE. -/
def updActivate (force : Bool) (s : State) : State :=
  let c := Obj.upd.cmdStatus
  let no (oc : Nat) : State := s.refuse c UpdCmd.activate oc
  let x := s.upd.slot s.updSlot
  let major (v : Nat) : Nat := v / 2 ^ 24 % 256
  let apart := match s.red.partner with | some b => major b.fw.toNat != major x.header.version | none => false
  if s.sys.recovery then (if s.updBusy then no Oc.busy else if x.state = 0 then no Oc.notReady else s.romActivate)
  else if s.sys.trans != .none then no Oc.busy
  else if s.sys.mode != .stop && s.sys.mode != .standby && s.sys.mode != .service then no Oc.wrongMode
  else if s.updBusy then no Oc.busy
  else if x.state ≠ 3 then no Oc.notReady
  else if s.pairRole && s.partnerAlive && apart && !force then no Oc.notReady
  else
    let inService := s.sys.mode == .service
    let s := s.accept c UpdCmd.activate Oc.inProgress
    let s := if inService then s else s.enterService
    (s.modUpd fun u => { u with activation := some ⟨2, u.runningFw.version, inService, 0, 0⟩ }).setTrans .serviceOp .cmdService

def execUpdActivate (_session : Fin 68) (force : Bool) (s : State) : Host.Outcome State Fault Refusal := s.liveRom (updActivate force)

/-- The activation ends with SERVICE_DONE in the mode of its step 1. -/
def State.endFwActivation (inService : Bool) (s : State) : State :=
  let s := (s.modUpd fun u => { u with activation := none }).setTrans .none .serviceDone
  if inService then s else s.leaveService

/-- FW_COPY_CHECKED (R603 steps 2 and 3): the copy is checked; the pause follows at the next boundary, after the quiet notice of a
ring commander. -/
def fwCopyChecked (s : State) : State :=
  match s.upd.activation with
  | none => s
  | some a =>
    if a.step ≠ 2 then s
    else
      let k := s.updSlot
      match s.fwVerdict k with
      | 0 => s.modUpd fun u => { u with activation := some { a with step := 3, quiet := if s.commander then 5 else 0 } }
      | code =>
        let s := ((s.rejectFw k code).setOutcome Obj.upd.cmdStatus Oc.rejected).raise 0x1E5 0 2 code 0
        s.endFwActivation a.inService

def execFwCopyChecked (s : State) : Host.Outcome State Fault Refusal := s.live fwCopyChecked

/-- The boundary at which the pause begins (R603 steps 4 to 6): the recorder is flushed, the selection flips with TRIAL, MR7 is
extended, and the module restarts warm. -/
def State.fwPauseStep (s : State) : State :=
  match s.upd.activation with
  | none => s
  | some a =>
    if a.step ≠ 3 then s
    else if 0 < a.quiet then s.modUpd fun u => { u with activation := some { a with quiet := a.quiet - 1 } }
    else
      let k := s.updSlot
      let s := s.flushAll.takeFw k
      let s := s.setFwSlot (1 - k) fun x => { x with previous := true }
      let s := s.modUpd fun u =>
        { u with trial := true, trialUsed := 0, trialAt := s.up, activation := some { a with step := 6, pauseAt := s.up } }
      (s.extend 7 Mk.fwActivation s.upd.runningFw.digest).warmStart .fwPause 6

/-- The CYCLE of this boundary carries QUIET (R155). -/
def State.quietNow (s : State) : Bool := match s.upd.activation with | some a => a.step == 3 && decide (0 < a.quiet) | none => false

/-- FW_ACTIVATED (R603 steps 6 and 7, R27): the new image runs, or where its locked copy fails step 10 of R600 the old one again by
a fallback; SERVICE_DONE follows, or ACTIVE where the partner was lost during the pause. -/
def fwActivated (lockedOk dramOk : Bool) (s : State) : State :=
  match s.upd.activation with
  | none => s
  | some a =>
    if s.sys.trans ≠ .fwPause then s
    else
      let us := (s.up - a.pauseAt) / 1000
      let s := if lockedOk then s else s.fwFallback (1 - s.upd.running) 2
      let s := s.warmFinish dramOk
      let s := if lockedOk then
          ((s.count Obj.upd.activations 1).setOutcome Obj.upd.cmdStatus Oc.done).raise 0x1E4 0 a.oldVersion s.upd.runningFw.version us
        else s.setOutcome Obj.upd.cmdStatus Oc.rejected
      if s.sys.lossPending then
        let s := (s.modUpd fun u => { u with activation := none }).setTrans .none .partnerLost
        let t := ((s.modSys fun y => { y with lossPending := false }).modRed fun u => { u with takeoverSynced := false }).takeover false
        if t.sys.mode = .active then t else s
      else s.endFwActivation a.inService

def execFwActivated (lockedOk dramOk : Bool) (s : State) : Host.Outcome State Fault Refusal := s.live (fwActivated lockedOk dramOk)

/-! ### Trial and floor (R605, R607) -/

/-- TRIAL_PASSED (R605): event 0x1E7. -/
def trialPassed (s : State) : State :=
  if s.upd.trial then
    ((s.modUpd fun u => { u with trial := false }).flag Obj.upd.updFlags 2).raise 0x1E7 0 s.upd.runningFw.version 0 0
  else s

def execTrialPassed (s : State) : Host.Outcome State Fault Refusal := s.live trialPassed

/-- COMMIT_SVN (R607): the floor rises to the running image's SVN. -/
def commitSvn (s : State) : State :=
  let c := Obj.upd.cmdStatus
  if s.upd.activation.isSome then s.refuse c UpdCmd.commitSvn Oc.busy
  else if s.upd.trial then s.refuse c UpdCmd.commitSvn Oc.notReady
  else
    let old := s.upd.floor
    let new := max old s.upd.runningFw.svn
    let s := (s.accept c UpdCmd.commitSvn Oc.done).modUpd fun u => { u with floor := new }
    let s := (s.measureSvn s.upd.runningFw.svn).extend 7 Mk.svnCommit (Config.sha384 (leBytes new 1))
    s.raise 0x1E8 0 old new 0

def execCommitSvn (s : State) : Host.Outcome State Fault Refusal := s.live commitSvn

/-- UPD_CLEAR_COUNTERS (R615). -/
def updClearCounters (s : State) : State :=
  if s.upd.activation.isSome then s.refuse Obj.upd.cmdStatus UpdCmd.clear Oc.busy
  else (State.clearAll [Obj.upd.activations, Obj.upd.fallbacks] s).accept Obj.upd.cmdStatus UpdCmd.clear Oc.done

def execUpdClearCounters (s : State) : Host.Outcome State Fault Refusal := s.live updClearCounters

end Sys2Proof.Machine
end

