-- ==== Sys2Proof/Machine/HostWrite.lean ====
section
/-!
DEFINITION. The write of host objects: what R8, the modes and the ranges of the object tables refuse, and what an accepted
write does (R8, R490, R527, R528, R661).
-/

namespace Sys2Proof.Machine

/-! ### What a write is refused for -/

/-- A number within bounds. -/
def within (lo hi v : Nat) : Bool := decide (lo ≤ v) && decide (v ≤ hi)

/-- A binary32 above 0, infinity included. -/
def B32.positive (w : Word) : Bool := !B32.isNan w && !B32.neg w && !B32.isZero w

/-- The fields of a configuration item lie within the ranges its table gives; a reserved field may hold anything. -/
def State.rangeOk (s : State) (k : ObjKind) (inst item : Nat) (w : Word) : Bool :=
  let b3 := bitsOf 31 24 w
  let b2 := bitsOf 23 16 w
  let b1 := bitsOf 15 8 w
  let b0 := bitsOf 7 0 w
  let signed (v : Nat) : Int := signedOf 8 v
  match k, item with
  | .time, 7 => decide (1 ≤ b3) && decide (6 ≤ b2) && decide (1 ≤ b1) && decide (bitsOf 1 0 w ≤ 2)
  | .str, 2 => decide (1 ≤ b3) && decide (1 ≤ b2) && within 50 100 b1
  | .str, 3 => s.windowOk inst (bitsOf 31 16 w) && decide (bitsOf 9 0 w ≤ 990) && bitsOf 9 0 w % 10 == 0
  | .str, 0x41 => within 20 100 b3 && within 1 100 b2 && decide (1 ≤ b1) && within 1 60 (bitsOf 7 1 w)
  | .imp, 6 => within 10 100 b3 && within 1 10 b2 && decide (1 ≤ b1) && decide (1 ≤ b0)
  | .imp, 7 => within 1 50 b3 && decide (1 ≤ b2) && decide (1 ≤ b1)
  | .imp, 8 => within 40 90 b3 && within 5 240 b2 && decide (-20 ≤ signed b1) && decide (signed b1 < signed b0) && decide (signed b0 ≤ 60)
  | .imp, 9 => within 10 100 b3 && within 1 60 b2 && within 1 50 b1 && decide (1 ≤ bitsOf 7 4 w)
  | .imp, 0xA => within 50 100 b3 && within 11 40 b2 && within 1 240 b1 && decide (10 ≤ b0)
  | .bal, 2 => balCfgOk w
  | .bal, 3 => within 10 10000 (bitsOf 31 16 w) && within 1 100 b1 && decide (1 ≤ bitsOf 7 4 w)
  | .thm, 2 => within 1 20 b3 && within 5 100 b2 && decide (b1 ≤ 100) && decide (b0 ≤ b1)
  | .prot, 3 => decide (b3 ≤ 99) && within 1 8 (bitsOf 23 20 w) && within 1 100 b1 && decide (10 ≤ b0)
  | .safe, 6 => within 1 60 b0
  | .safe, 0x1F => decide ((s.rd Obj.safe.logAck).toNat ≤ w.toNat) && decide (w.toNat ≤ (s.rd Obj.safe.logNewest).toNat)
  | .sched, 0xC => w.toNat % 4 == 0
  | .loop, 9 => gainOk 0 w
  | .loop, 0xA | .loop, 0xB => gainOk 1 w
  | .loop, 0xC => B32.finite w && B32.positive w
  | .loop, 0x13 => within 3 20 b3 && decide (1 ≤ b2)
  | .loop, 0x14 | .loop, 0x16 => B32.positive w
  | .loop, 0x15 => !B32.isNan w && (B32.isZero w || !B32.neg w)
  | .net, 4 => decide (1 ≤ b3) && within 1 60 b2
  | _, _ => true

/-- Items of a loop that a running tune holds (R413). -/
def tuneHolds (item : Nat) : Bool := decide (9 ≤ item ∧ item ≤ 0xB) || decide (0x13 ≤ item ∧ item ≤ 0x16)

/-- The window's own refusals (R390). -/
def State.varRefusal (s : State) (i item n : Nat) : Nat :=
  let off := (s.rd (sessKey i Obj.sched.varOffset)).toNat + 4 * (item - 0x40)
  match s.varDecl (s.rd (sessKey i Obj.sched.varSelect)).toNat with
  | none => Rs.noObject
  | some d => if !d.writable then Rs.wrongAccess else if off + 4 * (n - 1) < d.size then Rs.ok else Rs.badValue

/-- The STATUS with which an item refuses a value, OK where it takes it: the access code and the mode (R8), then what its own
chapter says. `n` words of the request begin at this item. -/
def State.itemRefusal (s : State) (i : Nat) (k : ObjKind) (acc : Access) (inst item n : Nat) (w : Word) : Nat :=
  let stopped := s.sys.mode == .stop || s.sys.mode == .service
  if acc = .ro ∨ acc = .rc then Rs.wrongAccess
  else if acc = .rwl ∧ stopped = false then Rs.wrongMode
  else if acc = .rwp ∧ s.authorised i = false then Rs.notAuthorised
  else if k = .sched ∧ 0x40 ≤ item then s.varRefusal i item n
  else if k = .loop ∧ tuneHolds item = true ∧ (s.loopX (inst - 256)).core.tune.isSome then Rs.busy
  else if k = .dout ∧ item = 4 ∧ s.gangHead (inst - 512) ≠ inst - 512 then Rs.wrongAccess
  else if k = .ao ∧ item = 4 ∧ s.aoUsed (inst - 640) = false then Rs.notReady
  else if k = .key ∧ item = 1 then (s.keyRefusal i (inst - 16)).getD Rs.ok
  else if s.rangeOk k inst item w then Rs.ok
  else Rs.badValue

/-! ### Command items (R661) -/

/-- The command items; the status item of each is the next item. -/
def cmdItem (k : ObjKind) (item : Nat) : Bool :=
  match k with
  | .mod => item == 7
  | .cat => item == 0
  | .time => item == 5
  | .str | .bal | .prot => item == 4
  | .cell => item == 2 || item == 0x20
  | .imp => item == 0x13
  | .thm | .pstr => item == 3
  | .st | .key => item == 1
  | .port | .node | .safe | .sq | .sched | .task | .eng | .loop | .io | .di | .dout | .ao | .bus | .red | .net | .rcd | .arc
  | .sec | .upd | .pwr => item == 2
  | _ => false

/-- CANCEL's word: whether the frame of a buffer has begun on the bus. -/
def State.sofSent (s : State) (b k : Nat) : Bool :=
  match (s.busX b).bufs.find? (fun x => x.1 == k) with
  | some x => x.2.started
  | none => false

/-- A command of a field channel (R456, R459 to R461). -/
def ioCommand (ch : IoChannel) (c : Nat) (s : State) : State :=
  match c with
  | 1 => ioRetire ch s
  | 2 => ioReinstate ch s
  | 3 => ioClearCounters (some ch) s
  | c => s.refuse (ioChan ch).cmdStatus c Oc.badValue

/-- A word written to a command item, MODE_CMD apart: every item's codes, as its own table gives them. `host` is the request
and target that a node transaction answers; `multi` marks a write of scope 1 or 2. -/
def runCommand (i : Nat) (k : ObjKind) (inst item : Nat) (w : Word) (multi : Bool) (host : Option (Nat × Nat)) (s : State) : State :=
  let c := bitsOf 7 0 w
  let bad (st : Nat) : State := s.refuse st c Oc.badValue
  match k with
  | .cat => match c with
    | 1 => catValidate s
    | 2 => catActivate i (bitAt 8 w) (bitAt 9 w) s
    | 3 => catErase s
    | _ => bad Obj.cat.catCmdStatus
  | .time => match c with
    | 1 => timeStep s
    | 2 => timeAccept s
    | 3 => timeRecalibrate (bitsOf 31 16 w) s
    | 4 => timeClearCounters s
    | _ => bad Obj.time.cmdStatus
  | .port => match c with
    | 1 => portRetire inst s
    | 2 => portReinstate inst s
    | 3 => portRetrain inst s
    | 4 => portClearCounters inst s
    | _ => bad (Obj.port.cmdStatus inst)
  | .node => nodeCommand (inst / 64) (inst % 64) c multi host s
  | .str => if c = 1 then strClearCounters inst s else bad (Obj.str.cmdStatus inst)
  | .cell =>
    if item = 2 then
      match c with
      | 1 => resetCov inst s
      | 2 => setSoc inst (bitsOf 31 16 w) s
      | 3 => cellClearCounters inst s
      | _ => bad (Obj.cell.cmdStatus inst)
    else
      match c with
      | 1 => resetScales inst s
      | 2 => resetCapacity inst s
      | 3 => setCapacity inst (bitsOf 31 8 w) s
      | 4 => clearLearning inst s
      | _ => bad (Obj.cell.learnCmdStatus inst)
  | .imp => if c = 1 then impClearCounters s else bad Obj.imp.cmdStatus
  | .bal => match c with
    | 1 => balClearCounters inst s
    | 2 => endEpisodes inst s
    | _ => bad (Obj.bal.cmdStatus inst)
  | .thm => if c = 1 then thermClearCounters (inst - 256) s else bad (Obj.thm.cmdStatus (inst - 256))
  | .prot => if c = 1 then protClearCounters s else bad Obj.prot.cmdStatus
  | .pstr => match c with
    | 1 => resetTrip (inst - 256) s
    | 2 => pstrClearCounters (inst - 256) s
    | _ => bad (Obj.pstr.cmdStatus (inst - 256))
  | .safe => match c with
    | 1 => safeTrip s
    | 2 => newNonce i s
    | 3 => safeOpen i s
    | 4 => safeClose i s
    | 5 => setPassword i s
    | 6 => clearPassword i s
    | 7 => safeClearCounters s
    | _ => bad Obj.safe.cmdStatus
  | .sq => if c = 1 then sqRearm (inst - 96) s else bad (Obj.sq.cmdStatus (inst - 96))
  | .sched => if c = 1 then schedClearCounters s else bad Obj.sched.cmdStatus
  | .task => match c with
    | 1 => taskClearCounters (inst - 64) s
    | 2 => resume (inst - 64) s
    | _ => bad (Obj.task.cmdStatus (inst - 64))
  | .eng => if c = 1 then engineClearCounters s else bad Obj.eng.cmdStatus
  | .loop =>
    let q := inst - 256
    match c with
    | 1 => loopAuto q s
    | 2 => loopManual q s
    | 3 => loopOff q s
    | 4 => loopTune q s
    | 5 => loopAccept q s
    | 6 => loopReject q s
    | 7 => loopClearCounters q s
    | _ => bad (Obj.loop.cmdStatus q)
  | .io => if c = 3 then ioClearCounters none s else bad Obj.io.cmdStatus
  | .di => ioCommand (.di (Fin.ofNat 256 (inst - 256))) c s
  | .dout => ioCommand (.dout (Fin.ofNat 128 (inst - 512))) c s
  | .ao => ioCommand (.ao (Fin.ofNat 64 (inst - 640))) c s
  | .bus =>
    let b := inst - 16
    match c with
    | 1 => busRetire b s
    | 2 => busReinstate b s
    | 3 => busClearCounters b s
    | 4 => busRecover b s
    | 5 => busCancel b (bitsOf 15 8 w) (s.sofSent b (bitsOf 15 8 w)) s
    | _ => bad (Obj.bus.cmdStatus b)
  | .red => match c with
    | 1 => redClearCounters s
    | 2 => redRejoin s
    | _ => bad Obj.red.cmdStatus
  | .net => match c with
    | 1 => netClearCounters s
    | 2 => endSession (bitsOf 31 16 w) s
    | _ => bad Obj.net.cmdStatus
  | .rcd => match c with
    | 1 => recFlush s
    | 2 => recClearCounters s
    | _ => bad Obj.rcd.cmdStatus
  | .arc => match c with
    | 1 => arcClearCounters s
    | 2 => query i s
    | 3 => cancelQuery i s
    | _ => bad Obj.arc.cmdStatus
  | .st =>
    let p := inst - 16
    match c with
    | 1 => stRetire p s
    | 2 => stReinstate p s
    | 3 => stFormat p s
    | 4 => stClearCounters p s
    | _ => bad (Obj.st.cmdStatus p)
  | .sec => match c with
    | 1 => quote i (bitsOf 15 8 w) s
    | 2 => secClearCounters s
    | _ => bad Obj.sec.cmdStatus
  | .key => keyCmdWrite i (inst - 16) w s
  | .upd => match c with
    | 1 => updValidate s
    | 2 => updActivate (bitAt 8 w) s
    | 3 => updErase s
    | 4 => commitSvn s
    | 5 => updClearCounters s
    | _ => bad Obj.upd.cmdStatus
  | .pwr => match c with
    | 1 => pwrClearCounters s
    | 2 => measureHoldup s
    | _ => bad Obj.pwr.cmdStatus
  | _ => s

/-! ### The write of an item -/

/-- The bits of an item that hold its fields; reserved bits of it read 0 (R6). -/
def fieldMask (k : ObjKind) (item : Nat) : Word :=
  match k, item with
  | .time, 7 => 0xFFFFFF03
  | .str, 2 => 0xFFFFFFC0
  | .str, 3 => 0xFFFF03FF
  | .imp, 7 => 0xFFFFFF01
  | .imp, 9 => 0xFFFFFFF0
  | .prot, 3 => 0xFFF0FFFF
  | .net, 4 => 0xFFFF0001
  | .rcd, 4 => 0x000FFFFF
  | .arc, 4 => 0x000000FF
  | .arc, 0xA => 0x000FFFFF
  | .dout, 5 => 1
  | _, _ => 0xFFFFFFFF

/-- The write of one item that nothing refuses: the STATUS of the target, or none where a later step gives it (a mode command
at its boundary, a node transaction at its end, R531). -/
def State.putItem (i : Nat) (k : ObjKind) (acc : Access) (a : Nat) (w : Word) (req : Option Nat) (multi : Bool) (s : State) :
    Option Nat × State :=
  let inst := a / 2 ^ 7 % 2 ^ 17
  let item := a % 128
  if k = .mod ∧ item = 7 then (none, s.modSys fun y => { y with modeCmds := y.modeCmds ++ [⟨w, i, req⟩] })
  else if cmdItem k item then
    let s := runCommand i k inst item w multi (if k = .node then req.map fun id => (id, inst) else none) s
    let o := s.bits (a + 1) 15 8
    (if k = .node ∧ o = Oc.inProgress then none else some (statusOfOutcome o), s)
  else if acc = .w1c then
    let m : Word := if k = .cell ∧ item = 0x2B then w &&& 0xF else w
    (some Rs.ok, s.wr a (s.rd a &&& ~~~m))
  else
    match k, item with
    | .cert, _ => let (st, s) := s.certWrite i item w; (some st, s)
    | .bal, 2 => (some Rs.ok, balCfgWrite inst w s)
    | .pstr, 2 => (some Rs.ok, contactReqWrite (inst - 256) w s)
    | .safe, 6 => (some Rs.ok, safeCfgWrite i w s)
    | .safe, 0x1F => (some Rs.ok, logAckWrite i w s)
    | .loop, 4 => (some Rs.ok, spWrite (inst - 256) w s)
    | .loop, 9 => (some Rs.ok, loopGains (inst - 256) 0 w s)
    | .loop, 0xA => (some Rs.ok, loopGains (inst - 256) 1 w s)
    | .loop, 0xB => (some Rs.ok, loopGains (inst - 256) 2 w s)
    | .loop, 0x13 => (some Rs.ok, s.wr a ((s.rd a &&& 0xFF00) ||| (w &&& 0xFFFF0001)))
    | .dout, 4 => (some Rs.ok, s.commitDo (inst - 512) w.toNat)
    | .ao, 4 => (some Rs.ok, s.commitAo (inst - 640) w)
    | _, _ =>
      if k = .sched ∧ 0x40 ≤ item then
        let off := (s.rd (sessKey i Obj.sched.varOffset)).toNat + 4 * (item - 0x40)
        let v := (s.rd (sessKey i Obj.sched.varSelect)).toNat
        let size := match s.varDecl v with | some d => d.size | none => 0
        (some Rs.ok, s.writeVar v off ((leBytes w.toNat 4).take (size - off)))
      else (some Rs.ok, s.wr (itemKey i a) (w &&& fieldMask k item))

/-- Items written one after another from an address; the first STATUS that is not OK stands. -/
def State.putItems (i : Nat) (req : Option Nat) (multi : Bool) : Nat → List Word → State → Option Nat × State
  | _, [], s => (some Rs.ok, s)
  | a, w :: l, s =>
    match s.objAt a with
    | none => State.putItems i req multi (a + 1) l s
    | some (k, d) =>
      let (r, s) := s.putItem i k d.acc a w req multi
      let (q, s) := State.putItems i req multi (a + 1) l s
      (match r, q with
        | none, _ => none
        | some st, q => if st = Rs.ok then q else some st, s)

/-- The first refusal of a list of items, before any of them changes (R527: whole or not at all). -/
def State.itemsRefusal (s : State) (i : Nat) : Nat → List Word → Nat
  | _, [] => Rs.ok
  | a, w :: l =>
    match s.objAt a with
    | none => Rs.noObject
    | some (k, d) =>
      let st := s.itemRefusal i k d.acc (a / 2 ^ 7 % 2 ^ 17) (a % 128) (l.length + 1) w
      if st = Rs.ok then s.itemsRefusal i (a + 1) l else st

/-- One target of a write: its STATUS, or none where it comes later. -/
def applyTarget (i a : Nat) (values : List Word) (req : Option Nat) (multi : Bool) (s : State) : Option Nat × State :=
  let st := s.itemsRefusal i a values
  if st ≠ Rs.ok then (some st, s)
  else
    let s := if a / 2 ^ 24 = 0x0B then s.touchSafety i else s
    s.putItems i req multi a values

/-- REGISTER_WRITE: a host object written, at the commit point of R490, without a request of its own. -/
def registerWrite (i a : Nat) (w : Word) (s : State) : State := (applyTarget i a [w] none false s).2

def execRegisterWrite (session : Fin 68) (addr value : BitVec 32) (s : State) : Host.Outcome State Fault Refusal :=
  s.ringLive (registerWrite session addr.toNat value)

/-! ### WRITE under the boot ROM (R606) -/

/-- In recovery UPD_CMD ERASE, VALIDATE and ACTIVATE act as they arrive; nothing else is written. -/
def romWrite (i : Nat) (q : ReqHead) (addr scope : Nat) (values : List Word) : State → State :=
  State.admitReq i q Mt.write [Rt.w, Rt.f] fun s =>
    match values with
    | [w] =>
      if addr ≠ Obj.upd.updCmd ∨ scope ≠ 0 ∨ within 1 3 (bitsOf 7 0 w) = false then s.refuseReq i q Mt.write Rs.noObject
      else
        let (id, s) := s.openReq (.session i) q.client.toNat q.no.toNat Mt.write addr false false 1
        let s := runCommand i .upd 0 2 w false none s
        s.targetDone id 0 (statusOfOutcome (s.bits Obj.upd.cmdStatus 15 8))
    | _ => s.refuseReq i q Mt.write Rs.noObject

def execWrite (session : Fin 68) (req : ReqHead) (addr : BitVec 32) (scope group : Byte) (values : List (BitVec 32)) (s : State) :
    Host.Outcome State Fault Refusal :=
  s.liveRom fun s =>
    if s.sys.recovery then romWrite session req addr.toNat scope.toNat values s
    else write session req addr.toNat scope.toNat group.toNat values s

/-! ### The host writes of a commit point (R370, R490, R528) -/

/-- Whether a staged write applies at this boundary: 50 µs after its acceptance, or at the boundary that the active module's
agreement names. -/
def State.stagedDue (s : State) (h : HostStaged) : Bool :=
  match h.cycle with
  | some c => (s.rd Obj.prot.cycleNo).toNat == c
  | none => decide (h.at_ + 50000 ≤ s.up)

/-- A target of the request, if there is one, has its STATUS. -/
def State.answerTarget (req : Option Nat) (inst : Nat) (st : Option Nat) (s : State) : State :=
  match req, st with
  | some id, some v => s.targetDone id inst v
  | _, _ => s

/-- One staged write takes effect. -/
def applyStaged (h : HostStaged) (s : State) : State :=
  let s := match h.req with | some id => s.modReq id fun r => { r with committed := true } | none => s
  let multi := match h.req with
    | some id => (match s.net.reqs.find? (fun r => r.id == id) with | some r => r.multi | none => false)
    | none => false
  match h.write with
  | .job w => (s.commitWrite false 2 w).answerTarget h.req 0 (some Rs.ok)
  | .target a l =>
    let (st, s) := applyTarget h.session a l h.req multi s
    s.answerTarget h.req (a / 2 ^ 7 % 2 ^ 17) st
  | .ring k op => s.submitOp k (.host (h.req.getD (2 ^ 64))) op
  | .key slot cmd b =>
    let s := s.keyCommand h.session slot (bitsOf 7 0 cmd) (bitsOf 11 8 cmd) (bitsOf 23 16 cmd) b
    s.answerTarget h.req (slot + 16) (some (statusOfOutcome (s.bits (Obj.key.cmdStatus slot) 15 8)))
  | w =>
    let (st, p, s) := s.applySub w
    match h.req with
    | some id => s.finish id st p
    | none => s

/-- The host writes due at this commit point, in the order accepted; with them the bytes they change of the retained area. -/
def State.hostWrites (s : State) : Nat × State :=
  let due := s.sched.hostStaged.filter s.stagedDue
  let n := s.retainedBytes (due.filterMap fun h => match h.write with | .job w => some w | _ => none)
  let s := s.modSched fun u => { u with hostStaged := u.hostStaged.filter fun h => !s.stagedDue h }
  (n, s.each due applyStaged)

end Sys2Proof.Machine
end

