-- ==== Sys2Proof/Machine/Commit.lean ====
section
/-!
DEFINITION. The commit point of a protection cycle (R25, R316, R370, R383, R491, R493): results, mode changes, ring commands,
outputs and releases, in that order, on a module that commits; and the cycle of a module that commits nothing.
-/

namespace Sys2Proof.Machine

/-! ### Ring commands (R128, R138, R155, R316) -/

/-- CYCLE (R138): BAL_ENABLE is 0 in LOCKOUT alone (R295); QUIET announces a firmware pause (R155). -/
def State.cyclePayload (quiet : Bool) (s : State) : List Byte :=
  let flags := quiet.toNat + 2 * (s.sys.mode != .lockout).toNat + 4 * (s.sys.mode == .dormant).toNat
  leBytes (s.rd Obj.prot.cycleNo).toNat 4 ++ leBytes (shortOf s.now) 4 ++ leBytes flags 1 ++ leBytes 0 3

/-- CYCLE on every ring, the first command of a commit. -/
def State.cycleCommands (quiet : Bool) (s : State) : State :=
  s.each s.strings fun n s => s.commitPlain n Op.cycle .all 0 (s.cyclePayload quiet)

/-- The CONTACTOR commands of a commit, before every other (R316). -/
def State.contactorCommands (s : State) : State :=
  let s := s.contactorsFirst
  commitQueue (s.ring.queue.filter fun r => r.opcode == Op.contactor) [] s

/-- What the scan scheduler and the planner commit: SAMPLE, CAPTURE and BALANCE. -/
def State.scanCommands (s : State) : State :=
  let s := s.each s.strings fun n s => (s.scanCommit n).captureCommit n
  let l := s.ring.staged
  let s := { s with ring := { s.ring with staged := [] } }
  let s := s.modRed fun u => { u with balDone := l.map fun r => (r.string, crc32c r.payload) }
  s.each l fun r s => s.commitPlain r.string r.opcode r.scope r.target r.payload

/-- Ring states declared since the last boundary take effect for the scan scheduler and the Weir (R96). -/
def State.ringsEffective (s : State) : State :=
  s.each s.strings fun n s => s.setRingX n fun x => { x with eff := s.ringState n, effReachW := s.reachW n, effReachE := s.reachE n }

/-- The ring commands of a commit. `alone`: nothing but CYCLE leaves (R491, R492, R504). While ring commands have stopped for a restart,
and on a listener, none leaves. -/
def State.ringCommit (alone quiet : Bool) (s : State) : State :=
  let s := { s with ring := { s.ring with indexUsed := [] } }
  if !s.commander || s.restarting then { s with ring := { s.ring with staged := [] } }
  else
    let s := s.cycleCommands quiet
    if alone then
      { s with ring := { s.ring with staged := [], queue := s.ring.queue.filter fun r => opLocal r.opcode || s.red.ownWaitAt.isSome } }
    else ((s.contactorCommands).scanCommands).commitTxns

/-! ### State records that replace a standby's own (R255, R280, R296) -/

/-- One REFRESH applied at a commit. -/
def State.applyRefresh (r : RefreshPart) (s : State) : State :=
  match r with
  | .est n cells learn =>
    let s := s.each learn fun x s => s.setCellLearn x.1 fun _ => x.2
    s.refreshCells n cells
  | .capture o =>
    let s := s.modLearn fun u => { u with waiting := u.waiting.filter fun x => !(x.string == o.string && x.s0 == o.s0) }
    s.useOutcome o
  | .planner n cells nodes bal payload =>
    let s := s.each cells fun x s => (s.setCellBal x.1 fun _ => x.2).showBalCell x.1
    let s := s.each nodes fun x s => s.setNodeBal x.1 fun _ => x.2
    let s := s.setStrBal n fun _ => bal
    let s := { s with ring := { s.ring with staged := s.ring.staged.filter fun r => !(r.string == n.val && r.opcode == Op.balance) } }
    if payload.isEmpty then s else s.stagePlain n Op.balance .all 0 payload

/-- The REFRESH content that a standby holds takes effect. -/
def State.applyRefreshes (s : State) : State :=
  let l := s.red.refresh
  (s.modRed fun u => { u with refresh := [] }).each l State.applyRefresh

/-! ### The rest of a commit, after results and mode changes -/

/-- What a boundary does with rings, outputs, exchange rings, health and releases once results and mode are settled (R316 steps 3 to 5).
`commits` is false where nothing commits (R491); `hold` leaves the output stages as they are. -/
def State.afterMode (alone commits hold quiet wasOwner wasSwitch : Bool) (x : CycleSeen) (s : State) : State :=
  if s.sys.mode == .boot || s.restarting then s.updateHealth.showRed
  else
    let s := s.each s.strings fun n s => (s.fastCauses n (s.bit (Obj.thm.thermStatus n) 11)).scanRate n
    let s := if !commits || wasSwitch then s else s.each s.strings State.protBoundary
    let s := s.ringCommit alone quiet
    let s := s.ringsEffective
    let s := s.each s.strings State.showDetect
    let s := s.canBoundary (!wasOwner && s.sys.own)
    let s := if hold then s else (s.aoHandover fun c => x.partnerAo.any fun k => k.val == c).driveOutputs
    let s := (s.applyStretch).showModes 3
    let s := if !commits then s
      else
        let ops := s.net.taskOps
        let s := (s.modNet fun u => { u with taskOps := [] }).each ops State.taskRingOp
        s.bindEntries.publish.copySealed.endAnchorSessions
    (s.updateHealth.showRed.islandReport).releaseTasks

/-! ### A module that commits -/

/-- The outcomes of AGREE_COMMIT, by task (R383). -/
def outcomeOf (c : AgreeCommit) (t : Nat) : Option JobOutcome := (c.outcomes.find? fun x => x.1.val == t).map Prod.snd

/-- Output values and object writes of the active module's jobs, on a lockstep standby (R383). -/
def State.applyAgreed (c : AgreeCommit) (s : State) : State :=
  let s := s.each c.dos fun d s => s.commitDo d.1 d.2.toNat
  let s := s.each c.aos fun a s => s.commitAo a.1 a.2
  s.each c.objs fun o s => s.commitObject o.1.toNat o.2

/-- A commit point (R316): host writes and jobs, on a standby with the agreement's outcomes; mode changes; the rest. The outcomes of
the jobs answer with the state. -/
def State.commitPoint (x : CycleSeen) (agreed : Option AgreeCommit) (s : State) : List (Nat × JobOutcome) × State :=
  let before := s.ring.nextId
  let wasOwner := s.sys.own
  let quiet := s.quietNow
  if s.sys.mode == .boot || s.restarting then ([], (s.modeStep x.peerOwn x.peerAfter before).updateHealth.showRed)
  else
    let joining := s.red.join.isSome && agreed.isSome
    let s := { s with ring := { s.ring with cmdBytes := [] } }
    let s := (s.modSched fun u => { u with objs := [] }).modIo fun u => { u with shut := false }
    let (hostBytes, s) := s.hostWrites
    let s := s.applyRefreshes.estCommit
    let (outs, s) := s.commitJobs (fun t => match agreed with | some c => outcomeOf c t | none => none) hostBytes
    let s := match agreed with | some c => s.applyAgreed c | none => s
    let wasSwitch := s.switchNow
    let s := (s.modeStep x.peerOwn x.peerAfter before).fwPauseStep
    let joining := joining && s.red.join.isSome
    let alone := joining || (s.sys.mode == .standby && s.bit Obj.red.redStatus 26)
    (outs, (s.afterMode alone true joining quiet wasOwner wasSwitch x).commandedStep)

/-! ### A module that commits nothing (R487, R491, R492) -/

/-- Every job whose commit point it is lapses (R221, R491); nothing was withdrawn, so no event 0x0A8 names a sample. -/
def State.lapseDue (s : State) : State :=
  let t := s.taskTime
  s.each s.tasks fun r s => match (s.taskX r.task).job with
    | some j => if j.commitAt = t then ((s.skipRelease r.task 3).dropJob r.task 4).cleanEnd r.task else s
    | none => s

/-- A cycle of a standby that holds its commits: mode changes still apply, and CYCLE leaves alone. Where the module leaves STANDBY its
outputs follow its new mode, else they keep their values. -/
def State.heldCycle (x : CycleSeen) (s : State) : State :=
  let wasOwner := s.sys.own
  let before := s.ring.nextId
  let s := { s with ring := { s.ring with cmdBytes := [] } }
  let s := s.lapseDue
  let s := s.modeStep x.peerOwn x.peerAfter before
  let held := s.sys.mode == .standby || s.red.ownWaitAt.isSome
  (s.afterMode held (!held) held false wasOwner false x).commandedStep

/-- Whether this module, in this cycle, awaits the active module's AGREE_COMMIT: a standby (R491), and a joining module that computes from
its copy (R505). -/
def State.followsAgreement (s : State) : Bool :=
  (match s.red.join with | some j => j.gotModule | none => s.sys.mode == .standby) &&
    s.red.ownWaitAt.isNone && s.partnerAlive && !s.sys.lossPending

/-- A transfer whose copies no longer follow the active module starts over with a new identity exchange. -/
def State.restartJoin (s : State) : State :=
  match s.red.join with
  | some j => (s.modRed fun u => { u with join := some { j with gotModule := false, strings := [] }, commitDue := false }).sendIdentity
  | none => s

/-- A detached cycle (R491): counted, event 0x1AA once per run; cause 1 a late AGREE_COMMIT, 2 a gap in MSG_SEQ. A joining module that is
no standby yet only starts its transfer over. -/
def State.detachedCycle (cause : Nat) (s : State) : State :=
  let s := s.restartJoin
  let s := s.modRed fun u => { u with commitDue := false, rxMissing := [] }
  if s.sys.mode != .standby then s.heldCycle s.red.seen
  else
  let first := s.red.detachedRun == 0
  let s := s.modRed fun u => { u with detached := true, detachedRun := u.detachedRun + 1 }
  let s := ((s.count Obj.red.detachedCycles 1).flag Obj.red.redStatus 25).flag Obj.red.redFlags 3
  let s := if first then s.raise 0x1AA 0 (s.rd Obj.prot.cycleNo).toNat cause 0 else s
  s.heldCycle s.red.seen

end Sys2Proof.Machine
end

