-- ==== Sys2Proof/Machine/RedAgree.lean ====
section
/-!
DEFINITION. The agreement as a standby takes it (R217, R490 to R493), detached cycles (R491), the state transfer (R385, R505, R597) and
refreshed records (R255, R280, R296).
-/

namespace Sys2Proof.Machine

/-! ### AGREE_INPUT (R490) -/

/-- A host write as AGREE_INPUT carried it: key material is opened under the pair key (R597), and dropped where that fails. -/
def State.openWrite (s : State) (w : HostWrite) : Option HostWrite :=
  match w with
  | .key k cmd b =>
    if b.isEmpty then some (.key k cmd [])
    else match s.red.pairKey with
      | none => none
      | some pk =>
        let c := (b.drop 12).take (b.length - 28)
        match Config.gcmOpen pk (b.take 12) [] c (b.drop (b.length - 16)) with
        | some m => some (.key k cmd m)
        | none => none
  | w => some w

/-- One agreed input, on a module that follows the agreement. -/
def State.agreedInput (i : AgreeInput) (s : State) : State :=
  match i with
  | .di c v edges =>
    let s := s.each edges fun e s => s.diChange c (e.toNat % 2 == 1) e.toNat
    if s.bit (Obj.di.diStatus c) 0 = v then s else s.diValue c v
  | .can b entries => s.agreeFrames b (entries.map fun e => (e.1, e.2.toNat))
  | .fsk c bytes => s.each bytes fun x s => s.fskByte c x.1 x.2
  | .dispatch seq words => s.applyDispatch seq words
  | .poll k r => s.applyPoll k r
  | .write cycle w => match s.openWrite w with
    | some w => s.modSched fun u => { u with hostStaged := u.hostStaged ++ [⟨68, s.up, some cycle.toNat, none, w⟩] }
    | none => s
  | .trigger t => match s.taskRec t with
    | some r => s.triggerTask r
    | none => s
  | .random t bytes => s.modRed fun u => { u with randoms := u.randoms ++ [(t.val, bytes)] }

/-- AGREE_INPUT_RECEIVE (R490). -/
def agreeInputReceive (seq : Nat) (i : AgreeInput) : State → State := State.pairMsg seq fun s =>
  if s.lockstepStandby then s.agreedInput i else s

def execAgreeInputReceive (seq : BitVec 64) (i : AgreeInput) (s : State) : Host.Outcome State Fault Refusal :=
  s.live (agreeInputReceive seq.toNat i)

/-! ### AGREE_SNAPSHOT and the close of a snapshot (R205, R217) -/

/-- AGREE_SNAPSHOT_RECEIVE (R217): the active module's list decides the standby's snapshot; what it confirms goes on to its consumers. -/
def agreeSnapshot (n no : Nat) (l : List AgreedNode) (s : State) : State :=
  if s.lockstepStandby then
    let t := if (s.strX n).snaps.any fun q => q.no == no then (s.weirClose n no).2 else s
    match t.settleHeld n no l with
    | (some q, t) => (t.confirmedSince s n).useSnapshot n q
    | (none, t) => t
  else s

def execAgreeSnapshotReceive (seq : BitVec 64) (string : Fin 256) (sampleNo : BitVec 32) (nodes : List AgreedNode) (s : State) :
    Host.Outcome State Fault Refusal := s.ringLive (State.pairMsg seq.toNat (agreeSnapshot string sampleNo.toNat nodes))

/-- The confirmed nodes of a snapshot, as AGREE_SNAPSHOT lists them. -/
def agreedNodes (q : Snap) : List AgreedNode :=
  (q.samples.filter fun x => x.conf == .confirmed).map fun x => ⟨Fin.ofNat 64 x.p, w32 (crc32c x.payload), x.payload⟩

/-- SNAPSHOT_CLOSE (R205, R215, R217): the snapshot is decided, its consumers run, and an active module sends the list. On a module that
follows the agreement the consumers wait for that list. -/
def snapshotClose (n no : Nat) (s : State) : State :=
  match s.weirClose n no with
  | (some q, t) =>
    let t := if t.sys.mode == .active then t.xSend (.agreeSnapshot (Fin.ofNat 256 n) (w32 no) (agreedNodes q)) else t
    (t.confirmedSince s n).useSnapshot n q
  | (none, t) => t.settleNotices

def execSnapshotClose (string : Fin 256) (sampleNo : BitVec 32) (s : State) : Host.Outcome State Fault Refusal :=
  s.ringLive (snapshotClose string sampleNo.toNat)

/-! ### AGREE_COMMIT (R491, R493) -/

/-- The digest of the pair-space commands of this commit (R493). -/
def State.commandDigest (s : State) : Nat := crc32c s.ring.cmdBytes

/-- A standby's digest against the active module's (R493): event 0x1B3, HEALTH_WORD bit 16, and a rejoin at the next boundary. -/
def State.checkCommands (digest : Word) (s : State) : State :=
  if s.commandDigest = digest.toNat then s
  else
    (s.modRed fun u => { u with digestBad := true, rejoinDue := some 2 }).raise 0x1B3 0 s.commandDigest digest.toNat
      (s.rd Obj.prot.cycleNo).toNat

/-- AGREE_COMMIT_RECEIVE (R491): the commit of a module that holds every message up to it. -/
def agreeCommit (c : AgreeCommit) (s : State) : State :=
  if !s.red.commitDue || s.rd Obj.prot.cycleNo != c.cycle then s
  else if !s.red.rxMissing.isEmpty then s.detachedCycle 2
  else
    let s := s.modRed fun u => { u with commitDue := false }
    if s.red.detached && s.red.join.isNone then s.heldCycle s.red.seen
    else
      let compare := s.red.join.isNone && !s.bit Obj.red.redStatus 26
      let s := s.modNet fun u => { u with prpIdentity := c.prpIdentity.toNat }
      let s := (s.commitPoint s.red.seen (some c)).2
      let s := if compare then s.checkCommands c.cmdDigest else s
      let s := s.modRed fun u => { u with agreedAt := some s.up, modeAgreed := c.mode.map Fin.val, switchAgreed := c.switch }
      match c.switch with
      | some stop =>
        if s.sys.mode = .standby ∧ s.sys.trans ≠ .resync then
          (s.modSys fun y => { y with switchDue := true, switchToStop := stop }).setTrans .switchOver .cmdSwitch
        else s
      | none => s

def execAgreeCommitReceive (seq : BitVec 64) (c : AgreeCommit) (s : State) : Host.Outcome State Fault Refusal :=
  s.ringLive (State.pairMsg seq.toNat (agreeCommit c))

/-! ### AGREE_DIGESTS (R255, R280, R296, R307, R384) -/

/-- CYCLE_DIGEST (R384, R386, R504): a difference starts a program resynchronisation. -/
def State.checkCycle (d : Word) (s : State) : State :=
  let own := s.rd Obj.sched.cycleDigest
  if own = d ∨ s.bit Obj.sched.schedStatus 6 = true ∨ s.bit Obj.red.redStatus 26 = true ∨ s.sched.resync = true then s
  else
    let s := ((s.count Obj.sched.digestMismatches 1).flag Obj.sched.schedFlags 2).raise 0x14C 0 own.toNat d.toNat (s.taskTime % 2 ^ 32)
    ((s.modSched fun u => { u with resync := true }).flag Obj.sched.schedStatus 7).raise 0x14D 0 1 0 0

/-- EST_DIGEST of one string (R255); its records are replaced when the active module's copies have arrived. -/
def State.checkEst (n : Nat) (d : Word) (s : State) : State :=
  let own := s.estDigest n
  if own = d.toNat then s else s.raise 0x0C9 n own d.toNat (s.cell (n * 512)).estSample

/-- The BALANCE payloads of the commit (R296); a string without one stands as an empty payload. -/
def State.checkBalance (l : List (Nat × Nat)) (s : State) : State :=
  let none_ := crc32c []
  let names := s.strings.filter fun n => l.any (fun x => x.1 == n) || s.red.balDone.any (fun x => x.1 == n)
  s.each names fun n s =>
    let own := lookupD none_ s.red.balDone n
    let act := lookupD none_ l n
    if own = act then s else (s.flag (Obj.bal.balFlags n) 4).raise 0x0E4 n own act 0

/-- AGREE_DIGESTS_RECEIVE (R490). -/
def agreeDigests (d : AgreeDigests) (s : State) : State :=
  if s.lockstepStandby && s.red.join.isNone && !s.red.detached then
    let s := s.checkCycle d.cycleDigest
    let s := s.each d.est fun e s => s.checkEst e.1 e.2
    let s := (s.modRed fun u =>
      { u with captures := u.captures ++ d.captures.map fun c => (c.1.val, c.2.1.toNat, c.2.2.1.toNat, c.2.2.2.toNat) }).settleCaptures
    let s := s.checkBalance (d.balance.map fun b => (b.1.val, b.2.toNat))
    s.modTherm fun u => { u with partnerLevel := d.level, partnerStretch := d.stretch }
  else if s.lockstepStandby then s.modTherm fun u => { u with partnerLevel := d.level, partnerStretch := d.stretch }
  else s

def execAgreeDigestsReceive (seq : BitVec 64) (d : AgreeDigests) (s : State) : Host.Outcome State Fault Refusal :=
  s.live (State.pairMsg seq.toNat (agreeDigests d))

/-! ### Detached cycles (R491) -/

/-- DETACHED: 6 µs after the boundary its AGREE_COMMIT is missing. -/
def detached (cause : Nat) (s : State) : State := if s.red.commitDue then s.detachedCycle (if cause = 2 then 2 else 1) else s

def execDetached (cause : Fin 3) (s : State) : Host.Outcome State Fault Refusal := s.ringLive (detached cause)

/-- DETACHED_DO_OFF: 110 µs into a detached cycle every DO goes off where the partner's toggle was heard within the last 100 µs. -/
def detachedDoOff (s : State) : State :=
  let heard := match s.red.ilAt with | some t => decide (s.up ≤ t + 100000) | none => false
  if s.sys.mode == .standby && s.red.detached && heard then (s.modIo fun u => { u with shut := true }).driveOutputs else s

def execDetachedDoOff (s : State) : Host.Outcome State Fault Refusal := s.live detachedDoOff

/-! ### The identity exchange of a transfer (R505 step 1, R597) -/

/-- SERIAL as bytes. -/
def State.serialBytes (s : State) : List Byte := bytesOfWords (s.rdList Obj.mod.serial 4)

/-- The partner's certificate is checked and the pair key derived; the answer is false where the check fails, with event 0x1ED. -/
def State.derivePairKey (seq : Nat) (cert serial : List Byte) (s : State) : Bool × State :=
  match Config.deviceKey Config.deviceCa cert with
  | none => (false, (((s.count Obj.sec.certRejects 1).flag Obj.sec.secFlags 1).raise 0x1ED 0 7 9 0))
  | some point =>
    let own := (s.serialBytes, leBytes s.red.idSeq 8)
    let peer := (serial, leBytes seq 8)
    let (a, b) := if s.sys.unitB then (peer, own) else (own, peer)
    let key := Config.hkdf384 (Config.ecdhSecret Config.deviceScalar point) (a.1 ++ b.1 ++ a.2 ++ b.2)
    (true, s.modRed fun u => { u with pairKey := some key })

/-- The partner's identity: the active module answers with its own and begins to send its state; a joining module whose check fails does
not join. -/
def State.takeIdentity (seq : Nat) (cert serial : List Byte) (s : State) : State :=
  if s.sys.mode = .active then
    let (ok, s) := s.sendIdentity.derivePairKey seq cert serial
    if ok then s.modRed fun u => { u with sending := some (256 :: s.strings) } else s
  else
    match s.red.join with
    | none => s
    | some _ =>
      let (ok, s) := s.derivePairKey seq cert serial
      if ok then s else (s.dropJoin.setTrans .none s.sys.transTrig).modeFailed Oc.notReady

/-! ### The module-wide state (R385, R505 step 3) -/

/-- A table with the entries of another put into it. -/
def mergeInto {α : Type} (old new : List (Nat × α)) : List (Nat × α) := new.foldl (fun l x => upsert x.1 x.2 l) old

/-- Whether an item belongs to the module-wide copy: pair-agreed configuration, trips and CONTACT_REQ, tasks and loops (`programs`),
outputs, dispatches. -/
def moduleItem (programs : Bool) (a : Nat) : Bool :=
  let i := a % 128
  match kindOf (a / 2 ^ 24 % 256) (a / 2 ^ 7 % 2 ^ 17) with
  | some .str | some .imp | some .bal | some .thm | some .prot =>
    a < 2 ^ 32 && (match kindOf (a / 2 ^ 24 % 256) (a / 2 ^ 7 % 2 ^ 17) with | some k => pairAgreedItem k (a / 2 ^ 7 % 2 ^ 17) i 0 | none => false)
  | some .pstr => decide (a < 2 ^ 32)
  | some .task | some .loop => programs && decide (a < 2 ^ 32)
  | some .dout | some .ao => decide (a < 2 ^ 32) && i == 4
  | some .wk => decide (a < 2 ^ 32) && decide (0x10 ≤ i)
  | some .hier => decide (a < 2 ^ 32) && decide (Obj.hier.dispIn % 128 ≤ i)
  | _ => false

/-- Items of a copy replace those that `p` names. -/
def State.takeItems (p : Nat → Bool) (l : List (BitVec 32 × Word)) (s : State) : State :=
  let s := { s with regs := s.regs.filter fun x => !p x.1 }
  s.each (l.filter fun x => p x.1.toNat) fun x s => s.wr x.1.toNat x.2

/-- The items of this module that `p` names, as a copy carries them. -/
def State.itemsOf (p : Nat → Bool) (s : State) : List (BitVec 32 × Word) := (s.regs.filter fun x => p x.1).map fun x => (w32 x.1, x.2)

/-- Program data of a copy (R385): all of it where the images agree, else retained variables by VAR, SIZE and TYPE, with event 0x14A. -/
def State.takePrograms (m : ModuleCopy) (s : State) : State :=
  let s := s.each s.tasks fun r s => (s.dropJob r.task 0).setTaskX r.task fun _ => { TaskX.initial with lastRn := s.rcd.nextRn }
  let vars := m.vars.map fun v => (v.1.toNat, v.2)
  let s := s.modSched fun u => { u with withdrawn := [], applied := [], resync := false }
  if !s.bit Obj.sched.schedStatus 6 then
    let s := s.modSched fun u => { u with vars := mergeInto [] vars }
    let s := s.each m.triggers fun t s => s.setTaskX t.1 fun x => { x with triggers := t.2 }
    { s with loops := { s.loops with slots := mergeInto [] (m.loops.map fun l => (l.1.val, l.2)) } }
  else
    let recs := match s.catOf with | some c => c.retained | none => []
    let mapped := recs.filterMap fun r =>
      if m.retained.any fun q => q.1.toNat == r.var && q.2.1 == r.size && q.2.2 == r.type then vars.find? fun v => v.1 == r.var else none
    ((s.modSched fun u => { u with vars := mergeInto [] mapped }).loopStart false).retainedInit 4 mapped.length

/-- The key material of slots 16 to 31 (R597). -/
def State.takeKeys (l : List (Nat × Nat × List Byte)) (s : State) : State :=
  s.each (l.filter fun k => decide (16 ≤ k.1 ∧ k.1 < 32)) fun k s =>
    match s.openWrite (.key k.1 0 k.2.2) with
    | some (.key slot _ b) => s.putKey slot k.2.1 0 b
    | _ => s

/-- The module-wide state takes its place on the joining module. -/
def State.takeModule (m : ModuleCopy) (s : State) : State :=
  match s.red.join with
  | none => s
  | some j =>
    let same := !s.bit Obj.sched.schedStatus 6
    let s := (s.wr Obj.prot.cycleNo m.cycleNo).wr64 Obj.sched.taskTime m.taskTime.toNat
    let s := (s.takeItems (moduleItem same) m.items).takePrograms m
    let s := (s.wrBits Obj.sched.schedStatus 3 2 2).takeKeys m.keys
    let s := s.modNet fun u =>
      { u with
        prpPub := m.prpPub.toNat, prpIdentity := m.prpIdentity.toNat, cache := m.cache, subs := m.subs
        rings := mergeInto u.rings (m.rings.map fun r => (r.1.toNat, r.2)) }
    let s := s.modSys fun y => { y with phase := m.phase }
    let s := s.modTherm fun u => { u with partnerLevel := m.level }
    let s := s.modSched fun u => { u with hostStaged := u.hostStaged.filter fun h => h.cycle.isNone }
    let s := { s with ring := { s.ring with queue := s.ring.queue.filter fun r => opLocal r.opcode } }
    s.modRed fun u => { u with join := some { j with gotModule := true, strings := [] }, randoms := [], refresh := [], captures := [] }

/-! ### The state of a string (R505 step 4) -/

/-- Whether an item belongs to a string's copy: estimation, learning, planner, thermal and protection state, beside its configuration. -/
def stringItem (n : Nat) (a : Nat) : Bool :=
  decide (a < 2 ^ 32) && stringOfKey a == some n && !moduleItem true a &&
    (match kindOf (a / 2 ^ 24 % 256) (a / 2 ^ 7 % 2 ^ 17) with
      | some .str | some .cell | some .impS | some .bal | some .thm => true
      | _ => false)

/-- A checkpoint with the entries of a string replaced. -/
def Checkpoint.take (n : Nat) (l : List (Nat × (Int × Int))) (c : Checkpoint) : Checkpoint :=
  { c with cells := mergeInto (c.cells.filter fun x => x.1 / 512 != n) l }

/-- A string's state takes its place on the joining module. -/
def State.takeString (n : Nat) (c : StringCopy) (s : State) : State :=
  match s.red.join with
  | none => s
  | some j =>
    if !j.gotModule then s
    else
      let mine {α : Type} (l : List (Nat × α)) : List (Nat × α) := l.filter fun x => x.1 / 512 != n
      let s := s.takeItems (stringItem n) c.items
      let newest0 := decide (s.est.ckpt1.seq ≤ s.est.ckpt0.seq)
      let s := s.modEst fun u =>
        { u with
          cells := mergeInto (mine u.cells) (c.cells.filter fun x => x.1 / 512 == n)
          ckpt0 := if newest0 then u.ckpt0.take n c.checkpoint else u.ckpt0
          ckpt1 := if newest0 then u.ckpt1 else u.ckpt1.take n c.checkpoint }
      let s := s.setStrEst n fun _ => c.est
      let s := s.modLearn fun u => { u with cells := mergeInto (mine u.cells) (c.learn.filter fun x => x.1 / 512 == n), waiting := u.waiting.filter fun o => o.string != n }
      let s := (s.setStrLearn n fun _ => c.strLearn).setStrX n fun x => { x with frames := c.frames, record := none }
      let s := s.modTherm fun u =>
        { u with
          cells := mergeInto (mine u.cells) (c.balCells.filter fun x => x.1 / 512 == n)
          nodes := mergeInto (u.nodes.filter fun x => x.1 / 64 != n) (c.balNodes.filter fun x => x.1 / 64 == n) }
      let s := ((s.setStrBal n fun _ => c.bal).setStrTherm n fun _ => c.therm).setStrProt n fun _ => c.prot
      s.modRed fun u => { u with join := some { j with strings := j.strings.filter (· != n) ++ [n] } }

/-- TRANSFER_RECEIVE (R505). -/
def transferReceive (seq : Nat) (p : TransferPart) : State → State := State.pairMsg seq fun s =>
  match p with
  | .identity cert serial => s.takeIdentity seq cert serial
  | .module_ m => s.takeModule m
  | .string n c => s.takeString n c

def execTransferReceive (seq : BitVec 64) (part : TransferPart) (s : State) : Host.Outcome State Fault Refusal :=
  s.live (transferReceive seq.toNat part)

/-- REFRESH_RECEIVE (R255, R280, R296): the content takes effect at the standby's next commit. -/
def refreshReceive (seq : Nat) (r : RefreshPart) : State → State := State.pairMsg seq fun s =>
  if s.lockstepStandby then s.modRed fun u => { u with refresh := u.refresh ++ [r] } else s

def execRefreshReceive (seq : BitVec 64) (part : RefreshPart) (s : State) : Host.Outcome State Fault Refusal :=
  s.live (refreshReceive seq.toNat part)

/-! ### What the active module sends of its state (R505) -/

/-- The module-wide copy of this boundary. -/
def State.moduleCopy (s : State) : ModuleCopy × State :=
  let recs := match s.catOf with | some c => c.retained | none => []
  let kept := recs.filter fun r => !(s.sched.vars.any fun v => v.1 == r.var)
  let vars := s.sched.vars ++ kept.map fun r => (r.var, s.varBytes r.var)
  let slots := (List.range 16).map fun k => k + 16
  let (keys, s) := (slots.filter fun k => s.keyKind k != 0).foldl (fun (acc : List (Nat × Nat × List Byte) × State) k =>
    let t := acc.2
    let b := if (t.secretOf k).isEmpty then t.keyPublic k else t.secretOf k
    match t.sealWrite (.key k 0 b) with
    | (.key _ _ c, t') => (acc.1 ++ [(k, t.keyKind k, c)], t')
    | (_, t') => (acc.1, t')) ([], s)
  ({ cycleNo := s.rd Obj.prot.cycleNo
     taskTime := BitVec.ofNat 64 s.taskTime
     prpPub := BitVec.ofNat 16 s.net.prpPub
     prpIdentity := BitVec.ofNat 16 s.net.prpIdentity
     items := s.itemsOf (moduleItem true)
     vars := vars.map fun v => (w32 v.1, v.2)
     retained := recs.map fun r => (w32 r.var, r.size, r.type)
     triggers := s.tasks.map fun r => (Fin.ofNat 64 r.task, (s.taskX r.task).triggers)
     loops := s.loops.slots.map fun l => (Fin.ofNat 512 l.1, l.2)
     cache := s.net.cache
     rings := s.net.rings.map fun r => (BitVec.ofNat 20 r.1, r.2)
     subs := s.net.subs
     keys := keys
     phase := s.sys.phase
     level := Fin.ofNat 3 s.modLevel }, s)

/-- A string's copy of this boundary. -/
def State.stringCopy (n : Nat) (s : State) : StringCopy :=
  let mine {α : Type} (l : List (Nat × α)) : List (Nat × α) := l.filter fun x => x.1 / 512 == n
  { items := s.itemsOf (stringItem n)
    cells := mine s.est.cells
    checkpoint := mine (if s.est.ckpt1.seq ≤ s.est.ckpt0.seq then s.est.ckpt0.cells else s.est.ckpt1.cells)
    est := s.strEst n
    learn := mine s.learn.cells
    strLearn := s.strLearn n
    frames := (s.strX n).frames
    balCells := mine s.therm.cells
    balNodes := s.therm.nodes.filter fun x => x.1 / 64 == n
    bal := s.strBal n
    therm := s.strTherm n
    prot := s.strProt n }

/-- One part of a transfer in progress leaves after each boundary's agreement: the module-wide copy first, then the strings in turn. -/
def State.sendTransfer (s : State) : State :=
  match s.red.sending with
  | none => s
  | some [] => s.modRed fun u => { u with sending := none }
  | some (k :: l) =>
    let s := s.modRed fun u => { u with sending := if l.isEmpty then none else some l }
    if k = 256 then
      let (m, s) := s.moduleCopy
      s.xSend (.transfer (.module_ m))
    else s.xSend (.transfer (.string (Fin.ofNat 256 k) (s.stringCopy k)))

end Sys2Proof.Machine
end

