-- ==== Sys2Proof/Machine/Boundary.lean ====
section
/-!
DEFINITION. The protection-cycle boundary (R25, R315 to R317, R361), and what the active module of a pair sends at it (R490).
-/

namespace Sys2Proof.Machine

/-! ### What the active module sends (R490) -/

/-- The inputs of the ending cycle: DI values and edges, CAN entries, FSK bytes, dispatches and poll results. -/
def State.boundaryInputs (s : State) : List AgreeInput :=
  let dis := (List.finRange 256).filter fun c => (s.fieldRec 0 c.val).isSome
  let fsk := (List.finRange 64).filter fun c => s.io.newFsk.any fun x => x.1 == c.val
  (dis.map fun c => .di c (s.bit (Obj.di.diStatus c) 0) ((s.io.newEdges.filter fun e => e.1 == c.val).map fun e => BitVec.ofNat 64 e.2)) ++
  (s.buses.map fun b => .can (Fin.ofNat 16 b) ((s.busX b).ownRx.map fun e => (e.frame, BitVec.ofNat 64 e.time))) ++
  (fsk.map fun c => .fsk c ((s.io.newFsk.filter fun x => x.1 == c.val).map Prod.snd)) ++
  s.red.due

/-- AGREE_INPUT of a boundary; the active module takes dispatches and poll results at the same point. -/
def State.sendInputs (s : State) : State :=
  let s := s.each s.boundaryInputs fun i s => s.xSend (.agreeInput i)
  let s := s.modIo fun u => { u with newEdges := [], newFsk := [] }
  s.each s.buses fun b s => s.setBusX b fun x => { x with ownRx := [] }

/-- AGREE_COMMIT of a boundary whose jobs ended as `outs` says. -/
def State.agreeCommitOf (outs : List (Nat × JobOutcome)) (s : State) : AgreeCommit where
  cycle := s.rd Obj.prot.cycleNo
  outcomes := outs.map fun x => (Fin.ofNat 64 x.1, x.2)
  dos := ((List.finRange 128).filter fun c => (s.fieldRec 1 c.val).isSome).map fun c => (c, s.rd (Obj.dout.doValue c))
  aos := ((List.finRange 64).filter fun c => s.aoUsed c.val).map fun c => (c, s.rd (Obj.ao.aoValue c))
  objs := s.sched.objs.map fun o => (w32 o.1, o.2)
  canFree := s.buses.map fun b => (Fin.ofNat 16 b, Fin.ofNat 33 (32 - (s.busX b).bufs.length))
  prpIdentity := BitVec.ofNat 16 s.net.prpIdentity
  cmdDigest := w32 s.commandDigest
  mode := s.red.modeAgreed.map (Fin.ofNat 8)
  switch := if s.sys.switchDue then some s.sys.switchToStop else none

/-- AGREE_DIGESTS of the ending cycle; the stretch it carries is the one both modules apply at the next boundary (R307). -/
def State.sendDigests (s : State) : State :=
  let stretch := max s.ownStretch s.therm.partnerLevel
  let s := s.modTherm fun u => { u with partnerStretch := stretch }
  let s := s.xSend (.agreeDigests
    { cycleDigest := s.rd Obj.sched.cycleDigest
      est := s.red.estDone.map fun n => (Fin.ofNat 256 n, w32 (s.estDigest n))
      captures := s.red.capsDone.map fun c => (Fin.ofNat 256 c.1, w32 c.2.1, w32 c.2.2.1, BitVec.ofNat 8 c.2.2.2)
      balance := s.red.balDone.map fun b => (Fin.ofNat 256 b.1, w32 b.2)
      level := Fin.ofNat 3 s.modLevel
      stretch := Fin.ofNat 3 stretch })
  s.modRed fun u => { u with agreedAt := some s.up }

/-- What an ending cycle leaves for the digests is forgotten. -/
def State.clearDone (s : State) : State := s.modRed fun u => { u with estDone := [], capsDone := [] }

/-! ### The boundary -/

/-- CYCLE_NO and task time advance by one cycle (R315, R361). -/
def State.nextCycle (s : State) : State :=
  let c := Obj.prot.cycleNo
  (s.wr c (s.rd c + 1)).wr64 Obj.sched.taskTime ((s.taskTime + s.protUs) % 2 ^ 64)

/-- IDLE_LOW (R317) of one protection core pair. -/
def State.idleLow (pair share : Nat) (s : State) : State := (s.flag Obj.prot.protFlags 2).raise 0x108 0 share pair 0

/-- A commit of a module that decides for itself: the active one sends its agreement around it. -/
def State.ownCommit (x : CycleSeen) (s : State) : State :=
  let active := s.sys.mode == .active
  let due := s.red.due
  let s := if active then s.sendInputs else s
  let s := (s.modRed fun u => { u with due := [] }).each due State.agreedInput
  let (outs, s) := s.commitPoint x none
  let s := if active then
      let c := s.agreeCommitOf outs
      (((s.xSend (.agreeCommit c)).modRed fun u => { u with switchAgreed := c.switch }).sendDigests).sendTransfer
    else s
  s.clearDone

/-- PROTECTION_CYCLE_BOUNDARY (R316): time reaches the boundary and a new cycle begins; a module that follows the agreement waits for its
AGREE_COMMIT, a standby that cannot commits nothing (R487, R491, R492), every other commits. -/
def protectionCycleBoundary (x : CycleSeen) (s : State) : State :=
  let s := if s.red.commitDue then s.detachedCycle 1 else s
  let s := (s.advance s.toBoundary).nextCycle
  if !x.builtInDone then s.fatal .watchdog 0
  else
    let s := if x.coresAgree then s else s.xcheck 2
    let s := s.each x.idleLow fun q s => s.idleLow q.1 q.2
    let s := s.modRed fun u => { u with seen := x }
    if s.followsAgreement && s.sys.mode != .boot then (s.modRed fun u => { u with commitDue := true }).clearDone
    else if s.sys.mode == .standby || s.red.ownWaitAt.isSome then (s.heldCycle x).clearDone
    else s.ownCommit x

def execProtectionCycleBoundary (x : CycleSeen) (s : State) : Host.Outcome State Fault Refusal := s.ringLive (protectionCycleBoundary x)

end Sys2Proof.Machine
end

