-- ==== Sys2Proof/Machine/Dispatch.lean ====
section
/-!
DEFINITION. One arm per command, each a direct call of its meaning.
-/

namespace Sys2Proof.Machine

def exec (i : Instr) (s : State) : Host.Outcome State Fault Refusal :=
  match i with
  | .powerUp p => Sys2Proof.Machine.execPowerUp p s
  | .holdupCharged => Sys2Proof.Machine.execHoldupCharged s
  | .booted measured drives => Sys2Proof.Machine.execBooted measured drives s
  | .cmdRun session => Sys2Proof.Machine.execCmdRun session s
  | .cmdStop force => Sys2Proof.Machine.execCmdStop force s
  | .cmdService => Sys2Proof.Machine.execCmdService s
  | .endService => Sys2Proof.Machine.execEndService s
  | .serviceDone => Sys2Proof.Machine.execServiceDone s
  | .cmdSwitch => Sys2Proof.Machine.execCmdSwitch s
  | .cmdPark => Sys2Proof.Machine.execCmdPark s
  | .cmdWake session => Sys2Proof.Machine.execCmdWake session s
  | .cmdRestart cold endRun => Sys2Proof.Machine.execCmdRestart cold endRun s
  | .warmRestartDone dramOk => Sys2Proof.Machine.execWarmRestartDone dramOk s
  | .fatal cause block => Sys2Proof.Machine.execFatal cause block s
  | .clockMonitorFault clock => Sys2Proof.Machine.execClockMonitorFault clock s
  | .supplyLost voltageA voltageB bank collapse => Sys2Proof.Machine.execSupplyLost voltageA voltageB bank collapse s
  | .partnerWaitExpired => Sys2Proof.Machine.execPartnerWaitExpired s
  | .ownRequestTimeout => Sys2Proof.Machine.execOwnRequestTimeout s
  | .resetPulse channel lowMs highMs => Sys2Proof.Machine.execResetPulse channel lowMs highMs s
  | .catPageWrite session req page bytes => Sys2Proof.Machine.execCatPageWrite session req page bytes s
  | .catValidate => Sys2Proof.Machine.execCatValidate s
  | .catValidateDone => Sys2Proof.Machine.execCatValidateDone s
  | .catActivate session cold endRun => Sys2Proof.Machine.execCatActivate session cold endRun s
  | .catCopyChecked => Sys2Proof.Machine.execCatCopyChecked s
  | .catalogueActivated => Sys2Proof.Machine.execCatalogueActivated s
  | .catErase => Sys2Proof.Machine.execCatErase s
  | .catEraseDone => Sys2Proof.Machine.execCatEraseDone s
  | .heartbeatSend => Sys2Proof.Machine.execHeartbeatSend s
  | .heartbeatReceive port node hops => Sys2Proof.Machine.execHeartbeatReceive port node hops s
  | .portSilent port => Sys2Proof.Machine.execPortSilent port s
  | .silentReachExpiry port => Sys2Proof.Machine.execSilentReachExpiry port s
  | .ringReturnClosed string => Sys2Proof.Machine.execRingReturnClosed string s
  | .miswiredLeft string => Sys2Proof.Machine.execMiswiredLeft string s
  | .faultReceive port cause hops => Sys2Proof.Machine.execFaultReceive port cause hops s
  | .faultActiveClear port => Sys2Proof.Machine.execFaultActiveClear port s
  | .symbolError port symbol place => Sys2Proof.Machine.execSymbolError port symbol place s
  | .losAssert port => Sys2Proof.Machine.execLosAssert port s
  | .losDeassert port => Sys2Proof.Machine.execLosDeassert port s
  | .linkUp port => Sys2Proof.Machine.execLinkUp port s
  | .trainingFailure port => Sys2Proof.Machine.execTrainingFailure port s
  | .portLosTimeout port => Sys2Proof.Machine.execPortLosTimeout port s
  | .portOverrun port orderedSet => Sys2Proof.Machine.execPortOverrun port orderedSet s
  | .portScoreDecay => Sys2Proof.Machine.execPortScoreDecay s
  | .opticalMeasure port launch received => Sys2Proof.Machine.execOpticalMeasure port launch received s
  | .portRetire port => Sys2Proof.Machine.execPortRetire port s
  | .portReinstate port => Sys2Proof.Machine.execPortReinstate port s
  | .portSelfTestDone port failedStep => Sys2Proof.Machine.execPortSelfTestDone port failedStep s
  | .portRetrain port => Sys2Proof.Machine.execPortRetrain port s
  | .portClearCounters port => Sys2Proof.Machine.execPortClearCounters port s
  | .badFrame port why => Sys2Proof.Machine.execBadFrame port why s
  | .replyReceive f => Sys2Proof.Machine.execReplyReceive f s
  | .measReceive f => Sys2Proof.Machine.execMeasReceive f s
  | .capdataReceive f => Sys2Proof.Machine.execCapdataReceive f s
  | .alertReceive f => Sys2Proof.Machine.execAlertReceive f s
  | .identReceive f => Sys2Proof.Machine.execIdentReceive f s
  | .commandLoopback port seq opcode => Sys2Proof.Machine.execCommandLoopback port seq opcode s
  | .txnRetry txn => Sys2Proof.Machine.execTxnRetry txn s
  | .txnFailed txn => Sys2Proof.Machine.execTxnFailed txn s
  | .txnDiscarded txn => Sys2Proof.Machine.execTxnDiscarded txn s
  | .nodeIdentify node => Sys2Proof.Machine.execNodeIdentify node s
  | .nodeConfigure node => Sys2Proof.Machine.execNodeConfigure node s
  | .nodeClear node => Sys2Proof.Machine.execNodeClear node s
  | .nodeReset node => Sys2Proof.Machine.execNodeReset node s
  | .nodeClearCounters node => Sys2Proof.Machine.execNodeClearCounters node s
  | .ptpSyncReceive port m => Sys2Proof.Machine.execPtpSyncReceive port m s
  | .ptpAnnounceReceive port a => Sys2Proof.Machine.execPtpAnnounceReceive port a s
  | .ptpPdelayReqReceive port seq => Sys2Proof.Machine.execPtpPdelayReqReceive port seq s
  | .ptpPdelayRespReceive port seq twoStep stamp correction => Sys2Proof.Machine.execPtpPdelayRespReceive port seq twoStep stamp correction s
  | .ptpPdelayReqSend port => Sys2Proof.Machine.execPtpPdelayReqSend port s
  | .servoLocked domain => Sys2Proof.Machine.execServoLocked domain s
  | .servoLost domain noSync => Sys2Proof.Machine.execServoLost domain noSync s
  | .announceTimeout domain => Sys2Proof.Machine.execAnnounceTimeout domain s
  | .sourceSelect => Sys2Proof.Machine.execSourceSelect s
  | .traceabilityLost => Sys2Proof.Machine.execTraceabilityLost s
  | .timeStep => Sys2Proof.Machine.execTimeStep s
  | .timeAccept => Sys2Proof.Machine.execTimeAccept s
  | .timeRecalibrate string => Sys2Proof.Machine.execTimeRecalibrate string s
  | .timeClearCounters => Sys2Proof.Machine.execTimeClearCounters s
  | .timeSyncSend late => Sys2Proof.Machine.execTimeSyncSend late s
  | .delayReqSend => Sys2Proof.Machine.execDelayReqSend s
  | .delayReqReceive port count turn => Sys2Proof.Machine.execDelayReqReceive port count turn s
  | .delayRespReceive port count rtt => Sys2Proof.Machine.execDelayRespReceive port count rtt s
  | .calPassStart string => Sys2Proof.Machine.execCalPassStart string s
  | .calPassDone string => Sys2Proof.Machine.execCalPassDone string s
  | .calPassRetry string => Sys2Proof.Machine.execCalPassRetry string s
  | .ppsOutput => Sys2Proof.Machine.execPpsOutput s
  | .tiPulse => Sys2Proof.Machine.execTiPulse s
  | .tiLine text => Sys2Proof.Machine.execTiLine text s
  | .tiLost => Sys2Proof.Machine.execTiLost s
  | .timeSave => Sys2Proof.Machine.execTimeSave s
  | .protectionCycleBoundary x => Sys2Proof.Machine.execProtectionCycleBoundary x s
  | .fastHoldExpiry string => Sys2Proof.Machine.execFastHoldExpiry string s
  | .snapshotClose string sampleNo => Sys2Proof.Machine.execSnapshotClose string sampleNo s
  | .captureDeadline string => Sys2Proof.Machine.execCaptureDeadline string s
  | .strClearCounters string => Sys2Proof.Machine.execStrClearCounters string s
  | .sopEvaluate string => Sys2Proof.Machine.execSopEvaluate string s
  | .checkpointWrite readBackOk => Sys2Proof.Machine.execCheckpointWrite readBackOk s
  | .currentGap string => Sys2Proof.Machine.execCurrentGap string s
  | .cellsStale node => Sys2Proof.Machine.execCellsStale node s
  | .laneFault lane => Sys2Proof.Machine.execLaneFault lane s
  | .resetCov cell => Sys2Proof.Machine.execResetCov cell s
  | .setSoc cell soc => Sys2Proof.Machine.execSetSoc cell soc s
  | .cellClearCounters cell => Sys2Proof.Machine.execCellClearCounters cell s
  | .batchAgeExpiry cell ct => Sys2Proof.Machine.execBatchAgeExpiry cell ct s
  | .anchorAgeExpiry cell => Sys2Proof.Machine.execAnchorAgeExpiry cell s
  | .interruptionExpiry string => Sys2Proof.Machine.execInterruptionExpiry string s
  | .resetScales cell => Sys2Proof.Machine.execResetScales cell s
  | .resetCapacity cell => Sys2Proof.Machine.execResetCapacity cell s
  | .setCapacity cell capacity => Sys2Proof.Machine.execSetCapacity cell capacity s
  | .clearLearning cell => Sys2Proof.Machine.execClearLearning cell s
  | .impClearCounters => Sys2Proof.Machine.execImpClearCounters s
  | .balRound string => Sys2Proof.Machine.execBalRound string s
  | .balHoldoffExpiry cell => Sys2Proof.Machine.execBalHoldoffExpiry cell s
  | .endEpisodes string => Sys2Proof.Machine.execEndEpisodes string s
  | .balClearCounters string => Sys2Proof.Machine.execBalClearCounters string s
  | .balCfgWrite string value => Sys2Proof.Machine.execBalCfgWrite string value s
  | .derateEnforced string => Sys2Proof.Machine.execDerateEnforced string s
  | .moduleSensorRead readings => Sys2Proof.Machine.execModuleSensorRead readings s
  | .moduleGraceExpiry => Sys2Proof.Machine.execModuleGraceExpiry s
  | .thermClearCounters string => Sys2Proof.Machine.execThermClearCounters string s
  | .contactorResend string => Sys2Proof.Machine.execContactorResend string s
  | .openFailed string => Sys2Proof.Machine.execOpenFailed string s
  | .dataLoss node => Sys2Proof.Machine.execDataLoss node s
  | .contactReqWrite string value => Sys2Proof.Machine.execContactReqWrite string value s
  | .resetTrip string => Sys2Proof.Machine.execResetTrip string s
  | .pstrClearCounters string => Sys2Proof.Machine.execPstrClearCounters string s
  | .protClearCounters => Sys2Proof.Machine.execProtClearCounters s
  | .islandSample m => Sys2Proof.Machine.execIslandSample m s
  | .dataAgeExpiry node => Sys2Proof.Machine.execDataAgeExpiry node s
  | .islandMessageReceive seq m => Sys2Proof.Machine.execIslandMessageReceive seq m s
  | .siInputChange channel second level => Sys2Proof.Machine.execSiInputChange channel second level s
  | .siDiscrepancy channel => Sys2Proof.Machine.execSiDiscrepancy channel s
  | .siTestPulse channel second returned => Sys2Proof.Machine.execSiTestPulse channel second returned s
  | .siFaultClear channel => Sys2Proof.Machine.execSiFaultClear channel s
  | .sqStageFault channel code => Sys2Proof.Machine.execSqStageFault channel code s
  | .sqTestPulse channel => Sys2Proof.Machine.execSqTestPulse channel s
  | .sqRearm channel => Sys2Proof.Machine.execSqRearm channel s
  | .sqRearmDone channel passed => Sys2Proof.Machine.execSqRearmDone channel passed s
  | .safeTrip => Sys2Proof.Machine.execSafeTrip s
  | .newNonce session => Sys2Proof.Machine.execNewNonce session s
  | .safeOpen session => Sys2Proof.Machine.execSafeOpen session s
  | .safeClose session => Sys2Proof.Machine.execSafeClose session s
  | .setPassword session => Sys2Proof.Machine.execSetPassword session s
  | .clearPassword session => Sys2Proof.Machine.execClearPassword session s
  | .safeClearCounters => Sys2Proof.Machine.execSafeClearCounters s
  | .sessionIdle => Sys2Proof.Machine.execSessionIdle s
  | .authBlockExpiry => Sys2Proof.Machine.execAuthBlockExpiry s
  | .safeCfgWrite session value => Sys2Proof.Machine.execSafeCfgWrite session value s
  | .logAckWrite session value => Sys2Proof.Machine.execLogAckWrite session value s
  | .jobFinish task r => Sys2Proof.Machine.execJobFinish task r s
  | .taskFault task code offset => Sys2Proof.Machine.execTaskFault task code offset s
  | .resume task => Sys2Proof.Machine.execResume task s
  | .taskClearCounters task => Sys2Proof.Machine.execTaskClearCounters task s
  | .schedClearCounters => Sys2Proof.Machine.execSchedClearCounters s
  | .varDataWrite session first values => Sys2Proof.Machine.execVarDataWrite session first values s
  | .programResyncDone vars => Sys2Proof.Machine.execProgramResyncDone vars s
  | .loopEval slot sp => Sys2Proof.Machine.execLoopEval slot sp s
  | .loopPv slot value => Sys2Proof.Machine.execLoopPv slot value s
  | .loopResult slot => Sys2Proof.Machine.execLoopResult slot s
  | .loopAuto slot => Sys2Proof.Machine.execLoopAuto slot s
  | .loopManual slot => Sys2Proof.Machine.execLoopManual slot s
  | .loopOff slot => Sys2Proof.Machine.execLoopOff slot s
  | .loopTune slot => Sys2Proof.Machine.execLoopTune slot s
  | .loopAccept slot => Sys2Proof.Machine.execLoopAccept slot s
  | .loopReject slot => Sys2Proof.Machine.execLoopReject slot s
  | .loopClearCounters slot => Sys2Proof.Machine.execLoopClearCounters slot s
  | .engineClearCounters => Sys2Proof.Machine.execEngineClearCounters s
  | .gainsChanged slot item value => Sys2Proof.Machine.execGainsChanged slot item value s
  | .spWrite slot value => Sys2Proof.Machine.execSpWrite slot value s
  | .tuneTimeout slot => Sys2Proof.Machine.execTuneTimeout slot s
  | .diSample levels => Sys2Proof.Machine.execDiSample levels s
  | .doValueWrite channel value => Sys2Proof.Machine.execDoValueWrite channel value s
  | .aoValueWrite channel value => Sys2Proof.Machine.execAoValueWrite channel value s
  | .doOverload channel overTemp current => Sys2Proof.Machine.execDoOverload channel overTemp current s
  | .doRetry channel => Sys2Proof.Machine.execDoRetry channel s
  | .doCooled channel => Sys2Proof.Machine.execDoCooled channel s
  | .doOpenLoad channel current => Sys2Proof.Machine.execDoOpenLoad channel current s
  | .doReadbackFault channel command readback => Sys2Proof.Machine.execDoReadbackFault channel command readback s
  | .doStandbyTest failed => Sys2Proof.Machine.execDoStandbyTest failed s
  | .aoCompliance channel readback voltage => Sys2Proof.Machine.execAoCompliance channel readback voltage s
  | .aoOpenLoop channel readback voltage => Sys2Proof.Machine.execAoOpenLoop channel readback voltage s
  | .aoReadbackDeviation channel readback => Sys2Proof.Machine.execAoReadbackDeviation channel readback s
  | .aoFoldback channel temp => Sys2Proof.Machine.execAoFoldback channel temp s
  | .aoFoldbackCleared channel temp => Sys2Proof.Machine.execAoFoldbackCleared channel temp s
  | .aoTrackingCheck readbacks => Sys2Proof.Machine.execAoTrackingCheck readbacks s
  | .fskReceive channel value parityError framingError => Sys2Proof.Machine.execFskReceive channel value parityError framingError s
  | .fskSend channel bytes => Sys2Proof.Machine.execFskSend channel bytes s
  | .fieldSupplyLost supply voltage => Sys2Proof.Machine.execFieldSupplyLost supply voltage s
  | .fieldSupplyRestored supply voltage => Sys2Proof.Machine.execFieldSupplyRestored supply voltage s
  | .isolatorFrameError channel parity => Sys2Proof.Machine.execIsolatorFrameError channel parity s
  | .isolatorLinkSilent channel => Sys2Proof.Machine.execIsolatorLinkSilent channel s
  | .ioScoreDecay => Sys2Proof.Machine.execIoScoreDecay s
  | .ioRetire channel => Sys2Proof.Machine.execIoRetire channel s
  | .ioReinstate channel => Sys2Proof.Machine.execIoReinstate channel s
  | .ioSelfTestDone channel failedStep => Sys2Proof.Machine.execIoSelfTestDone channel failedStep s
  | .ioClearCounters channel => Sys2Proof.Machine.execIoClearCounters channel s
  | .stageRefreshLoss channel => Sys2Proof.Machine.execStageRefreshLoss channel s
  | .canFrameSend bus f => Sys2Proof.Machine.execCanFrameSend bus f s
  | .canTxComplete bus buffer delay => Sys2Proof.Machine.execCanTxComplete bus buffer delay s
  | .canTxError bus e => Sys2Proof.Machine.execCanTxError bus e s
  | .canFrameReceive bus f sof => Sys2Proof.Machine.execCanFrameReceive bus f sof s
  | .busCancel bus buffer sofSent => Sys2Proof.Machine.execBusCancel bus buffer sofSent s
  | .busRecover bus => Sys2Proof.Machine.execBusRecover bus s
  | .busRecovered bus => Sys2Proof.Machine.execBusRecovered bus s
  | .busRetire bus => Sys2Proof.Machine.execBusRetire bus s
  | .busReinstate bus => Sys2Proof.Machine.execBusReinstate bus s
  | .busSelfTestDone bus failedFrames => Sys2Proof.Machine.execBusSelfTestDone bus failedFrames s
  | .busClearCounters bus => Sys2Proof.Machine.execBusClearCounters bus s
  | .dominantTimeout bus => Sys2Proof.Machine.execDominantTimeout bus s
  | .canScoreDecay => Sys2Proof.Machine.execCanScoreDecay s
  | .canSleep bus => Sys2Proof.Machine.execCanSleep bus s
  | .canWakeDominant bus => Sys2Proof.Machine.execCanWakeDominant bus s
  | .canWakeFrame bus f => Sys2Proof.Machine.execCanWakeFrame bus f s
  | .xlinkHeartbeatSend => Sys2Proof.Machine.execXlinkHeartbeatSend s
  | .xlinkHeartbeatReceive seq b offset => Sys2Proof.Machine.execXlinkHeartbeatReceive seq b offset s
  | .toggleEdge peerOwn => Sys2Proof.Machine.execToggleEdge peerOwn s
  | .pathSilent interlock => Sys2Proof.Machine.execPathSilent interlock s
  | .crosslinkDown second => Sys2Proof.Machine.execCrosslinkDown second s
  | .crosslinkUp second => Sys2Proof.Machine.execCrosslinkUp second s
  | .agreeInputReceive seq x => Sys2Proof.Machine.execAgreeInputReceive seq x s
  | .agreeSnapshotReceive seq string sampleNo nodes => Sys2Proof.Machine.execAgreeSnapshotReceive seq string sampleNo nodes s
  | .agreeCommitReceive seq c => Sys2Proof.Machine.execAgreeCommitReceive seq c s
  | .agreeDigestsReceive seq d => Sys2Proof.Machine.execAgreeDigestsReceive seq d s
  | .detached cause => Sys2Proof.Machine.execDetached cause s
  | .detachedDoOff => Sys2Proof.Machine.execDetachedDoOff s
  | .resultReceive seq r => Sys2Proof.Machine.execResultReceive seq r s
  | .resultAckReceive seq req => Sys2Proof.Machine.execResultAckReceive seq req s
  | .resultAckTimeout req => Sys2Proof.Machine.execResultAckTimeout req s
  | .transferReceive seq part => Sys2Proof.Machine.execTransferReceive seq part s
  | .refreshReceive seq part => Sys2Proof.Machine.execRefreshReceive seq part s
  | .redRejoin => Sys2Proof.Machine.execRedRejoin s
  | .redClearCounters => Sys2Proof.Machine.execRedClearCounters s
  | .ringLoopbackTest => Sys2Proof.Machine.execRingLoopbackTest s
  | .memoryScrub corrected => Sys2Proof.Machine.execMemoryScrub corrected s
  | .dispatchSend worker => Sys2Proof.Machine.execDispatchSend worker s
  | .dispatch session req seq words => Sys2Proof.Machine.execDispatch session req seq words s
  | .dispatchHold => Sys2Proof.Machine.execDispatchHold s
  | .dispatchDefault => Sys2Proof.Machine.execDispatchDefault s
  | .workerPoll worker => Sys2Proof.Machine.execWorkerPoll worker s
  | .tlsConnect port identity peer chain => Sys2Proof.Machine.execTlsConnect port identity peer chain s
  | .hello session req proto rights => Sys2Proof.Machine.execHello session req proto rights s
  | .bye session req => Sys2Proof.Machine.execBye session req s
  | .badMessage session req type badLength => Sys2Proof.Machine.execBadMessage session req type badLength s
  | .read session req addr count => Sys2Proof.Machine.execRead session req addr count s
  | .write session req addr scope group values => Sys2Proof.Machine.execWrite session req addr scope group values s
  | .registerWrite session addr value => Sys2Proof.Machine.execRegisterWrite session addr value s
  | .ringPut session req ring entries => Sys2Proof.Machine.execRingPut session req ring entries s
  | .ringPeek session req ring fromSeq count => Sys2Proof.Machine.execRingPeek session req ring fromSeq count s
  | .ringRelease session req ring untilSeq => Sys2Proof.Machine.execRingRelease session req ring untilSeq s
  | .ringInfo session req ring => Sys2Proof.Machine.execRingInfo session req ring s
  | .ringBind session req ring source items mode period => Sys2Proof.Machine.execRingBind session req ring source items mode period s
  | .ringUnbind session req ring => Sys2Proof.Machine.execRingUnbind session req ring s
  | .ringClear session req ring => Sys2Proof.Machine.execRingClear session req ring s
  | .subscribe session req fields => Sys2Proof.Machine.execSubscribe session req fields s
  | .subscribeRenew session req sub lease => Sys2Proof.Machine.execSubscribeRenew session req sub lease s
  | .unsubscribe session req sub => Sys2Proof.Machine.execUnsubscribe session req sub s
  | .leaseExpiry sub => Sys2Proof.Machine.execLeaseExpiry sub s
  | .forward session req worker inner => Sys2Proof.Machine.execForward session req worker inner s
  | .forwardReply worker no status payload => Sys2Proof.Machine.execForwardReply worker no status payload s
  | .hierTimeout worker no => Sys2Proof.Machine.execHierTimeout worker no s
  | .keepalive session req => Sys2Proof.Machine.execKeepalive session req s
  | .exchSessionIdle session => Sys2Proof.Machine.execExchSessionIdle session s
  | .reqDeadline req => Sys2Proof.Machine.execReqDeadline req s
  | .vitrineEntryFree ring => Sys2Proof.Machine.execVitrineEntryFree ring s
  | .vitrineWait cls => Sys2Proof.Machine.execVitrineWait cls s
  | .modbusReadHolding conn tid unit start count => Sys2Proof.Machine.execModbusReadHolding conn tid unit start count s
  | .modbusReadInput conn tid unit start count => Sys2Proof.Machine.execModbusReadInput conn tid unit start count s
  | .modbusWriteSingle conn tid unit register value => Sys2Proof.Machine.execModbusWriteSingle conn tid unit register value s
  | .modbusWriteMultiple conn tid unit start values => Sys2Proof.Machine.execModbusWriteMultiple conn tid unit start values s
  | .prpFrameReceive port source seq lanB good => Sys2Proof.Machine.execPrpFrameReceive port source seq lanB good s
  | .prpSupervisionSend => Sys2Proof.Machine.execPrpSupervisionSend s
  | .plantPortDown port => Sys2Proof.Machine.execPlantPortDown port s
  | .plantPortUp port => Sys2Proof.Machine.execPlantPortUp port s
  | .endSession session => Sys2Proof.Machine.execEndSession session s
  | .netClearCounters => Sys2Proof.Machine.execNetClearCounters s
  | .recorderFlush bad => Sys2Proof.Machine.execRecorderFlush bad s
  | .flushDone => Sys2Proof.Machine.execFlushDone s
  | .storeEraseDone ok => Sys2Proof.Machine.execStoreEraseDone ok s
  | .recFlush => Sys2Proof.Machine.execRecFlush s
  | .recClearCounters => Sys2Proof.Machine.execRecClearCounters s
  | .archiveDrain src => Sys2Proof.Machine.execArchiveDrain src s
  | .archiveWriteDone src => Sys2Proof.Machine.execArchiveWriteDone src s
  | .nvmeCommandError port nsid status lba fatal => Sys2Proof.Machine.execNvmeCommandError port nsid status lba fatal s
  | .nvmeTimeout port => Sys2Proof.Machine.execNvmeTimeout port s
  | .storageLinkRetrain port => Sys2Proof.Machine.execStorageLinkRetrain port s
  | .storageLinkDown port => Sys2Proof.Machine.execStorageLinkDown port s
  | .storageScoreDecay => Sys2Proof.Machine.execStorageScoreDecay s
  | .smartWarning port critical used => Sys2Proof.Machine.execSmartWarning port critical used s
  | .stRetire port => Sys2Proof.Machine.execStRetire port s
  | .stReinstate port => Sys2Proof.Machine.execStReinstate port s
  | .stSelfTestDone port found => Sys2Proof.Machine.execStSelfTestDone port found s
  | .resilverDone nsid => Sys2Proof.Machine.execResilverDone nsid s
  | .stFormat port => Sys2Proof.Machine.execStFormat port s
  | .stClearCounters port => Sys2Proof.Machine.execStClearCounters port s
  | .query session => Sys2Proof.Machine.execQuery session s
  | .queryResume session => Sys2Proof.Machine.execQueryResume session s
  | .cancelQuery session => Sys2Proof.Machine.execCancelQuery session s
  | .arcClearCounters => Sys2Proof.Machine.execArcClearCounters s
  | .quote session mask => Sys2Proof.Machine.execQuote session mask s
  | .quoteDone session => Sys2Proof.Machine.execQuoteDone session s
  | .secClearCounters => Sys2Proof.Machine.execSecClearCounters s
  | .keyLoad session slot kind rights => Sys2Proof.Machine.execKeyLoad session slot kind rights s
  | .keyGenerate session slot kind => Sys2Proof.Machine.execKeyGenerate session slot kind s
  | .keyErase session slot => Sys2Proof.Machine.execKeyErase session slot s
  | .loadCert session slot => Sys2Proof.Machine.execLoadCert session slot s
  | .keyClearCounters session slot => Sys2Proof.Machine.execKeyClearCounters session slot s
  | .cryptoSign task slot data => Sys2Proof.Machine.execCryptoSign task slot data s
  | .cryptoVerify task slot data sig => Sys2Proof.Machine.execCryptoVerify task slot data sig s
  | .cryptoEcdh task slot point => Sys2Proof.Machine.execCryptoEcdh task slot point s
  | .cryptoEncrypt task slot aad data => Sys2Proof.Machine.execCryptoEncrypt task slot aad data s
  | .cryptoDecrypt task slot nonce aad cipher tag => Sys2Proof.Machine.execCryptoDecrypt task slot nonce aad cipher tag s
  | .cryptoHash task data => Sys2Proof.Machine.execCryptoHash task data s
  | .cryptoRandom task count => Sys2Proof.Machine.execCryptoRandom task count s
  | .fwPageWrite session req page bytes => Sys2Proof.Machine.execFwPageWrite session req page bytes s
  | .updValidate => Sys2Proof.Machine.execUpdValidate s
  | .updValidateDone => Sys2Proof.Machine.execUpdValidateDone s
  | .updActivate session force => Sys2Proof.Machine.execUpdActivate session force s
  | .fwCopyChecked => Sys2Proof.Machine.execFwCopyChecked s
  | .fwActivated lockedOk dramOk => Sys2Proof.Machine.execFwActivated lockedOk dramOk s
  | .updErase => Sys2Proof.Machine.execUpdErase s
  | .updEraseDone => Sys2Proof.Machine.execUpdEraseDone s
  | .commitSvn => Sys2Proof.Machine.execCommitSvn s
  | .updClearCounters => Sys2Proof.Machine.execUpdClearCounters s
  | .trialPassed => Sys2Proof.Machine.execTrialPassed s
  | .inputAbsent second voltage => Sys2Proof.Machine.execInputAbsent second voltage s
  | .inputPresent second => Sys2Proof.Machine.execInputPresent second s
  | .inputCurrentLimit second current => Sys2Proof.Machine.execInputCurrentLimit second current s
  | .holdupMeasure => Sys2Proof.Machine.execHoldupMeasure s
  | .measureHoldup => Sys2Proof.Machine.execMeasureHoldup s
  | .holdupMeasureDone capacitance => Sys2Proof.Machine.execHoldupMeasureDone capacitance s
  | .pwrClearCounters => Sys2Proof.Machine.execPwrClearCounters s
  | .thermalShutdown sensor temp => Sys2Proof.Machine.execThermalShutdown sensor temp s
  | .xingOverrun crossing port => Sys2Proof.Machine.execXingOverrun crossing port s
  | .canRxError bus heavy => Sys2Proof.Machine.execCanRxError bus heavy s
  | .fskCarrierChange channel on => Sys2Proof.Machine.execFskCarrierChange channel on s
  | .fskTxDone channel => Sys2Proof.Machine.execFskTxDone channel s
  | .connectionLost conn => Sys2Proof.Machine.execConnectionLost conn s
  | .modbusConnect peer => Sys2Proof.Machine.execModbusConnect peer s
  | .modbusOtherFunction conn tid unit function => Sys2Proof.Machine.execModbusOtherFunction conn tid unit function s
  | .arpRequest port target => Sys2Proof.Machine.execArpRequest port target s
  | .neighbourSolicitation port target => Sys2Proof.Machine.execNeighbourSolicitation port target s
  | .icmpEchoRequest port target => Sys2Proof.Machine.execIcmpEchoRequest port target s
  | .ptpFollowUpReceive port m => Sys2Proof.Machine.execPtpFollowUpReceive port m s
  | .ptpPdelayRespFollowUpReceive port seq stamp correction => Sys2Proof.Machine.execPtpPdelayRespFollowUpReceive port seq stamp correction s
  | .prpEntryForget source => Sys2Proof.Machine.execPrpEntryForget source s
  | .workerPollReply worker result => Sys2Proof.Machine.execWorkerPollReply worker result s
  | .queryReadDone session bad => Sys2Proof.Machine.execQueryReadDone session bad s

end Sys2Proof.Machine
end

