-- ==== Sys2Proof/Machine/Step.lean ====
section
/-!
DEFINITION. One step: the command at the front of the queue, or, on an empty queue, one count of Short Time.
-/

namespace Sys2Proof.Machine

/-- Nothing to do (R1, R163): Module Time advances by the 4 ns of one count of Short Time; a de-energised module keeps no time. -/
def State.idle (s : State) : State := if s.sys.powered then s.advance 4 else s

def step (s : State) : Host.Outcome State Fault Refusal :=
  match s.pending with
  | [] => .next s.idle
  | c :: rest => exec c { s with pending := rest }

/-- The state with the command that a word spells at the front of its queue; unchanged where the word spells none. -/
def State.withFetchWord (s : State) (nbits w : Nat) : State :=
  match decodeTableWord nbits w with
  | some c => { s with pending := c :: s.pending }
  | none => s

end Sys2Proof.Machine
end

