-- ==== Sys2Proof/Safety.lean ====
section
/-!
DEFINITION. The terms in which claims speak: a module that takes commands, completion, frames, and what counts as a safe state.
-/

namespace Sys2Proof.Machine

/-- The module is energised and runs its firmware (R23 (m), R606). -/
def Ready (s : State) : Prop := s.sys.powered = true ∧ s.sys.recovery = false

/-- The command completes: exec answers a next state, of which `P` holds. -/
def Completes (c : Instr) (s : State) (P : State → Prop) : Prop := ∃ t, exec c s = .next t ∧ P t

/-- The items that raising an event may change: those of the recorder (R560). -/
def recorderItem (a : Nat) : Bool := a == Obj.rcd.lost || a == Obj.rcd.recFlags || a == Obj.rcd.appended || a == Obj.rcd.merged

/-- A frame: every object item but those listed reads as before; events may count in the recorder's items (R554 to R558). -/
def Keeps (items : List Nat) (s t : State) : Prop := ∀ a, a ∉ items → recorderItem a = false → t.rd a = s.rd a

/-- The address space of an object item (R6). -/
def spaceOf (a : Nat) : Nat := a / 2 ^ 24 % 256

/-- A frame by spaces: every item outside the listed address spaces and the recorder's reads as before. -/
def KeepsSpaces (spaces : List Nat) (s t : State) : Prop := ∀ a, spaceOf a ∉ spaces → spaceOf a ≠ 0x12 → t.rd a = s.rd a

/-- A command was accepted (R661): its count advances by one modulo 65,536, OUTCOME and code stand. -/
def Accepted (status code outcome : Nat) (s t : State) : Prop :=
  t.rd status = w32 ((s.bits status 31 16 + 1) % 65536 * 65536 + outcome * 256 + code)

/-- A command was refused (R661): OUTCOME and code stand, the count is unchanged. -/
def Refused (status code outcome : Nat) (s t : State) : Prop :=
  t.rd status = w32 (s.bits status 31 16 * 65536 + outcome * 256 + code)

/-- An open session that has room for a request (R521). -/
def OpenSession (s : State) (i : Nat) : Prop := (s.sessX i).isSome = true ∧ s.sessState i = 2 ∧ s.outstanding i < 256

/-- A request whose number is in progress nowhere, held in no record and above the client's mark (R529, R620). -/
def NewRequest (s : State) (q : ReqHead) : Prop :=
  (s.net.reqs.any fun r => r.client == q.client.toNat && r.no == q.no.toNat && !r.discarded) = false ∧
  (s.cacheRecs q.client.toNat).find? (fun r => r.no == q.no.toNat) = none ∧
  (match s.acceptMark q.client.toNat with | some m => noAbove q.no.toNat m | none => true) = true

/-- A request was taken: it stands in progress and its write is staged for the boundary (R490, R527). -/
def Taken (i : Nat) (q : ReqHead) (w : HostWrite) (s t : State) : Prop :=
  t.net.reqs.length = s.net.reqs.length + 1 ∧
  (∃ r ∈ t.net.reqs, r.client = q.client.toNat ∧ r.no = q.no.toNat ∧ r.dest = .session i ∧ r.committed = false) ∧
  t.sched.hostStaged.map HostStaged.write = s.sched.hostStaged.map HostStaged.write ++ [w]

/-- What holds of a de-energised module (R17, R23 (m)): it asserts no OWN, serves no session, holds no ring command and no staged write. -/
def State.darkOk (s : State) : Bool :=
  s.sys.powered ||
    (!s.sys.own && s.net.sessions.isEmpty && s.net.reqs.isEmpty && s.net.modbus.isEmpty && s.ring.txns.isEmpty && s.ring.queue.isEmpty &&
      s.ring.held.isEmpty && s.ring.staged.isEmpty && s.ring.results.isEmpty && s.sched.hostStaged.isEmpty)

/-- An SQ output is on only where every condition of R331 holds. -/
def State.sqRule (s : State) : Prop := ∀ q : Fin 32, s.bit (Obj.sq.sqStatus q) 1 = true →
  s.island.running = true ∧ s.sys.lockoutLatch = false ∧ s.bit (Obj.sq.sqStatus q) 2 = false ∧
  (∃ r ∈ s.safetyStrings, r.outputs / 2 ^ q.val % 2 = 1) ∧ ∀ r ∈ s.safetyStrings, r.outputs / 2 ^ q.val % 2 = 1 → s.funcState r.string = 2

/-- A message of the partner's that a module of a pair uses: the first copy of its MSG_SEQ (R482). -/
def State.takesMessage (s : State) (q : Nat) : Bool :=
  s.pairRole && (decide (s.red.rxNext.getD q ≤ q) || s.red.rxMissing.any fun r => decide (r.1 ≤ q ∧ q < r.2))

/-- The requests in progress have identities that were given out (R490, R529). -/
def State.reqIdsOk (s : State) : Bool := s.net.reqs.all fun r => decide (r.id < s.net.nextReq)

end Sys2Proof.Machine
end

