-- ==== Sys2Proof/Certificates/Slice0/Obligations.lean ====
section
/-!
DEFINITION. What is claimed of the model: one statement per group of commands, each with the frame it keeps, and rules of the whole machine.
-/

open Sys2Proof Sys2Proof.Machine

/-! ### The machine -/

/-- The command at the front of the queue is the one that a step runs, on the state with the queue's rest. -/
def Obligations.StepRunsFront : Prop :=
  ∀ (c : Instr) (s : State), step { s with pending := c :: s.pending } = exec c s

/-- No command stops the machine: every command answers a next state in every state. -/
def Obligations.EveryCommandAnswers : Prop :=
  ∀ (c : Instr) (s : State), ∃ t, exec c s = .next t

/-- A de-energised module takes POWER_UP, HOLDUP_CHARGED and SUPPLY_LOST alone; every other command leaves it as it is. A module in
recovery raises no event whatever it is commanded: the recorder's buffer stays as it is, until a start leaves recovery. -/
def Obligations.DarkAndRecovery : Prop :=
  (∀ (c : Instr) (s : State), s.sys.powered = false →
     exec c s = .next s ∨ (∃ p, c = .powerUp p) ∨ c = .holdupCharged ∨ ∃ a b v k, c = .supplyLost a b v k) ∧
  (∀ (code inst p1 p2 p3 : Nat) (s : State), s.sys.recovery = true → s.raise code inst p1 p2 p3 = s)

/-- The state after reset: in BOOT, every object item at its reset value, nothing waiting, nothing sent; what every command keeps
(DarkIsKept, RequestIdsStay, SafetyOutputsOnlyWhen) holds there. -/
def Obligations.ResetState : Prop :=
  State.reset.sys.mode = .boot ∧ State.reset.sys.trans = .boot ∧ State.reset.sys.own = false ∧ State.reset.pending = [] ∧
    State.reset.out = [] ∧ State.reset.net.sessions = [] ∧ State.reset.rcd.buffer = [] ∧ State.reset.cat.cat = none ∧
    (∀ a, State.reset.rd a = objReset a) ∧ State.reset.darkOk = true ∧ State.reset.reqIdsOk = true ∧ State.reset.sqRule ∧ regsWf State.reset.regs = true

/-- Every step keeps a de-energised module dark: without OWN, without sessions, without ring commands under way and without staged host
writes. -/
def Obligations.DarkIsKept : Prop :=
  ∀ s t : State, s.darkOk = true → step s = .next t → t.darkOk = true

/-! ### Power and module thermal -/

/-- An input that falls absent or returns, and an input current limit (R640): the presence bits, the flags, INPUT_LOSSES. The hold-up
measurement (R641): it starts every 24 h or on command, and its end writes energy, capacitance and HOLDUP_OK; a command while one runs is
refused BUSY (the model's choice, log 40); CLEAR_COUNTERS (R647). -/
def Obligations.SupplyAndHoldup : Prop :=
  (∀ (s : State) (second : Bool) (v : BitVec 16), Ready s →
     (s.bit Obj.pwr.pwrStatus second.toNat = true → Completes (.inputAbsent second v) s fun t =>
       t.bit Obj.pwr.pwrStatus second.toNat = false ∧ t.bit Obj.pwr.pwrFlags second.toNat = true ∧
       t.bits Obj.pwr.inputLosses (16 * second.toNat + 15) (16 * second.toNat) =
         min 65535 (s.bits Obj.pwr.inputLosses (16 * second.toNat + 15) (16 * second.toNat) + 1) ∧
       Keeps [Obj.pwr.pwrStatus, Obj.pwr.pwrFlags, Obj.pwr.inputLosses] s t ∧
       t = { s with regs := t.regs, rcd := t.rcd, free := t.free, pwr := t.pwr }) ∧
     (s.bit Obj.pwr.pwrStatus second.toNat = false → Completes (.inputPresent second) s fun t =>
       t.bit Obj.pwr.pwrStatus second.toNat = true ∧ Keeps [Obj.pwr.pwrStatus] s t ∧
       t = { s with regs := t.regs, rcd := t.rcd, free := t.free, pwr := t.pwr }) ∧
     Completes (.inputCurrentLimit second v) s fun t =>
       t.bit Obj.pwr.pwrStatus 4 = true ∧ t.bit Obj.pwr.pwrFlags 2 = true ∧ Keeps [Obj.pwr.pwrStatus, Obj.pwr.pwrFlags] s t ∧
       t = { s with regs := t.regs, rcd := t.rcd }) ∧
  (∀ (s : State) (cap : Fin 65536), Ready s →
     (s.pwr.measuring = none → Completes .holdupMeasure s fun t =>
       t = { s with pwr := { s.pwr with measuring := some false } }) ∧
     (s.pwr.measuring = none → Completes .measureHoldup s fun t =>
       t.pwr = { s.pwr with measuring := some true } ∧ Accepted Obj.pwr.cmdStatus 2 1 s t ∧ Keeps [Obj.pwr.cmdStatus] s t) ∧
     (s.pwr.measuring.isSome = true → Completes .measureHoldup s fun t =>
       Refused Obj.pwr.cmdStatus 2 3 s t ∧ Keeps [Obj.pwr.cmdStatus] s t ∧ t.pwr = s.pwr) ∧
     (s.pwr.measuring.isSome = true → Completes (.holdupMeasureDone cap) s fun t =>
       t.pwr.measuring = none ∧ t.bits Obj.pwr.holdup 15 0 = min 65535 (usableEnergy cap) ∧ t.rd Obj.pwr.holdupCap = w32 cap ∧
       t.bit Obj.pwr.pwrStatus 6 = decide (4700 ≤ usableEnergy cap) ∧
       (usableEnergy cap < 4700 → t.bit Obj.pwr.pwrFlags 3 = true) ∧
       Keeps [Obj.pwr.holdup, Obj.pwr.holdupCap, Obj.pwr.pwrStatus, Obj.pwr.pwrFlags, Obj.pwr.cmdStatus] s t) ∧
     Completes .pwrClearCounters s fun t =>
       t.rd Obj.pwr.xingOverruns = 0 ∧ t.rd Obj.pwr.brownouts = 0 ∧ t.rd Obj.pwr.inputLosses = 0 ∧
       (∀ i : Fin 16, t.rd (Obj.sens.sensPeak i) = 0x80007FFF) ∧ Accepted Obj.pwr.cmdStatus 1 0 s t ∧
       Keeps ([Obj.pwr.xingOverruns, Obj.pwr.brownouts, Obj.pwr.inputLosses, Obj.pwr.cmdStatus] ++ (List.range 16).map Obj.sens.sensPeak) s t)

/-- A thermal shutdown opens both supply paths (R644), a crossing overrun sets its flag and counts (R636), the sixteen sensors are read
and give the module's level, and the end of the grace starts stretching (R306). -/
def Obligations.ModuleThermal : Prop :=
  ∀ (s : State) (i : Fin 16) (temp : BitVec 16) (x : Fin 14) (port : Fin 11) (readings : List (BitVec 16)), Ready s →
    (shutdownSensor i = true → 12500 ≤ temp.toInt → Completes (.thermalShutdown i temp) s fun t =>
      t.bits Obj.pwr.pwrStatus 3 0 = 0 ∧ t.bit Obj.pwr.pwrFlags 4 = true ∧
      t.bits Obj.pwr.brownouts 31 16 = min 65535 (s.bits Obj.pwr.brownouts 31 16 + 1) ∧
      Keeps [Obj.pwr.pwrStatus, Obj.pwr.pwrFlags, Obj.pwr.brownouts] s t ∧ t = { s with regs := t.regs, rcd := t.rcd }) ∧
    (xingCounts x = true → Completes (.xingOverrun x port) s fun t =>
      t.bit Obj.pwr.xingFlags (x.val - 1) = true ∧
      (t.rd Obj.pwr.xingOverruns).toNat = min 0xFFFFFFFF ((s.rd Obj.pwr.xingOverruns).toNat + 1) ∧
      Keeps [Obj.pwr.xingFlags, Obj.pwr.xingOverruns, Obj.nport.rxErrors port] s t) ∧
    (readings.length = 16 → Completes (.moduleSensorRead readings) s fun t =>
      (∀ j : Fin 16, (sensorOf t.therm.modSensors j 0).hist.head? = some (s.up, (readings.getD j 0).toInt)) ∧
      t.bits Obj.mthm.modTherm 3 0 = t.modLevel ∧ t.bit Obj.mthm.modTherm 12 = (t.modLevel != 0) ∧
      KeepsSpaces [spaceOf Obj.mthm.modTherm, spaceOf (Obj.sens.sensValue 0)] s t) ∧
    (s.therm.modGrace.isSome = true → Completes .moduleGraceExpiry s fun t =>
      t.therm = { s.therm with modGrace := none, modEnforced := true } ∧ t.bit Obj.mthm.modTherm 13 = true ∧
      Keeps [Obj.mthm.modTherm] s t ∧ t = { s with regs := t.regs, therm := t.therm })

/-! ### Modes -/

/-- Mode commands that end in the mode they ask for (R23, R24, R661). -/
def Obligations.ModeCommandsEnter : Prop :=
  ∀ (s : State) (session : Fin 68) (force : Bool), Ready s → s.sys.trans = .none →
    (s.sys.mode = .stop → s.sys.partnerWait = false → s.catOf.isSome = true → s.pairRole = false → s.roleMismatch = false →
      Completes (.cmdRun session) s fun t =>
        t.sys.mode = .solo ∧ t.sys.prev = .stop ∧ t.rd64 Obj.mod.modeTime = s.now % 2 ^ 64 ∧ Accepted Obj.mod.cmdStatus 1 0 s t ∧
        KeepsSpaces [0x00, 0x06, 0x08, 0x09, 0x0C, 0x0D, 0x10] s t) ∧
    (s.sys.mode = .solo ∨ s.sys.mode = .standby ∨ s.sys.mode = .service ∨ s.sys.mode = .dormant → Completes (.cmdStop force) s fun t =>
      t.sys.mode = .stop ∧ t.sys.prev = s.sys.mode ∧ Accepted Obj.mod.cmdStatus 2 0 s t ∧
      KeepsSpaces [0x00, 0x04, 0x05, 0x06, 0x07, 0x08, 0x09, 0x0C, 0x0D, 0x10, 0x11] s t) ∧
    (s.sys.mode = .stop ∨ s.sys.mode = .standby → Completes .cmdService s fun t =>
      t.sys.mode = .service ∧ t.sys.serviceFrom = s.sys.mode ∧ t.sys.prev = s.sys.mode ∧ Accepted Obj.mod.cmdStatus 3 0 s t ∧
      KeepsSpaces [0x00, 0x09, 0x0C, 0x0D, 0x10] s t) ∧
    (s.sys.mode = .service → s.sys.serviceFrom = .stop → Completes .endService s fun t =>
      t.sys.mode = .stop ∧ t.sys.prev = .service ∧ Accepted Obj.mod.cmdStatus 4 0 s t ∧ KeepsSpaces [0x00, 0x06, 0x08, 0x10] s t) ∧
    (s.sys.mode = .service → s.sys.serviceFrom = .stop → s.cat.activation = none → s.upd.activation = none → s.red.join = none →
      Completes .serviceDone s fun t => t.sys.mode = .stop ∧ t.sys.prev = .service ∧ KeepsSpaces [0x00, 0x06, 0x08, 0x10] s t)

/-- Mode commands that begin a transition (R23 (f), (j), (k), (l), R24, R497). Waits of the mode control that end (R663, R662). -/
def Obligations.ModeTransitions : Prop :=
  (∀ (s : State) (session : Fin 68) (endRun : Bool), Ready s → s.sys.trans = .none →
     (s.sys.mode = .active → s.maySwitch = true → Completes .cmdSwitch s fun t =>
       t.sys = { s.sys with trans := .switchOver, transTrig := .cmdSwitch, switchDue := true, switchToStop := false } ∧
       Accepted Obj.mod.cmdStatus 5 1 s t ∧ Keeps [Obj.mod.cmdStatus] s t ∧ t = { s with regs := t.regs, sys := t.sys }) ∧
     (s.sys.mode = .active → s.maySwitch = false → Completes .cmdSwitch s fun t =>
       Refused Obj.mod.cmdStatus 5 4 s t ∧ Keeps [Obj.mod.cmdStatus] s t ∧ t.sys = s.sys) ∧
     (s.sys.mode = .solo ∨ s.sys.mode = .active → s.parkable = true → Completes .cmdPark s fun t =>
       t.sys.trans = .park ∧ t.sys.parkedFrom = s.sys.mode ∧ t.sys.mode = s.sys.mode ∧ t.sched.draining = true ∧
       Accepted Obj.mod.cmdStatus 6 1 s t ∧ KeepsSpaces [0x00, 0x09, 0x0C, 0x0D] s t) ∧
     (s.sys.mode = .dormant → s.sys.wakeDue = false → Completes (.cmdWake session) s fun t =>
       t.sys = { s.sys with wakeDue := true, trans := .wake } ∧ Accepted Obj.mod.cmdStatus 7 1 s t ∧ Keeps [Obj.mod.cmdStatus] s t ∧
       t = { s with regs := t.regs, sys := t.sys, rcd := t.rcd }) ∧
     (s.sys.mode = .stop ∨ s.sys.mode = .service → Completes (.cmdRestart false endRun) s fun t =>
       t.sys.trans = .warmRestart ∧ t.sys.mode = s.sys.mode ∧ t.sys.restart = ⟨false, endRun, 1⟩ ∧ t.net.sessions = [] ∧
       t.bits Obj.mod.lastRestart 31 0 = 0x101) ∧
     (s.sys.mode = .stop ∨ s.sys.mode = .service → Completes (.cmdRestart true endRun) s fun t =>
       t.sys.mode = .boot ∧ t.sys.trans = .boot ∧ t.sys.own = false ∧ t.sys.restart = ⟨true, endRun, 1⟩)) ∧
  (∀ s : State, Ready s →
     (s.sys.partnerWait = true → s.sys.mode = .stop → s.catOf.isSome = true → s.roleMismatch = false → s.pairRole = true →
       s.partnerIn .active = false → s.sys.own = false → s.sys.peerOwn = false → Completes .partnerWaitExpired s fun t =>
         t.sys.mode = .active ∧ t.sys.own = true ∧ t.sys.partnerWait = false ∧ t.sys.bootPartnerLost = true ∧
         KeepsSpaces [0x00, 0x06, 0x08, 0x09, 0x0B, 0x0C, 0x0D, 0x10, 0x11] s t) ∧
     (s.red.ownAskAt.isSome = true → s.sys.trans = .switchOver → s.bits Obj.mod.cmdStatus 15 8 = 1 → Completes .ownRequestTimeout s fun t =>
       t.sys = { s.sys with trans := .none, transTrig := .cmdRun } ∧ t.red = { s.red with ownAskAt := none } ∧
       t.bits Obj.mod.cmdStatus 15 8 = 4 ∧ t.bits Obj.mod.cmdStatus 7 0 = s.bits Obj.mod.cmdStatus 7 0 ∧ Keeps [Obj.mod.cmdStatus] s t))

/-! ### Starts and stops of the module -/

/-- POWER_UP with the supply applied waits for the bank, HOLDUP_CHARGED begins BOOT, BOOTED leaves it for STOP or LOCKOUT (R22, R23 (a),
R640); a warm restart ends in STOP (R28). FATAL and a clock fault restart the module through BOOT without OWN (R23, R29, R634);
SUPPLY_LOST counts in BROWNOUTS and de-energises it (R23 (m), R562). -/
def Obligations.StartsAndStops : Prop :=
  (∀ (s : State) (p : PowerUp) (drives : List (Fin 2 × DriveFound)) (dramOk : Bool),
     (s.sys.powered = false → Completes (.powerUp p) s fun t =>
       t.sys.powered = false ∧ t.sys.chargeWait = true ∧ t.sys.mode = .boot ∧ t.sys.own = false ∧ t.sys.cable = p.cable ∧
       t.sys.unitB = (p.cable && !p.unitSel) ∧ t.bit Obj.pwr.pwrStatus 0 = p.inputA ∧ t.bit Obj.pwr.pwrStatus 1 = p.inputB) ∧
     (s.sys.chargeWait = true → Completes .holdupCharged s fun t =>
       t.sys.powered = true ∧ t.sys.chargeWait = false ∧ t.sys.mode = .boot ∧ t.sys.trans = .boot ∧ t.sys.own = false ∧
       t.net.sessions = [] ∧ t.ring.txns = []) ∧
     (Ready s → s.sys.mode = .boot → Completes (.booted true drives) s fun t =>
       t.sys.mode = (if t.sys.lockoutLatch then .lockout else .stop) ∧ t.sys.trans = .none ∧ t.sys.bootedAt = s.up) ∧
     (Ready s → s.sys.trans = .warmRestart → s.sys.restart.endRun = false → Completes (.warmRestartDone dramOk) s fun t =>
       t.sys.mode = .stop ∧ t.sys.trans = .none)) ∧
  (∀ (s : State) (cause : FatalCause) (block : BitVec 32) (clock : Fin 7) (va vb bank : BitVec 16) (k : Option Collapse),
     s.sys.powered = true → s.sys.chargeWait = false →
     Completes (.fatal cause block) s (fun t =>
       t.sys.mode = .boot ∧ t.sys.trans = .boot ∧ t.sys.own = false ∧ t.bit Obj.mod.faults 0 = true ∧ t.sys.powered = true) ∧
     Completes (.clockMonitorFault clock) s (fun t =>
       t.sys.mode = .boot ∧ t.sys.trans = .boot ∧ t.sys.own = false ∧ t.bit Obj.mod.faults 0 = true) ∧
     Completes (.supplyLost va vb bank k) s fun t =>
       t.sys.powered = false ∧ t.sys.own = false ∧ t.sys.brownOut = true ∧ t.sys.mode = s.sys.mode ∧ t.net.sessions = [] ∧
       t.ring.txns = [] ∧ t.bits Obj.pwr.brownouts 15 0 = min 65535 (s.bits Obj.pwr.brownouts 15 0 + 1))

/-! ### Time -/

/-- Short Time is ⌊Module Time / 4⌋ modulo 2^32, and within one period of 2^32 ticks it names one instant (R164). -/
def Obligations.ShortTimeNamesOneInstant : Prop :=
  ∀ a b : Nat, shortOf a = a / 4 % 2 ^ 32 ∧ (a / 4 < b / 4 + 2 ^ 32 → b / 4 < a / 4 + 2 ^ 32 → shortOf a = shortOf b → a / 4 = b / 4)

/-- PTP messages on a plant port of a domain (R167, R168): Announce enters the data sets and the best one names slave port and class; a
Sync, or the Follow_Up of a two-step Sync, on the slave port is one offset measurement. The peer-delay exchange (R167): an answer in one
step or two, a request, and the delay that a one-step or two-step answer gives. -/
def Obligations.PtpMessages : Prop :=
  (∀ (s : State) (i : Fin 8) (d : Nat) (a : PtpAnnounce) (m : PtpSync) (w : SyncWait), Ready s → s.plantPort i = true →
     (s.domainOf a.domain.toNat = some d → (∀ g ∈ (s.dom d).foreign, g.port = i.val) → Completes (.ptpAnnounceReceive i a) s fun t =>
       (t.dom d).announced = true ∧ (t.dom d).foreign.length = 1 ∧ t.slavePort d = i.val ∧
       t.bits (Obj.dom.domStatus d) 15 8 = a.clockClass.toNat ∧ t.rd64 (Obj.dom.gmIdentity d) = a.grandmaster.toNat ∧
       KeepsSpaces [0x02] s t ∧ t = { s with regs := t.regs, rcd := t.rcd, time := t.time }) ∧
     (s.domainOf m.domain.toNat = some d → s.slavePort d = i.val → m.twoStep = false → Completes (.ptpSyncReceive i m) s fun t =>
       (t.dom d).offset = s.syncOffset i m.origin m.correction s.now ∧
       (t.rd (Obj.dom.syncRx d)).toNat = min 0xFFFFFFFF ((s.rd (Obj.dom.syncRx d)).toNat + 1) ∧ KeepsSpaces [0x02, 0x16] s t) ∧
     (s.domainOf m.domain.toNat = some d → s.slavePort d = i.val → m.twoStep = true → Completes (.ptpSyncReceive i m) s fun t =>
       (t.ptpPort i).syncWait = some ⟨m.domain.toNat, m.seq.toNat, s.now, m.correction⟩ ∧ Keeps [Obj.dom.syncRx d] s t) ∧
     ((s.ptpPort i).syncWait = some w → w.domain = m.domain.toNat → w.seq = m.seq.toNat → s.domainOf m.domain.toNat = some d →
       s.slavePort d = i.val → Completes (.ptpFollowUpReceive i m) s fun t =>
         (t.dom d).offset = s.syncOffset i m.origin (w.correction + m.correction) w.rxTime ∧ (t.ptpPort i).syncWait = none ∧
         KeepsSpaces [0x02, 0x16] s t)) ∧
  (∀ (s : State) (i : Fin 8) (seq : BitVec 16) (stamp t1 t2 t4 : Nat) (corr c : Int), Ready s → s.plantPort i = true →
     Completes (.ptpPdelayReqReceive i seq) s (fun t =>
       t = { s with out := (if s.ptpOneStep then [] else [Out.ptp i .pdelayRespFollowUp seq.toNat s.now]) ++
               (Out.ptp i .pdelayResp seq.toNat s.now :: s.out) }) ∧
     Completes (.ptpPdelayReqSend i) s (fun t =>
       t.out = Out.ptp i .pdelayReq (((s.ptpPort i).reqSeq + 1) % 65536) s.now :: s.out ∧ (t.ptpPort i).reqSent = some s.now ∧
       (t.ptpPort i).reqSeq = ((s.ptpPort i).reqSeq + 1) % 65536 ∧ t = { s with out := t.out, time := t.time }) ∧
     ((s.ptpPort i).reqSent = some t1 → (s.ptpPort i).reqSeq = seq.toNat → Completes (.ptpPdelayRespReceive i seq false stamp corr) s fun t =>
       (t.ptpPort i).delay = some (((s.now : Int) - t1 - corr) / 2) ∧ (t.ptpPort i).reqSent = none ∧
       Keeps [Obj.dom.pathDelay 0, Obj.dom.pathDelay 1] s t) ∧
     ((s.ptpPort i).respWait = some (t1, t4, t2, c) → (s.ptpPort i).reqSeq = seq.toNat →
       Completes (.ptpPdelayRespFollowUpReceive i seq stamp corr) s fun t =>
         (t.ptpPort i).delay = some (((t4 : Int) - t1 - ((stamp : Int) - t2 + c + corr)) / 2) ∧ (t.ptpPort i).respWait = none ∧
         Keeps [Obj.dom.pathDelay 0, Obj.dom.pathDelay 1] s t))

/-- Servo states and sources (R169, R170, R173, R176). -/
def Obligations.TimeSources : Prop :=
  ∀ (s : State) (d : Fin 2) (noSync : Bool), Ready s →
    ((s.dom d).heard = true → Completes (.servoLocked d) s fun t => t.bits (Obj.dom.domStatus d) 3 0 = 2 ∧ KeepsSpaces [0x02] s t) ∧
    (s.bits (Obj.dom.domStatus d) 3 0 ≠ 0 → s.bits (Obj.dom.domStatus d) 3 0 ≠ 3 → Completes (.servoLost d noSync) s fun t =>
      t.bits (Obj.dom.domStatus d) 3 0 = 3 ∧ t.bit (Obj.dom.domStatus d) 4 = false ∧ Keeps [Obj.dom.domStatus d] s t) ∧
    Completes (.announceTimeout d) s (fun t =>
      (t.dom d).foreign = [] ∧ (t.dom d).announced = false ∧ t.slavePort d = 0xF ∧ t.bit (Obj.dom.domStatus d) 4 = false ∧
      Keeps [Obj.dom.domStatus d] s t) ∧
    (s.followsLeader = true → Completes .sourceSelect s fun t =>
      t.timeState = 4 ∧ t.bit (Obj.dom.domStatus 0) 5 = false ∧ t.bit (Obj.dom.domStatus 1) 5 = false ∧ KeepsSpaces [0x02] s t) ∧
    (s.timeState = 3 → Completes .traceabilityLost s fun t =>
      t.bit Obj.time.timeStatus 5 = false ∧ t.timeState = 3 ∧ Keeps [Obj.time.timeStatus] s t ∧ t = { s with regs := t.regs })

/-- TIME_CMD: a step and an acceptance of the pending offset, with their refusals, the counters and a recalibration (R178, R187, R195). -/
def Obligations.TimeCommands : Prop :=
  ∀ (s : State) (n : Fin 65536), Ready s →
    (s.bit Obj.time.timeStatus 7 = true → 0 ≤ signedOf 64 (s.rd64 Obj.time.pendingOffset) → Completes .timeStep s fun t =>
      t.time = { s.time with stepDue := true } ∧ Accepted Obj.time.cmdStatus 1 1 s t ∧ Keeps [Obj.time.cmdStatus] s t ∧
      t = { s with regs := t.regs, time := t.time }) ∧
    (s.bit Obj.time.timeStatus 7 = true → signedOf 64 (s.rd64 Obj.time.pendingOffset) < 0 → Completes .timeStep s fun t =>
      Refused Obj.time.cmdStatus 1 5 s t ∧ Keeps [Obj.time.cmdStatus] s t ∧ t = { s with regs := t.regs }) ∧
    (s.bit Obj.time.timeStatus 7 = true → signedOf 64 (s.rd64 Obj.time.pendingOffset) ≠ 0 → Completes .timeAccept s fun t =>
      Accepted Obj.time.cmdStatus 2 0 s t ∧ t.time.slewLeft = signedOf 64 (s.rd64 Obj.time.pendingOffset) ∧
      t.bit Obj.time.timeStatus 6 = true ∧ KeepsSpaces [0x02] s t) ∧
    (s.bit Obj.time.timeStatus 7 = false → Completes .timeAccept s fun t =>
      Refused Obj.time.cmdStatus 2 4 s t ∧ Keeps [Obj.time.cmdStatus] s t ∧ t = { s with regs := t.regs }) ∧
    Completes .timeClearCounters s (fun t =>
      (∀ d : Fin 2, t.rd (Obj.dom.syncRx d) = 0) ∧ (∀ i : Fin 256, t.rd (Obj.cal.calPasses i) = 0) ∧
      Accepted Obj.time.cmdStatus 4 0 s t ∧
      Keeps ([0, 1].map Obj.dom.syncRx ++ (List.range 256).map Obj.cal.calPasses ++ [Obj.time.cmdStatus]) s t) ∧
    (s.leader = true → s.hasString n = true → (s.calX n).running = false → n.val ≠ 0xFFFF → Completes (.timeRecalibrate n) s fun t =>
      (t.calX n).running = true ∧ Accepted Obj.time.cmdStatus 3 0 s t ∧ KeepsSpaces [0x02, 0x04] s t) ∧
    (s.hasString n = false → n.val ≠ 0xFFFF → Completes (.timeRecalibrate n) s fun t =>
      Refused Obj.time.cmdStatus 3 5 s t ∧ Keeps [Obj.time.cmdStatus] s t)

/-- TIME on the ring ports and its delay exchange (R180 to R182): what every UP port sends, and what an answer or a request leaves. A
hop-delay calibration pass: its start, its repetition and its end (R187, R188). -/
def Obligations.RingTimeAndCalibration : Prop :=
  (∀ (s : State) (late : List (Fin 512 × Fin 4)) (i : Fin 512) (count : Fin 32) (turn : Fin 100001), Ready s → s.link i = Link.up →
     (s.portEnabled i = true → Completes (.timeSyncSend late) s fun t =>
       (∃ l : Fin 4, Out.orderedSet i .time (l * 32 + shortOf s.now / 2 ^ 18 % 32) ∈ t.out) ∧ t = { s with out := t.out }) ∧
     (s.portEnabled i = true → Completes .delayReqSend s fun t =>
       (t.portX i).reqs = (s.portX i).reqs + 1 ∧ Out.orderedSet i .time (0x80 + ((s.portX i).reqs + 1) % 32) ∈ t.out ∧
       t = { s with out := t.out, ring := t.ring }) ∧
     Completes (.delayReqReceive i count turn) s (fun t =>
       t.out = Out.orderedSet i .time (0xA0 + count) :: s.out ∧ (t.portX i).turns = ((turn : Nat) :: (s.portX i).turns).take 64 ∧
       t = { s with out := t.out, ring := t.ring }) ∧
     ((s.portX i).reqs % 32 = count → Completes (.delayRespReceive i count turn) s fun t =>
       (t.portX i).rtts = ((turn : Nat) :: (s.portX i).rtts).take 64 ∧ t = { s with ring := t.ring })) ∧
  (∀ (s : State) (n : Fin 256) (f : Nat × Nat), Ready s →
     (s.leader = true → s.hasString n = true → (s.calX n).running = false →
       Completes (.calPassStart n) s (fun t =>
         (t.calX n).running = true ∧ t.bit (Obj.cal.calStatus n) 1 = true ∧ KeepsSpaces [0x02, 0x04] s t) ∧
       ((s.calX n).retryDue = true → Completes (.calPassRetry n) s fun t =>
         (t.calX n).running = true ∧ t.bit (Obj.cal.calStatus n) 1 = true ∧ KeepsSpaces [0x02, 0x04] s t)) ∧
     ((s.calX n).running = true → (s.calX n).fail = none →
       (∀ p ∈ s.reaching n, (s.calX n).written.contains p = true ∧ (s.nodeX (nodeInst n p)).timeLocked = true) →
       Completes (.calPassDone n) s fun t =>
         (t.calX n).running = false ∧ t.bit (Obj.cal.calStatus n) 1 = false ∧ t.rd64 (Obj.cal.calTime n) = s.now % 2 ^ 64 ∧
         (t.rd (Obj.cal.calPasses n)).toNat = min 0xFFFFFFFF ((s.rd (Obj.cal.calPasses n)).toNat + 1) ∧
         (s.ringState n = Rs.closed → t.bit (Obj.port.ring n) 24 = false ∧ t.bit (Obj.cal.calStatus n) 0 = false) ∧
         Keeps [Obj.cal.calStatus n, Obj.cal.closure n, Obj.cal.calPasses n, Obj.cal.calTime n, Obj.cal.calTime n + 1, Obj.cal.maxChange n,
           Obj.port.ring n, Obj.time.timeFlags] s t) ∧
     ((s.calX n).running = true → (s.calX n).fail = some f → Completes (.calPassDone n) s fun t =>
         (t.calX n).running = false ∧ (t.calX n).retryDue = true ∧ t.bits (Obj.cal.calStatus n) 7 4 = f.1 % 16 ∧
         t.bit Obj.time.timeFlags 6 = true ∧ Keeps [Obj.cal.calStatus n, Obj.time.timeFlags] s t))

/-- The time output and input (R192 to R194). -/
def Obligations.TimeInputOutput : Prop :=
  ∀ (s : State) (text : List Byte) (n e : Nat), Ready s →
    (s.timeState ≠ 0 → Completes .ppsOutput s fun t =>
      t = { s with out := Out.timeOutput (s.now / 1000000000) (todLine (s.now / 1000000000) (s.rd Obj.time.utcOffset).toNat s.timeState) :: s.out }) ∧
    (s.bits Obj.time.timeCfg 1 0 ≠ 0 →
      Completes .tiPulse s (fun t => t = { s with time := { s.time with tiEdge := some s.now } }) ∧
      Completes .tiLost s (fun t => t.time.tiUsable = false ∧ t.time.tiEdge = none ∧ t.bit Obj.time.timeFlags 7 = true ∧
        Keeps [Obj.time.timeFlags] s t) ∧
      (lineSecond text = some n → s.time.tiEdge = some e → Completes (.tiLine text) s fun t =>
        t.time = { s.time with tiUsable := true, tiEdge := none } ∧
        t.rd Obj.time.tiOffset = w32 (bitsOfInt 32 (clampInt (-2147483647) 2147483647 ((e : Int) - (n * 1000000000 : Nat)))) ∧
        Keeps [Obj.time.tiOffset] s t) ∧
      (lineSecond text = none → Completes (.tiLine text) s fun t =>
        t.time.tiUsable = false ∧ t.time.tiEdge = none ∧ t.bit Obj.time.timeFlags 7 = true ∧ Keeps [Obj.time.timeFlags] s t)) ∧
    Completes .timeSave s fun t => t = { s with time := { s.time with saved := s.now } }

/-! ### Ring links -/

/-- What a ring port sends and hears: HEARTBEAT each way, silence and its reach, FAULT's end, an optical measurement, a link that comes up
(R85, R86, R88, R90, R94, R108). -/
def Obligations.RingPortLife : Prop :=
  ∀ (s : State) (i : Fin 512) (node : Bool) (hops : Fin 64) (launch received : BitVec 16), Ready s →
    (s.link i = Link.up → s.portEnabled i = true → Completes .heartbeatSend s fun t =>
      Out.orderedSet i .heartbeat 0 ∈ t.out ∧ (t.portX i).hbTick = false ∧ KeepsSpaces [0x03] s t ∧
      t = { s with regs := t.regs, out := t.out, ring := t.ring }) ∧
    (s.link i = Link.up → Completes (.heartbeatReceive i node hops) s fun t =>
      t.rd (Obj.port.hbLast i) = w32 ((s.bits (Obj.port.hbLast i) 31 16 + 1) % 65536 * 65536 + node.toNat * 128 + hops) ∧
      t.bit (Obj.port.portStatus i) 7 = false ∧ (t.portX i).hb = some ⟨node, hops⟩ ∧
      ((s.portX i).hb = some ⟨node, hops⟩ → (t.portX i).reach = some ⟨node, hops⟩) ∧ KeepsSpaces [0x02, 0x03] s t) ∧
    (s.bit (Obj.port.portStatus i) 7 = false → Completes (.portSilent i) s fun t =>
      t.bit (Obj.port.portStatus i) 7 = true ∧ t.bit (Obj.port.portFlags i) 4 = true ∧ (t.portX i).hb = none ∧
      (t.portX i).silentAt = s.up ∧ Keeps [Obj.port.portStatus i, Obj.port.portFlags i] s t) ∧
    (s.bit (Obj.port.portStatus i) 7 = true → Completes (.silentReachExpiry i) s fun t =>
      (t.portX i).reach = none ∧ KeepsSpaces [0x02, 0x03] s t) ∧
    (s.bit (Obj.port.portStatus i) 8 = true → Completes (.faultActiveClear i) s fun t =>
      t.bit (Obj.port.portStatus i) 8 = false ∧ Keeps [Obj.port.portStatus i] s t ∧ t = { s with regs := t.regs, rcd := t.rcd }) ∧
    (s.link i = Link.training → Completes (.linkUp i) s fun t =>
      t.link i = Link.up ∧ t.rd64 (Obj.port.linkTime i) = s.now % 2 ^ 64 ∧ (t.portX i).downCause = 0 ∧ (t.portX i).errSyms = [] ∧
      Keeps [Obj.port.portStatus i, Obj.port.linkTime i, Obj.port.linkTime i + 1] s t) ∧
    Completes (.opticalMeasure i launch received) s fun t =>
      t.rd (Obj.port.optical i) = w32 (launch.toNat * 65536 + received.toNat) ∧ Keeps [Obj.port.optical i] s t ∧
      t = { s with regs := t.regs, rcd := t.rcd, ring := t.ring }

/-- A port that has received no HEARTBEAT for 300 µs sets SILENT with event 0x043, and the first HEARTBEAT afterwards clears it with event
0x044 (R86); the recorder has an entry free. -/
def Obligations.SilencePortEvents : Prop :=
  ∀ (s : State) (i : Fin 512) (node : Bool) (hops : Fin 64), Ready s → s.rcd.unflushed = 0 → s.rcd.buffer = [] →
    (s.bit (Obj.port.portStatus i) 7 = false → Completes (.portSilent i) s fun t =>
      t.bit (Obj.port.portStatus i) 7 = true ∧ t.rcd.buffer.any (fun r => r.code == 0x043 && r.inst == i.val && r.time == s.now) = true) ∧
    (s.link i = Link.up → s.bit (Obj.port.portStatus i) 7 = true → Completes (.heartbeatReceive i node hops) s fun t =>
      t.bit (Obj.port.portStatus i) 7 = false ∧ t.rcd.buffer.any (fun r => r.code == 0x044 && r.inst == i.val && r.time == s.now) = true)

/-- Errors of a ring port: a symbol error, a loss and a return of light, a crossing overrun, a bad frame, a received FAULT (R84, R88, R90,
R91, R100, R116). -/
def Obligations.RingPortErrors : Prop :=
  ∀ (s : State) (i : Fin 512) (symbol : Nat) (place : SymbolPlace) (os : Bool) (why : BadFrame) (cause : Fin 4) (hops : Fin 64), Ready s →
    (s.link i = Link.up → place ≠ .misaligned → Completes (.symbolError i symbol place) s fun t =>
      (t.rd (Obj.port.codeErrors i)).toNat = min 0xFFFFFFFF ((s.rd (Obj.port.codeErrors i)).toNat + 1) ∧
      t.bit (Obj.port.portFlags i) 3 = true ∧ KeepsSpaces [0x02, 0x03, 0x04, 0x11] s t) ∧
    (s.bit (Obj.port.portStatus i) 6 = false → Completes (.losAssert i) s fun t =>
      t.bit (Obj.port.portStatus i) 6 = true ∧ t.bit (Obj.port.portFlags i) 1 = true ∧ t.link i ≠ Link.up ∧
      (t.rd (Obj.port.losEvents i)).toNat = min 0xFFFFFFFF ((s.rd (Obj.port.losEvents i)).toNat + 1) ∧
      KeepsSpaces [0x02, 0x03, 0x04, 0x11] s t) ∧
    (s.bit (Obj.port.portStatus i) 6 = true → Completes (.losDeassert i) s fun t =>
      t.bit (Obj.port.portStatus i) 6 = false ∧ (s.link i = Link.dark → t.link i = Link.training ∨ t.link i = Link.retired) ∧
      KeepsSpaces [0x02, 0x03, 0x04, 0x11] s t) ∧
    Completes (.portOverrun i os) s (fun t =>
      t.bit (Obj.port.portFlags i) 0 = true ∧
      (t.rd (Obj.port.overruns i)).toNat = min 0xFFFFFFFF ((s.rd (Obj.port.overruns i)).toNat + 1) ∧
      KeepsSpaces [0x02, 0x03, 0x04, 0x11] s t) ∧
    (s.link i = Link.up → Completes (.badFrame i why) s fun t =>
      (t.rd (Obj.port.crcErrors i)).toNat = min 0xFFFFFFFF ((s.rd (Obj.port.crcErrors i)).toNat + 1) ∧
      KeepsSpaces [0x02, 0x03, 0x04, 0x11] s t) ∧
    (s.link i = Link.up → Completes (.faultReceive i cause hops) s fun t =>
      t.bit (Obj.port.portStatus i) 8 = true ∧ t.bit (Obj.port.portFlags i) 5 = true ∧
      t.rd (Obj.port.faultLast i) = w32 ((s.bits (Obj.port.faultLast i) 31 16 + 1) % 65536 * 65536 +
        faultPosition i (s.ringN (i % 256)) hops * 256 + cause * 64 + hops) ∧ KeepsSpaces [0x03, 0x0B] s t)

/-- PORT_CMD and the life of a retired port: retirement, reinstatement and its self-test, retraining, counters, the decay of the scores
(R93, R101, R103 to R106, R108). The state of a ring (R95 to R97): CLOSED by returned heartbeats, and the end of MISWIRED. -/
def Obligations.RingPortCommands : Prop :=
  (∀ (s : State) (i : Fin 512) (step : Fin 4), Ready s →
     (s.hasString (i % 256) = true → s.link i ≠ Link.retired → Completes (.portRetire i) s fun t =>
       t.link i = Link.retired ∧ t.bits (Obj.port.portStatus i) 23 16 = 5 ∧ Accepted (Obj.port.cmdStatus i) 1 0 s t ∧
       KeepsSpaces [0x02, 0x03, 0x04, 0x11] s t) ∧
     (s.hasString (i % 256) = false → Completes (.portReinstate i) s fun t =>
       Refused (Obj.port.cmdStatus i) 2 4 s t ∧ Keeps [Obj.port.cmdStatus i] s t) ∧
     (s.hasString (i % 256) = true → s.link i = Link.retired → Completes (.portReinstate i) s fun t =>
       t.link i = Link.selfTest ∧ (t.portX i).testAt = s.up ∧ Accepted (Obj.port.cmdStatus i) 2 1 s t ∧
       Keeps [Obj.port.portStatus i, Obj.port.linkTime i, Obj.port.linkTime i + 1, Obj.port.cmdStatus i] s t) ∧
     (s.link i = Link.selfTest → Completes (.portSelfTestDone i step) s fun t =>
       t.link i = (if step.val = 0 then Link.up else Link.retired) ∧
       t.bits (Obj.port.cmdStatus i) 15 8 = (if step.val = 0 then 0 else 9) ∧
       (step.val = 0 → t.bits (Obj.port.score i) 15 0 = 0 ∧ t.bits (Obj.port.portStatus i) 23 16 = 0) ∧
       Keeps [Obj.port.portStatus i, Obj.port.linkTime i, Obj.port.linkTime i + 1, Obj.port.cmdStatus i, Obj.port.score i] s t) ∧
     (s.hasString (i % 256) = true → s.link i = Link.up → s.bits (Obj.port.score i) 15 0 ≤ 900 → Completes (.portRetrain i) s fun t =>
       t.link i = Link.training ∧ Accepted (Obj.port.cmdStatus i) 3 0 s t ∧
       (t.rd (Obj.port.retrains i)).toNat = min 0xFFFFFFFF ((s.rd (Obj.port.retrains i)).toNat + 1) ∧
       t.bits (Obj.port.score i) 15 0 = s.bits (Obj.port.score i) 15 0 + 32 ∧ KeepsSpaces [0x02, 0x03, 0x04, 0x11] s t) ∧
     (s.hasString (i % 256) = true → Completes (.portClearCounters i) s fun t =>
       t.rd (Obj.port.crcErrors i) = 0 ∧ t.rd (Obj.port.codeErrors i) = 0 ∧ t.rd (Obj.port.retrains i) = 0 ∧
       t.bits (Obj.port.score i) 31 16 = s.bits (Obj.port.score i) 15 0 ∧ Accepted (Obj.port.cmdStatus i) 4 0 s t ∧
       Keeps (portCounters i ++ [Obj.port.score i, Obj.port.cmdStatus i]) s t) ∧
     Completes .portScoreDecay s (fun t =>
       t.bits (Obj.port.score i) 15 0 = s.bits (Obj.port.score i) 15 0 - 1 ∧
       t.bits (Obj.port.score i) 31 16 = s.bits (Obj.port.score i) 31 16 ∧ Keeps (allPorts.map Obj.port.score) s t) ∧
     (s.link i = Link.training → Completes (.trainingFailure i) s fun t =>
       t.link i = Link.retired ∧ t.bits (Obj.port.portStatus i) 23 16 = 2 ∧ KeepsSpaces [0x02, 0x03, 0x04, 0x11] s t) ∧
     (s.bit (Obj.port.portStatus i) 6 = true → s.link i = Link.dark → Completes (.portLosTimeout i) s fun t =>
       t.link i = Link.retired ∧ t.bits (Obj.port.portStatus i) 23 16 = 1 ∧ KeepsSpaces [0x02, 0x03, 0x04, 0x11] s t)) ∧
  (∀ (s : State) (n : Fin 256), Ready s →
     (s.hasString n = true → bothClosed (s.ringN n) (s.portX n).reach (s.portX (256 + n)).reach = true → s.ringState n ≠ Rs.miswired →
       Completes (.ringReturnClosed n) s fun t => t.ringState n = Rs.closed ∧ KeepsSpaces [0x02, 0x03] s t) ∧
     (s.ringState n = Rs.miswired → hbMiswired (s.ringN n) (s.portX n).reach = false →
       hbMiswired (s.ringN n) (s.portX (256 + n)).reach = false → Completes (.miswiredLeft n) s fun t =>
         t.ringState n = (if bothClosed (s.ringN n) (s.portX n).reach (s.portX (256 + n)).reach then Rs.closed
           else openStateOf (s.ringN n) (reachWOf (s.ringN n) (s.portX n).reach) (reachEOf (s.ringN n) (s.portX (256 + n)).reach)) ∧
         KeepsSpaces [0x02, 0x03] s t))

/-! ### Transactions and node frames -/

/-- The ends of a transaction (R151, R153): repeated, failed, discarded. -/
def Obligations.TransactionEnds : Prop :=
  ∀ (s : State) (id : Nat) (x : Txn), Ready s → s.txn id = some x →
    (x.attempts < 4 → x.ports.filter (s.portsFor x.req.string x.req.scope x.req.target).contains ≠ [] → Completes (.txnRetry id) s fun t =>
      t.txn id = some { x with attempts := x.attempts + 1 } ∧ KeepsSpaces [0x02, 0x03, 0x04, 0x11] s t) ∧
    Completes (.txnFailed id) s (fun t =>
      t.txn id = none ∧ t.ring.ended = ⟨x.req.string, x.seq, x.req.opcode⟩ :: s.ring.ended ∧
      t.bit (Obj.node.nodeFlags x.req.inst) 1 = true ∧ KeepsSpaces [0x02, 0x03, 0x04, 0x11] s t) ∧
    Completes (.txnDiscarded id) s fun t =>
      t.txn id = none ∧ t.ring.ended = ⟨x.req.string, x.seq, x.req.opcode⟩ :: s.ring.ended ∧
      t.bit (Obj.node.nodeFlags x.req.inst) 1 = true ∧ KeepsSpaces [0x02, 0x03, 0x04, 0x11] s t

/-- Frames from nodes at an UP port, their hop indices agreeing (R125): a reply ends its transaction (R151), an IDENT gives serial and
firmware (R144), an alert is kept (R149), a first copy of a MEAS stands as provisional (R213), a command comes back (R126). NODE_CMD on a
configured node (R145, R147, R148, R160): each leaves one request for its command in the queues of the ports that reach the node, and
CLEAR_COUNTERS clears. -/
def Obligations.NodeFramesAndCommands : Prop :=
  (∀ (s : State) (f : NodeFrame) (x : Txn) (r : NodeRec) (q : Snap) (g : RingFrame), Ready s → s.link f.port = Link.up →
     (s.hasString (f.port % 256) = true → s.frameLocated f = true →
       (s.ring.txns.find? (replyMatches (f.port % 256) (senderOf (s.ringN (f.port % 256)) f) f) = some x →
         x.expect = [senderOf (s.ringN (f.port % 256)) f] → Completes (.replyReceive f) s fun t =>
           t.txn x.req.id = none ∧
           t.rd (Obj.node.hops (nodeInst (f.port % 256) (senderOf (s.ringN (f.port % 256)) f))) = w32 (f.srcE.toNat * 256 + f.srcW.toNat) ∧
           t.bits (Obj.node.nodeStatus (nodeInst (f.port % 256) (senderOf (s.ringN (f.port % 256)) f))) 23 16 = f.status.toNat ∧
           KeepsSpaces [0x02, 0x03, 0x04, 0x11] s t) ∧
       (s.nodeRec (f.port % 256) (senderOf (s.ringN (f.port % 256)) f) = some r → Completes (.identReceive f) s fun t =>
           t.rd64 (Obj.node.serial (nodeInst (f.port % 256) (senderOf (s.ringN (f.port % 256)) f))) = leAt f.payload 0 8 ∧
           t.rd (Obj.node.fwVersion (nodeInst (f.port % 256) (senderOf (s.ringN (f.port % 256)) f))) = w32 (leAt f.payload 14 4) ∧
           KeepsSpaces [0x02, 0x03, 0x04, 0x11] s t) ∧
       ((s.nodeX (nodeInst (f.port % 256) (senderOf (s.ringN (f.port % 256)) f))).alerts.contains f.seq.toNat = false →
         Completes (.alertReceive f) s fun t =>
           t.rd (Obj.node.alertLast (nodeInst (f.port % 256) (senderOf (s.ringN (f.port % 256)) f))) =
             w32 (leAt f.payload 2 2 * 65536 + byteAt f.payload 1 * 256 + byteAt f.payload 0) ∧
           t.bit (Obj.node.nodeFlags (nodeInst (f.port % 256) (senderOf (s.ringN (f.port % 256)) f))) 0 = true ∧
           KeepsSpaces [0x02, 0x03, 0x04, 0x11] s t) ∧
       ((s.ringX (f.port % 256)).eff ≠ Rs.miswired → s.nodeRec (f.port % 256) (senderOf (s.ringN (f.port % 256)) f) = some r →
         (s.strX (f.port % 256)).snaps.find? (fun q => q.no == f.seq.toNat) = some q →
         q.samples.find? (fun y => y.p == senderOf (s.ringN (f.port % 256)) f) = none →
         s.copiesNeeded (f.port % 256) (senderOf (s.ringN (f.port % 256)) f) ≠ 1 → Completes (.measReceive f) s fun t =>
           (t.strX (f.port % 256)).snaps.any (fun z => z.no == q.no && z.samples.any fun y =>
             y.p == senderOf (s.ringN (f.port % 256)) f && y.conf == .provisional && y.payload == f.payload && y.port == f.port.val) = true ∧
           t.rd64 (Obj.node.lastSeen (nodeInst (f.port % 256) (senderOf (s.ringN (f.port % 256)) f))) = s.now % 2 ^ 64)) ∧
     (Out.ringFrame (if f.port.val < 256 then f.port.val + 256 else f.port.val - 256) g ∈ s.out → g.seq = f.seq → g.opcode = f.opcode.toNat →
       Completes (.commandLoopback f.port f.seq f.opcode) s fun t => (t.portX f.port).loopbacks = (s.portX f.port).loopbacks + 1)) ∧
  (∀ (s : State) (n : NodeId) (r : NodeRec), Ready s → s.nodeRec n.string n.p = some r →
     (s.ring.results = [] → s.portsFor n.string .single n.p ≠ [] →
       (∀ i ∈ s.portsFor n.string .single n.p, s.queuedOn i < 256) →
       Completes (.nodeIdentify n) s (fun t =>
         t.ring.queue.map RingReq.opcode = s.ring.queue.map RingReq.opcode ++ [Op.identify] ∧ t.ring.nextId = s.ring.nextId + 1 ∧
         Accepted (Obj.node.cmdStatus (nodeInst n.string n.p)) 1 1 s t ∧ Keeps [Obj.node.cmdStatus (nodeInst n.string n.p)] s t) ∧
       ((s.nodeX (nodeInst n.string n.p)).mismatched = false → Completes (.nodeConfigure n) s fun t =>
         t.ring.queue.map RingReq.payload = s.ring.queue.map RingReq.payload ++ [s.configPayload r] ∧
         Accepted (Obj.node.cmdStatus (nodeInst n.string n.p)) 2 1 s t ∧ Keeps [Obj.node.cmdStatus (nodeInst n.string n.p)] s t) ∧
       Completes (.nodeClear n) s (fun t =>
         t.ring.queue.map RingReq.opcode = s.ring.queue.map RingReq.opcode ++ [Op.clear] ∧
         Accepted (Obj.node.cmdStatus (nodeInst n.string n.p)) 3 1 s t ∧ Keeps [Obj.node.cmdStatus (nodeInst n.string n.p)] s t) ∧
       Completes (.nodeReset n) s fun t =>
         t.ring.queue.map RingReq.opcode = s.ring.queue.map RingReq.opcode ++ [Op.resetNode] ∧
         Accepted (Obj.node.cmdStatus (nodeInst n.string n.p)) 4 1 s t ∧ Keeps [Obj.node.cmdStatus (nodeInst n.string n.p)] s t) ∧
     (s.ring.results = [] → Completes (.nodeClearCounters n) s fun t =>
       t.rd (Obj.node.txns (nodeInst n.string n.p)) = 0 ∧ t.rd (Obj.node.retries (nodeInst n.string n.p)) = 0 ∧
       t.rd (Obj.node.txnFailed (nodeInst n.string n.p)) = 0 ∧ Accepted (Obj.node.cmdStatus (nodeInst n.string n.p)) 5 0 s t ∧
       KeepsSpaces [0x04] s t))

/-! ### Exchange sessions -/

/-- Sessions open with a completed handshake and HELLO (R520 to R522) and end by BYE, by silence, with their connection or by END_SESSION
(R521, R524, R549). -/
def Obligations.SessionsOpenAndEnd : Prop :=
  ∀ (s : State) (port : Fin 9) (peer : BitVec 128) (chain : ClientChain) (k : Nat) (rights : Nat) (anchors : List Nat) (i : Fin 68)
    (q : ReqHead) (want : Byte) (x : SessX) (c : Fin 8), Ready s →
    (s.sys.mode ≠ .boot → s.plantPort port = true ∨ port.val = 8 → s.chainGrant port chain = .inr (rights, anchors) →
      (if port.val = 8 then (List.range 4).map (· + 64)
        else List.range (match s.catOf with | some r => r.network.sessions | none => 16)).find? (fun j => (s.sessX j).isNone) = some k →
      Completes (.tlsConnect port false peer chain) s fun t =>
        t.sessX k = some { port := port, identity := false, granted := rights, anchors := anchors, client := 0, lastAt := s.up } ∧
        t.rd (Obj.sess.sessStatus k) = w32 (port * 16 + 1) ∧
        (∀ j : Fin 4, t.rd (Obj.sess.sessPeer k + j) = w32 (peer.toNat / 2 ^ (32 * j.val))) ∧
        Keeps [Obj.sess.sessStatus k, Obj.sess.sessPeer k, Obj.sess.sessPeer k + 1, Obj.sess.sessPeer k + 2, Obj.sess.sessPeer k + 3] s t ∧
        t = { s with regs := t.regs, net := t.net }) ∧
    (s.sessX i = some x → s.sessState i ≠ 2 → Completes (.hello i q 1 want) s fun t =>
      t.sessState i = 2 ∧ t.rd (Obj.sess.sessStatus i) = w32 (Nat.land want.toNat x.granted * 256 + x.port * 16 + x.identity.toNat * 8 + 2) ∧
      t.rd64 (Obj.sess.sessClient i) = q.client.toNat ∧ t.rd64 (Obj.sess.sessOpened i) = s.now % 2 ^ 64 ∧
      t.sessX i = some { x with client := q.client.toNat, lastAt := s.up } ∧
      t.out = Out.reply i q.client.toNat q.no.toNat Mt.hello 0 1 (leBytes (i + Nat.land want.toNat x.granted * 256 + s.unit * 65536 +
        x.identity.toNat * 2 ^ 24) 4 ++ bytesOfWords (s.rdList Obj.mod.serial 4) ++ leBytes 16448 4) :: s.out ∧ KeepsSpaces [0x11] s t) ∧
    (OpenSession s i → Completes (.bye i q) s fun t =>
      t.sessX i = none ∧ Out.reply i q.client.toNat q.no.toNat Mt.bye 0 1 [] ∈ t.out ∧ KeepsSpaces [0x0B, 0x11] s t) ∧
    ((s.sessX i).isSome = true →
      Completes (.exchSessionIdle i) s (fun t => t.sessX i = none ∧ t.out = Out.closed (.session i) :: s.out ∧ KeepsSpaces [0x0B, 0x11] s t) ∧
      Completes (.connectionLost (.session i)) s (fun t => t.sessX i = none ∧ KeepsSpaces [0x0B, 0x11] s t) ∧
      Completes (.endSession ⟨i, by omega⟩) s (fun t => t.sessX i = none ∧ Accepted Obj.net.cmdStatus 2 0 s t ∧ KeepsSpaces [0x0B, 0x11] s t)) ∧
    ((s.sessX i).isSome = false → Completes (.endSession ⟨i, by omega⟩) s fun t =>
      Refused Obj.net.cmdStatus 2 5 s t ∧ Keeps [Obj.net.cmdStatus] s t ∧ t = { s with regs := t.regs }) ∧
    Completes (.connectionLost (.modbus c)) s fun t => c.val ∉ t.net.modbus ∧ Keeps [] s t ∧ t = { s with net := t.net }

/-- Messages answered at once (R523 to R526): KEEPALIVE, a malformed one, READ of items that are served. -/
def Obligations.MessagesAnswered : Prop :=
  ∀ (s u : State) (i : Fin 68) (q : ReqHead) (type : Byte) (addr : BitVec 32) (count : BitVec 16) (l : List Word), Ready s → OpenSession s i →
    Completes (.keepalive i q) s (fun t =>
      t.out = Out.reply i q.client.toNat q.no.toNat Mt.keepalive 0 1 [] :: s.out ∧
      (t.rd Obj.net.requests).toNat = min 0xFFFFFFFF ((s.rd Obj.net.requests).toNat + 1) ∧
      Keeps [Obj.net.requests, Obj.sess.sessRequests i] s t) ∧
    Completes (.badMessage i q type false) s (fun t =>
      t.out = Out.reply i q.client.toNat q.no.toNat type.toNat 1 1 [] :: s.out ∧ Keeps [Obj.net.requests, Obj.sess.sessRequests i] s t) ∧
    Completes (.badMessage i q type true) s (fun t => t.sessX i = none ∧ KeepsSpaces [0x0B, 0x11] s t) ∧
    (s.hasRight i Rt.r = true → count ≠ 0 → addr.toNat % 128 + count.toNat ≤ 128 →
      (s.heard i q).readItems i ((List.range count.toNat).map (addr.toNat + ·)) = some (l, u) → Completes (.read i q addr count) s fun t =>
        Out.reply i q.client.toNat q.no.toNat Mt.read 0 1 (bytesOfWords l) ∈ t.out ∧ t = { u with out := t.out })

/-- Writes (R490, R527): a WRITE taken is staged for the commit point; applied without a request, a register takes its value as its access
code says (R8). -/
def Obligations.HostWrites : Prop :=
  ∀ (s : State) (i : Fin 68) (q : ReqHead) (addr : BitVec 32) (values : List Word) (w : Word) (k : ObjKind) (d : ObjDef), Ready s →
    (OpenSession s i → NewRequest s q → values ≠ [] → addr.toNat % 128 + values.length ≤ 128 → s.notOwnerFor i = false →
      (writeRights addr.toNat (values.headD 0)).all (s.hasRight i) = true → (s.objAt addr.toNat).isSome = true →
      spaceOf addr.toNat ≠ 0x0C → spaceOf addr.toNat ≠ 0x14 → Completes (.write i q addr 0 0 values) s fun t =>
        Taken i q (.target addr.toNat values) s t ∧ Keeps [Obj.net.requests, Obj.sess.sessRequests i] s t) ∧
    (s.ring.results = [] → s.objAt addr.toNat = some (k, d) →
      (d.acc = .w1c → cmdItem k (addr.toNat % 128) = false → ¬(k = .cell ∧ addr.toNat % 128 = 0x2B) → spaceOf addr.toNat ≠ 0x0B →
        s.itemRefusal i k d.acc (addr.toNat / 2 ^ 7 % 2 ^ 17) (addr.toNat % 128) 1 w = 0 → Completes (.registerWrite i addr w) s fun t =>
          t.rd addr.toNat = s.rd addr.toNat &&& ~~~w ∧ Keeps [addr.toNat] s t ∧ t = { s with regs := t.regs }) ∧
      (s.itemRefusal i k d.acc (addr.toNat / 2 ^ 7 % 2 ^ 17) (addr.toNat % 128) 1 w ≠ 0 →
        Completes (.registerWrite i addr w) s fun t => t = s)) ∧
    (s.ring.results = [] → (s.objAt Obj.time.timeCfg).isSome = true →
      s.itemRefusal i .time .rwl (Obj.time.timeCfg / 2 ^ 7 % 2 ^ 17) (Obj.time.timeCfg % 128) 1 w = 0 →
      Completes (.registerWrite i (w32 Obj.time.timeCfg) w) s fun t =>
        t.rd Obj.time.timeCfg = w &&& 0xFFFFFF03 ∧ Keeps [Obj.time.timeCfg] s t ∧ t = { s with regs := t.regs })

/-- Requests for exchange rings and subscriptions (R533 to R537): taken on arrival and staged for the boundary; PEEK and INFO act at once
where the Vitrine has an entry (R540). -/
def Obligations.RingRequestsTaken : Prop :=
  ∀ (s : State) (i : Fin 68) (q : ReqHead) (ring : BitVec 20) (es : List (List Byte)) (seq source period : BitVec 32) (count sub : BitVec 16)
    (items mode lease : Byte) (r : RingAllocRec) (f : SubFields) (x : SessX), Ready s → OpenSession s i →
    (NewRequest s q → s.notOwnerFor i = false → s.hasRight i Rt.w = true → s.ringAlloc ring.toNat = some r →
      (ringLayoutOk r (.put es) = true → mayAct (.host 0) r (.put es) = true → Completes (.ringPut i q ring es) s fun t =>
        Taken i q (.ring ring.toNat (.put es)) s t ∧ Keeps [Obj.net.requests, Obj.sess.sessRequests i] s t) ∧
      (mayAct (.host 0) r (.release seq) = true → Completes (.ringRelease i q ring seq) s fun t =>
        Taken i q (.ring ring.toNat (.release seq)) s t ∧ Keeps [Obj.net.requests, Obj.sess.sessRequests i] s t) ∧
      (mayAct (.host 0) r .clear = true → Completes (.ringClear i q ring) s fun t =>
        Taken i q (.ring ring.toNat .clear) s t ∧ Keeps [Obj.net.requests, Obj.sess.sessRequests i] s t) ∧
      (ringLayoutOk r (.bind source items mode period) = true → Completes (.ringBind i q ring source items mode period) s fun t =>
        Taken i q (.ring ring.toNat (.bind source items mode period)) s t ∧ Keeps [Obj.net.requests, Obj.sess.sessRequests i] s t) ∧
      Completes (.ringUnbind i q ring) s fun t =>
        Taken i q (.ring ring.toNat .unbind) s t ∧ Keeps [Obj.net.requests, Obj.sess.sessRequests i] s t) ∧
    (s.hasRight i Rt.r = true → s.ringAlloc ring.toNat = some r → s.ringBusy ring.toNat = false →
      s.net.vit.waiting.any (fun o => o.ring == ring.toNat) = false → r.pin = true ∨ s.vitTakes 2 = true →
      Completes (.ringInfo i q ring) s (fun t =>
        (∃ o ∈ t.net.vit.held, o.ring = ring.toNat ∧ o.op = .info ∧ o.result = some (0, infoBytes r (s.xRing ring.toNat))) ∧
        t.net.rings = s.net.rings ∧ KeepsSpaces [0x11] s t) ∧
      (ringLayoutOk r (.peek seq count) = true → Completes (.ringPeek i q ring seq count) s fun t =>
        (∃ o ∈ t.net.vit.held, o.ring = ring.toNat ∧ o.op = .peek seq count ∧
          o.result = some (0, peekBytes r (s.xRing ring.toNat) seq.toNat count.toNat)) ∧
        t.net.rings = s.net.rings ∧ KeepsSpaces [0x11] s t)) ∧
    (NewRequest s q → s.notOwnerFor i = false → s.hasRight i Rt.r = true →
      (f.provisional = false → (s.ringAlloc f.ring.toNat).isSome = true → s.leaseOk f.lease.toNat = true → s.net.subs.length < 1024 →
        s.sessX i = some x → Completes (.subscribe i q f) s fun t =>
          Taken i q (.subscribe q.client.toNat f (x.port / 2) s.net.nextSub (Config.randomBytes s.free 32)) s t ∧
          t.net.nextSub = (s.net.nextSub + 1) % 65536 ∧ Keeps [Obj.net.requests, Obj.sess.sessRequests i] s t) ∧
      ((s.net.subs.any fun y => y.id == sub.toNat && y.client == q.client.toNat) = true →
        (s.leaseOk lease.toNat = true → Completes (.subscribeRenew i q sub lease) s fun t =>
          Taken i q (.renew q.client.toNat sub.toNat lease.toNat) s t ∧ Keeps [Obj.net.requests, Obj.sess.sessRequests i] s t) ∧
        Completes (.unsubscribe i q sub) s fun t =>
          Taken i q (.unsubscribe q.client.toNat sub.toNat) s t ∧ Keeps [Obj.net.requests, Obj.sess.sessRequests i] s t))

/-- What the operations on an exchange ring do when they act (R533, R534): RELEASE and CLEAR move HEAD, PUT appends where there is room,
BIND and UNBIND set the binding; the other rings stay as they are. -/
def Obligations.RingOperationsAct : Prop :=
  ∀ (s : State) (k j : Nat) (r : RingAllocRec) (force : Bool) (es : List (List Byte)) (op : RingOp),
    ((s.ringDo k r force .clear).2.2.xRing k).entries = [] ∧
    ((s.ringDo k r force .clear).2.2.xRing k).head = (s.xRing k).tail ∧
    ((s.ringDo k r force .unbind).2.2.xRing k).bind = none ∧
    ((s.xRing k).entries.length + es.length ≤ r.depth →
      (s.ringDo k r force (.put es)).1 = 0 ∧ ((s.ringDo k r force (.put es)).2.2.xRing k).entries = (s.xRing k).entries ++ es) ∧
    (j ≠ k → (s.ringDo k r force op).2.2.xRing j = s.xRing j)

/-- Entries of the Vitrine and leases (R537, R540 to R542). -/
def Obligations.VitrineAndLeases : Prop :=
  ∀ (s : State) (ring : BitVec 20) (o : VitOp) (id : Nat) (c : Fin 4) (sub : BitVec 16), Ready s →
    (s.net.vit.held.find? (fun x => x.ring == ring.toNat) = some o → o.user = .module_ → s.net.vit.waiting = [] → s.net.subs = [] →
      Completes (.vitrineEntryFree ring) s fun t =>
        t.ringBusy ring.toNat = false ∧ (t.rd Obj.vit.ops).toNat = min 0xFFFFFFFF ((s.rd Obj.vit.ops).toNat + 1) ∧
        Keeps [Obj.vit.ops] s t ∧ t.net.rings = s.net.rings) ∧
    (s.net.vit.held.find? (fun x => x.ring == ring.toNat) = some o → o.user = .host id → s.net.vit.waiting = [] → s.net.subs = [] →
      s.replicating = false → Completes (.vitrineEntryFree ring) s fun t =>
        t.ringBusy ring.toNat = false ∧ (t.net.reqs.any fun r => r.id == id) = false ∧ KeepsSpaces [0x11] s t) ∧
    (s.net.vit.waiting.find? (fun x => x.cls == c.val && !s.pinnedRing x.ring) = some o →
      s.bits Obj.net.netCfg 31 24 * 1000 < s.up - o.at_ → Completes (.vitrineWait c) s fun t =>
        t.bit Obj.vit.vitFlags c = true ∧ Keeps [Obj.vit.vitFlags] s t ∧ t.net.vit.waiting = s.net.vit.waiting) ∧
    ((s.net.subs.any fun x => x.id == sub.toNat) = true → Completes (.leaseExpiry sub) s fun t =>
      (t.net.subs.any fun x => x.id == sub.toNat) = false ∧ Keeps [] s t)

/-- Deadlines and counters (R494, R531, R549). Requests to a worker and their answers (R532). -/
def Obligations.RequestDeadlinesAndWorkers : Prop :=
  (∀ (s : State) (q : ReqHead) (x : HostReq) (st : Nat) (b : List Byte), Ready s →
     (s.net.reqs.find? (fun r => r.client == q.client.toNat && r.no == q.no.toNat && !r.discarded && r.ready.isNone) = some x →
       Completes (.reqDeadline q) s fun t =>
         (t.net.reqs.any fun r => r.id == x.id && !r.discarded) = false ∧
         (t.sched.hostStaged.any fun h => h.req == some x.id) = false ∧
         (t.rd Obj.net.discards).toNat = min 0xFFFFFFFF ((s.rd Obj.net.discards).toNat + 1) ∧ t.bit Obj.net.netFlags 2 = true ∧
         Keeps [Obj.net.discards, Obj.net.netFlags, Obj.net.cache] s t) ∧
     (s.net.reqs.find? (fun r => r.client == q.client.toNat && r.no == q.no.toNat && r.ready.isSome) = some x → x.ready = some (st, b) →
       Completes (.resultAckTimeout q) s fun t =>
         (t.net.reqs.any fun r => r.id == x.id) = false ∧
         (t.rd Obj.red.unreplicated).toNat = min 0xFFFFFFFF ((s.rd Obj.red.unreplicated).toNat + 1) ∧ t.bit Obj.red.redFlags 6 = true ∧
         t.red.unrepRun = s.red.unrepRun + 1 ∧ Keeps [Obj.red.unreplicated, Obj.red.redFlags] s t) ∧
     Completes .netClearCounters s fun t =>
       t.rd Obj.net.requests = 0 ∧ t.rd Obj.net.duplicates = 0 ∧ t.rd Obj.net.discards = 0 ∧ t.rd Obj.vit.ops = 0 ∧
       t.bits Obj.net.cache 15 0 = 0 ∧ t.bits Obj.net.cache 31 16 = s.bits Obj.net.cache 31 16 ∧
       (∀ p : Fin 11, t.rd (Obj.nport.rxErrors p) = 0) ∧ Accepted Obj.net.cmdStatus 1 0 s t ∧ KeepsSpaces [0x11] s t) ∧
  (∀ (s : State) (i : Fin 68) (q : ReqHead) (k : Fin 64) (inner : InnerReq) (cat : Catalogue) (f : Forwarded) (no : BitVec 32) (st : BitVec 16)
     (payload : List Byte) (x : HostReq), Ready s →
     (OpenSession s i → NewRequest s q → inner.type = 3 → s.hasRight i Rt.r = true → s.manager = true → s.owner = true →
       s.catOf = some cat → 1 ≤ k.val → k.val ≤ cat.redundancy.workers → (s.workerX k).silentAt = none → Completes (.forward i q k inner) s fun t =>
         t.out = Out.worker k 3 s.net.workerNo inner.payload :: s.out ∧ t.net.workerNo = (s.net.workerNo + 1) % 2 ^ 32 ∧
         (t.net.forwards.head?.map fun g => (g.worker, g.no, g.type)) = some (k.val, s.net.workerNo, 3) ∧
         t.net.reqs.length = s.net.reqs.length + 1 ∧ Keeps [Obj.net.requests, Obj.sess.sessRequests i] s t) ∧
     (s.net.forwards.find? (fun f => f.worker == k.val && f.no == no.toNat) = some f →
       s.net.reqs.find? (fun r => r.id == f.req) = some x → x.discarded = false → s.replicating = false →
       Completes (.forwardReply k no st payload) s (fun t =>
         (t.net.forwards.any fun g => g.no == no.toNat) = false ∧ (t.net.reqs.any fun r => r.id == f.req) = false ∧ KeepsSpaces [0x11] s t) ∧
       Completes (.hierTimeout k no) s fun t =>
         (t.net.forwards.any fun g => g.no == no.toNat) = false ∧ (t.net.reqs.any fun r => r.id == f.req) = false ∧ KeepsSpaces [0x11] s t))

/-! ### The network -/

/-- Plant ports (R517, R518, R550): links, PRP frames, supervision and address resolution. -/
def Obligations.PlantPorts : Prop :=
  ∀ (s : State) (p : Fin 8) (source : BitVec 48) (seq : BitVec 16) (lanB : Bool) (target : NetAddr), Ready s →
    (s.bit (Obj.nport.nportStatus p) 3 = true → Completes (.plantPortDown p) s fun t =>
      t.bit (Obj.nport.nportStatus p) 3 = false ∧ t.bit Obj.net.netFlags 1 = true ∧
      (t.rd (Obj.nport.linkDowns p)).toNat = min 0xFFFFFFFF ((s.rd (Obj.nport.linkDowns p)).toNat + 1) ∧
      Keeps [Obj.nport.nportStatus p, Obj.nport.linkDowns p, Obj.net.netFlags] s t) ∧
    (s.plantPort p = true → s.bit (Obj.nport.nportStatus p) 3 = false → Completes (.plantPortUp p) s fun t =>
      t.bit (Obj.nport.nportStatus p) 3 = true ∧ Keeps [Obj.nport.nportStatus p] s t) ∧
    (s.plantPort p = true → lanB = (p.val % 2 == 1) → (s.net.prp.find? fun x => x.mac == source.toNat) = none →
      Completes (.prpFrameReceive p source seq lanB true) s fun t =>
        (t.rd (Obj.nport.rxFrames p)).toNat = min 0xFFFFFFFF ((s.rd (Obj.nport.rxFrames p)).toNat + 1) ∧
        t.net.prp.head? = some ⟨source.toNat, [seq.toNat], p.val / 2, s.up⟩ ∧ Keeps [Obj.nport.rxFrames p] s t) ∧
    (s.plantPort p = true → Completes (.prpFrameReceive p source seq lanB false) s fun t =>
      (t.rd (Obj.nport.rxErrors p)).toNat = min 0xFFFFFFFF ((s.rd (Obj.nport.rxErrors p)).toNat + 1) ∧
      Keeps [Obj.nport.rxFrames p, Obj.nport.rxErrors p] s t) ∧
    Completes (.prpEntryForget source) s (fun t =>
      (t.net.prp.any fun x => x.mac == source.toNat) = false ∧ t = { s with net := { s.net with prp := t.net.prp } }) ∧
    (s.plantPort p = true → s.answersAt .unit = true → Completes .prpSupervisionSend s fun t =>
      Out.supervision p false ∈ t.out ∧ (s.answersAt .identity = true → Out.supervision p true ∈ t.out) ∧
      Keeps ((List.range 8).map Obj.nport.txFrames) s t) ∧
    (s.plantPort p = true → s.answersAt target = true →
      Completes (.arpRequest p target) s (fun t => t.out = Out.netAnswer p 0 (target == .identity) :: s.out ∧ Keeps [Obj.nport.txFrames p] s t) ∧
      Completes (.neighbourSolicitation p target) s (fun t =>
        t.out = Out.netAnswer p 1 (target == .identity) :: s.out ∧ Keeps [Obj.nport.txFrames p] s t) ∧
      Completes (.icmpEchoRequest p target) s fun t =>
        t.out = Out.netAnswer p 2 (target == .identity) :: s.out ∧ Keeps [Obj.nport.txFrames p] s t)

/-- Modbus (R546, R547): connections, reads, writes staged for the commit point, exceptions. -/
def Obligations.Modbus : Prop :=
  ∀ (s : State) (c : Fin 8) (peer : BitVec 128) (cat : Catalogue) (k : Nat) (tid reg value : BitVec 16) (unit fn : Byte) (n a : Nat) (w : Word) (u : State),
    Ready s →
    (s.catOf = some cat → cat.network.modbusPort ≠ 0 → s.answersAt .identity = true →
      (List.range 8).find? (fun j => !s.net.modbus.contains j) = some k → Completes (.modbusConnect peer) s fun t =>
        t.net.modbus = k :: s.net.modbus ∧ t = { s with net := t.net }) ∧
    (c.val ∈ s.net.modbus →
      ((s.count Obj.net.modbusReqs 1).inputItem reg.toNat = some a → State.peekItems 68 [a] (s.count Obj.net.modbusReqs 1) = some ([w], u) →
        Completes (.modbusReadInput c tid unit reg 2) s fun t =>
          t.out = Out.modbus c tid.toNat unit.toNat 4 (4 :: (be16 (w.toNat / 65536) ++ be16 w.toNat)) :: u.out ∧ Keeps [Obj.net.modbusReqs] s t) ∧
      (s.holdingString reg.toNat = some n → Completes (.modbusReadHolding c tid unit reg 1) s fun t =>
        t.out = Out.modbus c tid.toNat unit.toNat 3 (2 :: be16 (s.rd (Obj.pstr.contactReq n)).toNat) :: s.out ∧
        Keeps [Obj.net.modbusReqs] s t) ∧
      (s.bit Obj.net.netCfg 0 = true → s.holdingString reg.toNat = some n → value.toNat ≤ 1 →
        Completes (.modbusWriteSingle c tid unit reg value) s (fun t =>
          t.sched.hostStaged.map HostStaged.write = s.sched.hostStaged.map HostStaged.write ++ [.target (Obj.pstr.contactReq n) [w32 value.toNat]] ∧
          t.net.reqs.length = s.net.reqs.length + 1 ∧ Keeps [Obj.net.modbusReqs] s t) ∧
        Completes (.modbusWriteMultiple c tid unit reg [value]) s fun t =>
          t.sched.hostStaged.map HostStaged.write = s.sched.hostStaged.map HostStaged.write ++ [.target (Obj.pstr.contactReq n) [w32 value.toNat]] ∧
          t.net.reqs.length = s.net.reqs.length + 1 ∧ Keeps [Obj.net.modbusReqs] s t) ∧
      Completes (.modbusOtherFunction c tid unit fn) s fun t =>
        t.out = Out.modbus c tid.toNat unit.toNat (fn.toNat + 128) [1] :: s.out ∧ Keeps [Obj.net.modbusReqs] s t)

/-! ### The safety island: commands and sessions -/

/-- SAFE_CMD (R342, R345 to R347): TRIP declares the lockout at once, NEW_NONCE draws a nonce, OPEN checks MAC and signature, CLOSE and
the idle time end the session, CLEAR_COUNTERS; the block on OPEN ends. What an authorised safety session writes (R347 to R349): each write
is logged before it takes effect; CLEAR_PASSWORD needs SV, LOCKOUT, LOCKOUT_RESET at 1 and a signature over a fresh nonce. -/
def Obligations.SafetyCommands : Prop :=
  (∀ (s : State) (i : Fin 68) (pub b : List Byte) (x : SafetySession), Ready s →
     Completes .safeTrip s (fun t =>
       t.sys.lockoutLatch = true ∧ t.sys.tripPending = true ∧ t.bit Obj.safe.lockoutCause 1 = true ∧ t.bit Obj.safe.safeStatus 0 = true ∧
       (∀ q : Fin 32, t.bit (Obj.sq.sqStatus q) 1 = false) ∧ t.sys.mode = s.sys.mode ∧ Accepted Obj.safe.cmdStatus 1 0 s t ∧
       KeepsSpaces [0x0B] s t) ∧
     Completes (.newNonce i) s (fun t =>
       t.island.nonce = some (Config.randomBytes s.free 48, s.up, i.val) ∧ t.free = s.free + 1 ∧ Accepted Obj.safe.cmdStatus 2 0 s t ∧
       KeepsSpaces [0x0B] s t) ∧
     (s.island.session = none → s.island.blocked = false → s.bits (Obj.key.keyStatus 5) 7 4 ≠ 0 → s.island.safetyKey = some pub →
       s.island.key.isSome = true ∨ s.sessPort i = 8 → s.freshNonce i = some b → Completes (.safeOpen i) s fun t =>
         let pass := (match s.island.key with
           | some k => Config.hmac384 k (s.authMessage i b) == digestAt (s.sessBytes i Obj.safe.authMac 12) 0
           | none => true) && Config.ecdsaVerify pub (s.authMessage i b) (s.sessBytes i Obj.safe.authSig 24)
         t.island.nonce = none ∧
         t.island.session = (if pass then some ⟨i, s.authUser i, s.up, s.island.key.isNone⟩ else none) ∧
         (if pass then Accepted Obj.safe.cmdStatus 3 0 s t else Refused Obj.safe.cmdStatus 3 8 s t ∧ t.bit Obj.safe.safeFlags 4 = true) ∧
         KeepsSpaces [0x0B] s t) ∧
     (s.island.session = none → s.island.blocked = true → Completes (.safeOpen i) s fun t =>
       t.island.session = none ∧ Refused Obj.safe.cmdStatus 3 8 s t ∧ KeepsSpaces [0x0B] s t) ∧
     (s.island.session = some x → x.session = i.val →
       Completes (.safeClose i) s (fun t => t.island.session = none ∧ Accepted Obj.safe.cmdStatus 4 0 s t ∧ KeepsSpaces [0x0B] s t) ∧
       Completes .sessionIdle s fun t => t.island.session = none ∧ t.bit Obj.safe.safeStatus 5 = false ∧ KeepsSpaces [0x0B] s t) ∧
     (s.island.session = none → Completes (.safeClose i) s fun t => Refused Obj.safe.cmdStatus 4 8 s t ∧ Keeps [Obj.safe.cmdStatus] s t) ∧
     Completes .safeClearCounters s (fun t =>
       t.rd Obj.safe.lockouts = 0 ∧ t.rd Obj.safe.xchecks = 0 ∧ (∀ c : Fin 32, t.rd (Obj.si.siPulses c) = 0 ∧ t.rd (Obj.sq.sqLatches c) = 0) ∧
       (∀ n : Fin 256, t.rd (Obj.func.locks n) = 0) ∧ Accepted Obj.safe.cmdStatus 7 0 s t ∧ KeepsSpaces [0x0B] s t) ∧
     Completes .authBlockExpiry s fun t =>
       t.island = { s.island with blocked := false, fails := [] } ∧ t.bits Obj.safe.session 15 8 = 0 ∧ Keeps [Obj.safe.session] s t) ∧
  (∀ (s : State) (i : Fin 68) (x : SafetySession) (w : Word) (pub b : List Byte) (g : SafetyGlobal), Ready s →
     (s.island.session = some x → x.session = i.val →
       Completes (.setPassword i) s (fun t =>
         t.island.key = some (s.sessBytes i Obj.safe.newKey 12) ∧ (t.island.session.isSome = true ↔ x.passwordOnly = false) ∧
         (t.island.log.head?.map fun e => (e.seq, e.kind)) = some ((s.rd Obj.safe.logNewest).toNat + 1, 2) ∧
         Accepted Obj.safe.cmdStatus 5 0 s t ∧ KeepsSpaces [0x0B] s t) ∧
       (x.passwordOnly = false → 1 ≤ bitsOf 7 0 w → bitsOf 7 0 w ≤ 60 → Completes (.safeCfgWrite i w) s fun t =>
         t.rd Obj.safe.safeCfg = w32 (bitsOf 7 0 w) ∧
         (t.island.log.head?.map fun e => (e.seq, e.kind, e.old, e.new)) =
           some ((s.rd Obj.safe.logNewest).toNat + 1, 4, (s.rd Obj.safe.safeCfg).toNat, bitsOf 7 0 w) ∧ KeepsSpaces [0x0B] s t) ∧
       (x.passwordOnly = false → (s.rd Obj.safe.logAck).toNat ≤ w.toNat → w.toNat ≤ (s.rd Obj.safe.logNewest).toNat →
         Completes (.logAckWrite i w) s fun t =>
           t.rd Obj.safe.logAck = w ∧
           (t.island.log.head?.map fun e => (e.seq, e.kind, e.old, e.new)) =
             some ((s.rd Obj.safe.logNewest).toNat + 1, 5, (s.rd Obj.safe.logAck).toNat, w.toNat) ∧ KeepsSpaces [0x0B] s t)) ∧
     (s.island.session = none →
       Completes (.setPassword i) s (fun t => t.island = s.island ∧ Refused Obj.safe.cmdStatus 5 8 s t ∧ Keeps [Obj.safe.cmdStatus] s t) ∧
       Completes (.safeCfgWrite i w) s (fun t => t = s) ∧ Completes (.logAckWrite i w) s fun t => t = s) ∧
     (s.freshNonce i = some b → s.island.safetyKey = some pub → s.sessPort i = 8 → s.sys.mode = .lockout → s.safetyGlobal = some g →
       s.bit Obj.safe.siValue g.lockoutReset = true → Completes (.clearPassword i) s fun t =>
         let pass := Config.ecdsaVerify pub (s.authMessage i b) (s.sessBytes i Obj.safe.authSig 24)
         t.island.nonce = none ∧ t.island.key = (if pass then none else s.island.key) ∧
         (if pass then Accepted Obj.safe.cmdStatus 6 0 s t else Refused Obj.safe.cmdStatus 6 8 s t) ∧ KeepsSpaces [0x0B] s t) ∧
     (s.sys.mode ≠ .lockout → Completes (.clearPassword i) s fun t =>
       t.island.key = s.island.key ∧ Refused Obj.safe.cmdStatus 6 8 s t ∧ Keeps [Obj.safe.cmdStatus] s t))

/-! ### The safety island: inputs, outputs, samples -/

/-- Safety inputs (R333, R334, R335, R337): the value of a channel, its faults and their end, reset pulses and what they reset. -/
def Obligations.SafetyInputs : Prop :=
  ∀ (s : State) (c : Fin 32) (second level : Bool) (low high : Nat) (cat : Catalogue) (r : SafetyString), Ready s →
    s.catOf = some cat →
    Completes (.siInputChange c second level) s (fun t =>
      t.bit (Obj.si.siStatus c) second.toNat = level ∧
      t.bit Obj.safe.siValue c = (t.bit (Obj.si.siStatus c) 0 && t.bit (Obj.si.siStatus c) 1 && s.bits (Obj.si.siStatus c) 7 4 == 0) ∧
      (s.island.running = true → s.island.causes.contains 0 = false → cat.safetyGlobal.tripInputs / 2 ^ c.val % 2 = 1 → level = false →
        t.sys.lockoutLatch = true) ∧ KeepsSpaces [0x0B] s t) ∧
    (s.bits (Obj.si.siStatus c) 7 4 = 0 → s.bit (Obj.si.siStatus c) 0 ≠ s.bit (Obj.si.siStatus c) 1 → Completes (.siDiscrepancy c) s fun t =>
      t.bits (Obj.si.siStatus c) 7 4 = 1 ∧ t.bit Obj.safe.siValue c = false ∧ t.bit (Obj.si.siFlags c) 0 = true ∧ KeepsSpaces [0x0B] s t) ∧
    (s.siTested c = true → s.bits (Obj.si.siStatus c) 7 4 = 0 →
      Completes (.siTestPulse c second true) s (fun t => t = s) ∧
      Completes (.siTestPulse c second false) s fun t =>
        t.bits (Obj.si.siStatus c) 7 4 = 2 + second.toNat ∧ t.bit Obj.safe.siValue c = false ∧ KeepsSpaces [0x0B] s t) ∧
    (s.bits (Obj.si.siStatus c) 7 4 ≠ 0 → Completes (.siFaultClear c) s fun t =>
      t.bits (Obj.si.siStatus c) 7 4 = 0 ∧ KeepsSpaces [0x0B] s t) ∧
    (pulseValid low high = false → Completes (.resetPulse c low high) s fun t =>
      t.rd (Obj.si.siLastPulse c) = w32 (min 65535 low * 65536 + min 65535 high) ∧
      t.bits (Obj.si.siPulses c) 31 16 = min 65535 (s.bits (Obj.si.siPulses c) 31 16 + 1) ∧
      Keeps [Obj.si.siLastPulse c, Obj.si.siPulses c, Obj.si.siFlags c] s t) ∧
    (pulseValid low high = true → s.island.running = true →
      (cat.safetyStrings = [r] → r.string < 256 → r.reset = c.val → cat.safetyGlobal.lockoutReset ≠ c.val → s.funcState r.string = 3 →
        (s.funcCauses r.string true = [] → Completes (.resetPulse c low high) s fun t =>
          t.funcState r.string = 2 ∧ t.bits (Obj.si.siPulses c) 15 0 = min 65535 (s.bits (Obj.si.siPulses c) 15 0 + 1) ∧
          KeepsSpaces [0x0B] s t) ∧
        (s.funcCauses r.string true ≠ [] → Completes (.resetPulse c low high) s fun t =>
          t.funcState r.string = 3 ∧ t.bit (Obj.func.funcFlags r.string) 1 = true ∧ KeepsSpaces [0x0B] s t)) ∧
      (cat.safetyStrings = [] → cat.safetyGlobal.lockoutReset = c.val → s.sys.mode = .lockout → s.sys.trans = .none → s.island.causes = [] →
        Completes (.resetPulse c low high) s fun t =>
          t.sys = { s.sys with lockoutLatch := false, resetDue := true } ∧ t.bit Obj.safe.safeStatus 0 = false ∧ KeepsSpaces [0x0B] s t))

/-- Safety outputs (R331, R336, R451): a stage fault latches its channel off, REARM tests it with the output off and releases the latch if
it passes, off-pulses alternate between the two switches. -/
def Obligations.SafetyOutputs : Prop :=
  ∀ (s : State) (q : Fin 32) (code : Fin 6) (passed : Bool), Ready s →
    (code.val ≠ 0 → Completes (.sqStageFault q code) s fun t =>
      t.bit (Obj.sq.sqStatus q) 2 = true ∧ t.bits (Obj.sq.sqStatus q) 11 8 = code.val ∧ t.bit (Obj.sq.sqStatus q) 1 = false ∧
      t.bit Obj.safe.sqOn q = false ∧ t.bit Obj.safe.sqLatched q = true ∧
      (t.rd (Obj.sq.sqLatches q)).toNat = min 0xFFFFFFFF ((s.rd (Obj.sq.sqLatches q)).toNat + 1) ∧ KeepsSpaces [0x0B] s t) ∧
    (s.sqTested q = true → s.bit (Obj.sq.sqStatus q) 1 = true → Completes (.sqTestPulse q) s fun t =>
      t.out = Out.sqPulse q (s.sqX q).second :: s.out ∧ (t.sqX q).second = !(s.sqX q).second ∧ Keeps [] s t) ∧
    ((s.sqX q).rearming = false → Completes (.sqRearm q) s fun t =>
      (t.sqX q).rearming = true ∧ t.bit (Obj.sq.sqStatus q) 1 = false ∧ Accepted (Obj.sq.cmdStatus q) 1 1 s t ∧ KeepsSpaces [0x0B] s t) ∧
    ((s.sqX q).rearming = true →
      Completes (.sqRearm q) s (fun t => Refused (Obj.sq.cmdStatus q) 1 3 s t ∧ Keeps [Obj.sq.cmdStatus q] s t) ∧
      Completes (.sqRearmDone q passed) s fun t =>
        (t.sqX q).rearming = false ∧ t.bit (Obj.sq.sqStatus q) 2 = (!passed && s.bit (Obj.sq.sqStatus q) 2) ∧
        t.bits (Obj.sq.cmdStatus q) 15 8 = (if passed then 0 else 9) ∧ t.bit (Obj.sq.sqStatus q) 3 = t.sqDemand q ∧
        t.bit (Obj.sq.sqStatus q) 1 = (t.sqDemand q && !t.bit (Obj.sq.sqStatus q) 2) ∧ KeepsSpaces [0x0B] s t)

/-- Samples of the island (R327, R329, R338), the age of data (R329) and the tightened bounds (R302, R330). Events and commands of
protection (R318, R321 to R323, R351). -/
def Obligations.ProtectionSamplesAndEvents : Prop :=
  (∀ (s : State) (m : IslandSample) (r : SafetyString) (nr : NodeRec) (node : NodeId) (th : SafetyString), Ready s →
     s.island.running = true →
     (s.safetyOf m.string = some r → m.crcOk = true → s.nodeRec m.string m.p.toNat = some nr →
       ((s.funcX m.string).nodes.find? fun e => e.p == m.p.toNat) = none →
       (m.coresAgree = true → Completes (.islandSample m) s fun t =>
         (((t.funcX m.string).nodes.find? fun e => e.p == nr.p).map fun e => (e.no, e.aged)) = some (m.no.toNat, false) ∧
         ((parseMeas m.payload).flags % 16 ≠ 0 → t.funcState m.string = 3) ∧ KeepsSpaces [0x0B] s t) ∧
       (m.coresAgree = false → Completes (.islandSample m) s fun t =>
         t.sys.lockoutLatch = (s.sys.lockoutLatch || !s.island.causes.contains 4) ∧ t.bit Obj.safe.safeStatus 3 = false ∧
         t.bit Obj.safe.safeFlags 7 = true ∧ KeepsSpaces [0x0B] s t)) ∧
     (s.safetyOf m.string = some r → m.crcOk = false → Completes (.islandSample m) s fun t =>
       (t.funcX m.string).rejected = (s.funcX m.string).rejected + 1 ∧ (t.funcX m.string).nodes = (s.funcX m.string).nodes ∧ Keeps [] s t) ∧
     ((s.nodeRec node.string node.p).isSome = true → s.safetyOf node.string = some r → Completes (.dataAgeExpiry node) s fun t =>
       t.funcState node.string = 3 ∧ (s.funcState node.string ≠ 3 → t.bits (Obj.func.funcStatus node.string) 23 16 = 9) ∧
       KeepsSpaces [0x0B] s t) ∧
     ((s.strTherm m.string).grace.isSome = true → s.safetyOf m.string = some th → Completes (.derateEnforced m.string) s fun t =>
       (t.strTherm m.string).grace = none ∧ (t.strTherm m.string).enforcedAt = some s.up ∧ t.bit (Obj.thm.thermStatus m.string) 13 = true ∧
       t.rd (Obj.func.iChgEff m.string) = w32 (t.effBounds th).1 ∧ t.rd (Obj.func.iDisEff m.string) = w32 (t.effBounds th).2 ∧
       KeepsSpaces [0x09, 0x0B] s t)) ∧
  (∀ (s : State) (n : Fin 256) (node : NodeId) (value : Word), Ready s →
     (s.protRuns = true → s.contactorDiffers n = true → Completes (.contactorResend n) s fun t =>
       (t.strProt n).resend = true ∧ t = { s with prot := t.prot }) ∧
     ((s.strProt n).openAt.isSome = true → Completes (.openFailed n) s fun t =>
       t.bit (Obj.pstr.pstrStatus n) 11 = true ∧ t.bit (Obj.pstr.pstrFlags n) 2 = true ∧ t.bit Obj.prot.protFlags 1 = true ∧
       (t.rd (Obj.pstr.openFails n)).toNat = min 0xFFFFFFFF ((s.rd (Obj.pstr.openFails n)).toNat + 1) ∧
       Keeps [Obj.pstr.pstrStatus n, Obj.pstr.pstrFlags n, Obj.prot.protFlags, Obj.pstr.openFails n] s t) ∧
     (s.protRuns = true → (s.nodeRec node.string node.p).isSome = true → (s.strProt node.string).standing.contains (7, node.p.toNat) = false →
       Completes (.dataLoss node) s fun t =>
         (t.strProt node.string).standing.contains (7, node.p.toNat) = true ∧
         (t.strProt node.string).due.any (fun d => d.cause == 7 && d.place == node.p.toNat) = true ∧ t = { s with prot := t.prot }) ∧
     (s.hasString n = true →
       Completes (.contactReqWrite n value) s (fun t =>
         t.rd (Obj.pstr.contactReq n) = w32 (value.toNat % 2) ∧ Keeps [Obj.pstr.contactReq n] s t ∧ t = { s with regs := t.regs }) ∧
       (s.tripped n = true → s.tripStill n = 0 → Completes (.resetTrip n) s fun t =>
         t.tripped n = false ∧ t.bits (Obj.pstr.pstrStatus n) 23 16 = 0 ∧ t.rd (Obj.pstr.contactReq n) = 0 ∧
         t.rd Obj.prot.trippedNow = w32 ((s.rd Obj.prot.trippedNow).toNat - 1) ∧ t.bit (Obj.pstr.pstrStatus n) 3 = s.bit (Obj.pstr.pstrStatus n) 3 ∧
         Accepted (Obj.pstr.cmdStatus n) 1 0 s t ∧
         Keeps [Obj.pstr.pstrStatus n, Obj.pstr.contactReq n, Obj.prot.trippedNow, Obj.pstr.cmdStatus n] s t) ∧
       (s.tripped n = true → s.tripStill n ≠ 0 → Completes (.resetTrip n) s fun t =>
         t.tripped n = true ∧ Refused (Obj.pstr.cmdStatus n) 1 4 s t ∧ Keeps [Obj.pstr.cmdStatus n] s t) ∧
       (s.tripped n = false → Completes (.resetTrip n) s fun t =>
         Accepted (Obj.pstr.cmdStatus n) 1 0 s t ∧ Keeps [Obj.pstr.cmdStatus n] s t) ∧
       Completes (.pstrClearCounters n) s fun t =>
         t.rd (Obj.pstr.strTrips n) = 0 ∧ t.rd (Obj.pstr.openFails n) = 0 ∧ t.rd (Obj.pstr.contactorCmds n) = 0 ∧
         Accepted (Obj.pstr.cmdStatus n) 2 0 s t ∧
         Keeps [Obj.pstr.strTrips n, Obj.pstr.openFails n, Obj.pstr.contactorCmds n, Obj.pstr.cmdStatus n] s t) ∧
     Completes .protClearCounters s fun t =>
       t.rd Obj.prot.trips = 0 ∧ Accepted Obj.prot.cmdStatus 1 0 s t ∧ Keeps [Obj.prot.trips, Obj.prot.cmdStatus] s t)

/-! ### The Catalogue -/

/-- Upload, erase and validation of the pending Catalogue slot (R63 to R66, R72). The activation of a Catalogue (R67): accepted in STOP on
a VALID slot, checked again on the copy, and taken up with the warm restart that ends in STOP. -/
def Obligations.CatalogueImages : Prop :=
  (∀ (s : State) (i : Fin 68) (q : ReqHead) (page : Fin 65536) (b : List Byte), Ready s →
     (OpenSession s i → NewRequest s q → s.hasRight i Rt.c = true → b.length = 4096 → s.slotBusy = false → s.replicating = false →
       s.reqIdsOk = true →
       (hasKey page.val (s.slotImage s.pendingPhys).pages = false → Completes (.catPageWrite i q page b) s fun t =>
         (t.slotImage s.pendingPhys).pages = upsert page.val b (s.slotImage s.pendingPhys).pages ∧ t.catState 1 = Cs.written ∧
         t.rd (Obj.slot.pages 1) = w32 ((s.slotImage s.pendingPhys).pages.length + 1) ∧
         Out.reply i q.client.toNat q.no.toNat Mt.imageWrite 0 1 [] ∈ t.out ∧ KeepsSpaces [0x01, 0x0B, 0x11] s t) ∧
       (hasKey page.val (s.slotImage s.pendingPhys).pages = true → Completes (.catPageWrite i q page b) s fun t =>
         t.cat = s.cat ∧ t.catState 1 = s.catState 1 ∧
         Out.reply i q.client.toNat q.no.toNat Mt.imageWrite Rs.notBlank 1 [] ∈ t.out ∧ KeepsSpaces [0x0B, 0x11] s t)) ∧
     (s.slotBusy = false → Completes .catErase s fun t =>
       t.catState 1 = Cs.erasing ∧ t.rd Obj.cat.eraseProgress = 0 ∧ Accepted Obj.cat.catCmdStatus 3 1 s t ∧ t.cat = s.cat ∧
       KeepsSpaces [0x01] s t) ∧
     (s.slotBusy = true →
       Completes .catErase s (fun t => Refused Obj.cat.catCmdStatus 3 3 s t ∧ Keeps [Obj.cat.catCmdStatus] s t) ∧
       Completes .catValidate s fun t => Refused Obj.cat.catCmdStatus 1 3 s t ∧ Keeps [Obj.cat.catCmdStatus] s t) ∧
     (s.catState 1 = Cs.erasing → Completes .catEraseDone s fun t =>
       t.catState 1 = Cs.empty ∧ (t.slotImage s.pendingPhys).pages = [] ∧ t.rd (Obj.slot.pages 1) = 0 ∧
       t.bits Obj.cat.catCmdStatus 15 8 = 0 ∧ t.slotImage s.currentPhys = s.slotImage s.currentPhys ∧ KeepsSpaces [0x01] s t) ∧
     (s.slotBusy = false → s.catState 1 = Cs.empty → Completes .catValidate s fun t =>
       Refused Obj.cat.catCmdStatus 1 4 s t ∧ Keeps [Obj.cat.catCmdStatus] s t) ∧
     (s.slotBusy = false → s.catState 1 ≠ Cs.empty → Completes .catValidate s fun t =>
       t.catState 1 = Cs.checking ∧ Accepted Obj.cat.catCmdStatus 1 1 s t ∧ t.cat = s.cat ∧ KeepsSpaces [0x01] s t) ∧
     (s.catState 1 = Cs.checking → Completes .catValidateDone s fun t =>
       t.catState 1 = (if (validateImage (s.checkEnv true) (s.catBytes 1)).isNone then Cs.valid else Cs.invalid) ∧
       t.bits (Obj.slot.slotStatus 1) 23 16 = ((validateImage (s.checkEnv true) (s.catBytes 1)).map Reject.code).getD 0 % 256 ∧
       t.bits Obj.cat.catCmdStatus 15 8 = (if (validateImage (s.checkEnv true) (s.catBytes 1)).isNone then 0 else 7) ∧ t.cat = s.cat ∧
       KeepsSpaces [0x01] s t)) ∧
  (∀ (s : State) (i : Fin 68) (cold endRun : Bool) (a : CatActivation), Ready s →
     (s.sys.trans = .none → s.sys.mode = .stop → s.slotBusy = false → s.catState 1 = Cs.valid →
       (s.bit (Obj.slot.slotStatus 1) 9 = true → s.authorised i = true) → Completes (.catActivate i cold endRun) s fun t =>
         t.sys.mode = .service ∧ t.sys.trans = .catActivation ∧ t.sys.serviceFrom = .stop ∧
         t.cat.activation = some ⟨2, cold, endRun, s.authUser i⟩ ∧ Accepted Obj.cat.catCmdStatus 2 1 s t) ∧
     (s.sys.trans = .none → s.sys.mode ≠ .stop → Completes (.catActivate i cold endRun) s fun t =>
       Refused Obj.cat.catCmdStatus 2 2 s t ∧ t.cat = s.cat ∧ t.sys = s.sys ∧ Keeps [Obj.cat.catCmdStatus] s t) ∧
     (s.sys.trans = .none → s.sys.mode = .stop → s.slotBusy = false → s.catState 1 = Cs.valid → s.bit (Obj.slot.slotStatus 1) 9 = true →
       s.authorised i = false → Completes (.catActivate i cold endRun) s fun t =>
         Refused Obj.cat.catCmdStatus 2 8 s t ∧ t.cat = s.cat ∧ t.sys = s.sys ∧ Keeps [Obj.cat.catCmdStatus] s t) ∧
     (s.cat.activation = some a → a.step = 2 → Completes .catCopyChecked s fun t =>
       let r := match validateImage (s.checkEnv true) (s.catBytes 1) with
         | some r => some r
         | none => s.windowReject (decodeCatalogue (s.catBytes 1))
       if r.isSome then
         t.sys.mode = .stop ∧ t.sys.trans = .none ∧ t.cat.activation = none ∧ t.catState 1 = Cs.invalid ∧ t.cat.selA = s.cat.selA ∧
         t.cat.selB = s.cat.selB ∧ t.bits Obj.cat.catCmdStatus 15 8 = 7
       else t.currentPhys = s.pendingPhys ∧ t.sys.restart.cause = 7 ∧ t.sys.restart.cold = a.cold ∧
         (if a.cold then t.sys.mode = .boot else t.sys.trans = .catActivation)) ∧
     (s.cat.activation = some a → a.step = 5 → Completes .catalogueActivated s fun t =>
       t.sys.mode = .stop ∧ t.sys.trans = .none ∧ t.cat.activation = none ∧ t.sys.autoRun = a.endRun ∧
       t.bits Obj.cat.catCmdStatus 15 8 = 0 ∧ t.cat.slot0 = s.cat.slot0 ∧ t.cat.slot1 = s.cat.slot1))

/-! ### Firmware -/

/-- Upload, erase and validation of the inactive firmware slot, trial and SVN floor (R599 to R601, R605, R607, R615). The activation of a
firmware image (R602, R603, R605): the command, the check of the copy, and the end of the pause under the new image or by fallback. -/
def Obligations.FirmwareImages : Prop :=
  (∀ (s : State) (i : Fin 68) (q : ReqHead) (page : Fin 131072) (b : List Byte), Ready s →
     (OpenSession s i → NewRequest s q → s.sessPort i = 8 → s.hasRight i Rt.f = true → b.length = 4096 → s.updBusy = false →
       s.replicating = false → s.reqIdsOk = true → (s.upd.slot s.updSlot).factory = false →
       (hasKey page.val (s.upd.slot s.updSlot).pages = false → Completes (.fwPageWrite i q page b) s fun t =>
         (t.upd.slot s.updSlot).pages = upsert page.val b (s.upd.slot s.updSlot).pages ∧ (t.upd.slot s.updSlot).state = 1 ∧
         Out.reply i q.client.toNat q.no.toNat Mt.imageWrite 0 1 [] ∈ t.out ∧ KeepsSpaces [0x0B, 0x11] s t) ∧
       (hasKey page.val (s.upd.slot s.updSlot).pages = true → Completes (.fwPageWrite i q page b) s fun t =>
         t.upd = s.upd ∧ Out.reply i q.client.toNat q.no.toNat Mt.imageWrite Rs.notBlank 1 [] ∈ t.out ∧ KeepsSpaces [0x0B, 0x11] s t)) ∧
     (s.updBusy = false → Completes .updErase s fun t =>
       (t.upd.slot s.updSlot).state = 5 ∧ Accepted Obj.upd.cmdStatus 3 1 s t ∧ Keeps [Obj.upd.cmdStatus] s t) ∧
     ((s.upd.slot s.updSlot).state = 5 → Completes .updEraseDone s fun t =>
       (t.upd.slot s.updSlot).state = 0 ∧ (t.upd.slot s.updSlot).pages = [] ∧ t.bits Obj.upd.cmdStatus 15 8 = 0 ∧
       Keeps [Obj.upd.cmdStatus] s t) ∧
     (s.updBusy = false → (s.upd.slot s.updSlot).state ≠ 0 → Completes .updValidate s fun t =>
       (t.upd.slot s.updSlot).state = 2 ∧ Accepted Obj.upd.cmdStatus 1 1 s t ∧ Keeps [Obj.upd.cmdStatus] s t) ∧
     (s.updBusy = true → Completes .updValidate s fun t =>
       t.upd = s.upd ∧ Refused Obj.upd.cmdStatus 1 3 s t ∧ Keeps [Obj.upd.cmdStatus] s t) ∧
     ((s.upd.slot s.updSlot).state = 2 → Completes .updValidateDone s fun t =>
       (t.upd.slot s.updSlot).state = (if s.fwVerdict s.updSlot = 0 then 3 else 4) ∧
       (t.upd.slot s.updSlot).reject = s.fwVerdict s.updSlot ∧ t.bits Obj.upd.cmdStatus 15 8 = (if s.fwVerdict s.updSlot = 0 then 0 else 7) ∧
       Keeps [Obj.upd.cmdStatus, Obj.upd.updFlags] s t) ∧
     (s.upd.activation = none → s.upd.trial = false → Completes .commitSvn s fun t =>
       t.upd = { s.upd with floor := max s.upd.floor s.upd.runningFw.svn } ∧ Accepted Obj.upd.cmdStatus 4 0 s t ∧
       Keeps [Obj.upd.cmdStatus] s t) ∧
     (s.upd.activation = none → s.upd.trial = true → Completes .commitSvn s fun t =>
       t.upd = s.upd ∧ Refused Obj.upd.cmdStatus 4 4 s t ∧ Keeps [Obj.upd.cmdStatus] s t) ∧
     (s.upd.activation = none → Completes .updClearCounters s fun t =>
       t.rd Obj.upd.activations = 0 ∧ t.rd Obj.upd.fallbacks = 0 ∧ Accepted Obj.upd.cmdStatus 5 0 s t ∧
       Keeps [Obj.upd.activations, Obj.upd.fallbacks, Obj.upd.cmdStatus] s t) ∧
     (s.upd.trial = true → Completes .trialPassed s fun t =>
       t.upd = { s.upd with trial := false } ∧ t.bit Obj.upd.updFlags 2 = true ∧ Keeps [Obj.upd.updFlags] s t)) ∧
  (∀ (s : State) (i : Fin 68) (force locked dramOk : Bool) (a : FwActivation), Ready s →
     (s.sys.trans = .none → s.sys.mode = .stop → s.updBusy = false → (s.upd.slot s.updSlot).state = 3 → s.pairRole = false →
       Completes (.updActivate i force) s fun t =>
         t.sys.mode = .service ∧ t.sys.trans = .serviceOp ∧ t.upd.activation = some ⟨2, s.upd.runningFw.version, false, 0, 0⟩ ∧
         Accepted Obj.upd.cmdStatus 2 1 s t) ∧
     (s.sys.trans = .none → s.sys.mode = .solo ∨ s.sys.mode = .active → Completes (.updActivate i force) s fun t =>
       t.upd = s.upd ∧ t.sys = s.sys ∧ Refused Obj.upd.cmdStatus 2 2 s t ∧ Keeps [Obj.upd.cmdStatus] s t) ∧
     (s.upd.activation = some a → a.step = 2 → s.fwVerdict s.updSlot = 0 → Completes .fwCopyChecked s fun t =>
       t = { s with upd := { s.upd with activation := some { a with step := 3, quiet := if s.commander then 5 else 0 } } }) ∧
     (s.upd.activation = some a → a.step = 2 → a.inService = true → s.fwVerdict s.updSlot ≠ 0 → Completes .fwCopyChecked s fun t =>
       t.upd.activation = none ∧ (t.upd.slot s.updSlot).state = 4 ∧ (t.upd.slot s.updSlot).reject = s.fwVerdict s.updSlot ∧
       t.sys.trans = .none ∧ t.sys.mode = s.sys.mode ∧ t.bits Obj.upd.cmdStatus 15 8 = 7 ∧ KeepsSpaces [0x00, 0x15] s t) ∧
     (s.upd.activation = some a → s.sys.trans = .fwPause → s.sys.lossPending = false → s.sys.mode = .service → a.inService = true →
       Completes (.fwActivated locked dramOk) s fun t =>
         t.upd.activation = none ∧ t.sys.trans = .none ∧ t.sys.mode = .service ∧
         t.upd.running = (if locked then s.upd.running else 1 - s.upd.running) ∧
         t.bits Obj.upd.cmdStatus 15 8 = (if locked then 0 else 7) ∧
         (locked = true → (t.rd Obj.upd.activations).toNat = min 0xFFFFFFFF ((s.rd Obj.upd.activations).toNat + 1))))

/-! ### Security -/

/-- Quotes (R586, R587), the key slots (R588, R589, R592, R612, R613) and their counters. -/
def Obligations.QuotesAndKeys : Prop :=
  ∀ (s : State) (i : Fin 68) (mask rights : Byte) (slot : Fin 32) (kind : Fin 16) (m : Nat), Ready s →
    ((s.sec.quotes.any fun q => q.1 == i.val) = false → Completes (.quote i mask) s fun t =>
      t.sec = { s.sec with quotes := s.sec.quotes ++ [(i.val, mask.toNat)] } ∧ Accepted Obj.sec.cmdStatus 1 1 s t ∧
      (t.rd (Obj.key.keyUses 0)).toNat = min 0xFFFFFFFF ((s.rd (Obj.key.keyUses 0)).toNat + 1) ∧
      Keeps [Obj.sec.cmdStatus, Obj.key.keyUses 0] s t) ∧
    ((s.sec.quotes.any fun q => q.1 == i.val) = true → Completes (.quote i mask) s fun t =>
      t.sec = s.sec ∧ Refused Obj.sec.cmdStatus 1 3 s t ∧ Keeps [Obj.sec.cmdStatus] s t) ∧
    (s.sec.quotes.find? (fun q => q.1 == i.val) = some (i.val, m) → Completes (.quoteDone i) s fun t =>
      (∀ j : Fin 63, t.rd (sessKey i Obj.sec.quote + j) =
        (wordsOfBytes (s.quoteBody i m ++ Config.ecdsaSign Config.deviceScalar (s.quoteBody i m)) 63).getD j 0) ∧
      t.sec.quoteSeq = s.sec.quoteSeq + 1 ∧ (t.sec.quotes.any fun q => q.1 == i.val) = false ∧ t.bits Obj.sec.cmdStatus 15 8 = 0 ∧
      (t.rd Obj.sec.quotes).toNat = min 0xFFFFFFFF ((s.rd Obj.sec.quotes).toNat + 1) ∧ KeepsSpaces [0x14] s t) ∧
    Completes .secClearCounters s (fun t =>
      t.rd Obj.sec.quotes = 0 ∧ t.rd Obj.sec.cryptoRejects = 0 ∧ t.rd Obj.sec.certRejects = 0 ∧ Accepted Obj.sec.cmdStatus 2 0 s t ∧
      Keeps [Obj.sec.quotes, Obj.sec.cryptoRejects, Obj.sec.certRejects, Obj.sec.cmdStatus] s t) ∧
    (s.keyRefusal i slot = none →
      (s.keyOutcome i slot 1 kind = none → Completes (.keyLoad i slot kind rights) s fun t =>
        let b := s.sessBytes i (Obj.key.keyData slot) 24
        (if (materialBad kind b).isNone then t.keyKind slot = kind.val ∧ t.rd64 (Obj.key.gcmCount slot) = 0 ∧
            Accepted (Obj.key.cmdStatus slot) 1 0 s t ∧ (kind.val = 3 → t.secretOf slot = b.take 32) ∧
            (kind.val = 2 → t.keyPublic slot = b)
          else t.keyKind slot = s.keyKind slot ∧ Refused (Obj.key.cmdStatus slot) 1 5 s t ∧
            (t.rd Obj.sec.cryptoRejects).toNat = min 0xFFFFFFFF ((s.rd Obj.sec.cryptoRejects).toNat + 1)) ∧
        KeepsSpaces [0x0B, 0x14] s t) ∧
      (s.keyOutcome i slot 2 kind = none → Completes (.keyGenerate i slot kind) s fun t =>
        t.keyKind slot = kind.val ∧ t.free = s.free + 1 ∧ t.secretOf slot = (Config.randomBytes s.free 48).take (if kind.val = 1 then 48 else 32) ∧
        t.rd64 (Obj.key.gcmCount slot) = 0 ∧ Accepted (Obj.key.cmdStatus slot) 2 0 s t ∧ KeepsSpaces [0x0B, 0x14] s t) ∧
      (s.keyOutcome i slot 3 0 = none → Completes (.keyErase i slot) s fun t =>
        t.keyKind slot = 0 ∧ t.secretOf slot = [] ∧ t.rd64 (Obj.key.keyId slot) = 0 ∧ Accepted (Obj.key.cmdStatus slot) 3 0 s t ∧
        KeepsSpaces [0x0B, 0x14] s t) ∧
      (s.keyOutcome i slot 4 0 = none → Completes (.loadCert i slot) s fun t =>
        let der := lookupD [] s.sec.staged i.val
        let ok := (Config.certInfo der).any fun c => s.keyKind 1 != 0 && c.1 == s.keyPublic 1 && c.2
        t.sec.cert = (if ok then some der else s.sec.cert) ∧
        (if ok then Accepted (Obj.key.cmdStatus slot) 4 0 s t else Refused (Obj.key.cmdStatus slot) 4 5 s t) ∧
        Keeps [Obj.key.cmdStatus slot, Obj.key.keyStatus 1, Obj.sec.secFlags] s t) ∧
      Completes (.keyClearCounters i slot) s fun t =>
        t.rd (Obj.key.keyUses slot) = 0 ∧ Accepted (Obj.key.cmdStatus slot) 5 0 s t ∧
        Keeps [Obj.key.keyUses slot, Obj.key.cmdStatus slot] s t) ∧
    ((s.keyRefusal i slot).isSome = true → Completes (.keyErase i slot) s fun t => t = s)

/-- The task library (R594 to R596): what each operation answers a running job, and a slot that is empty. -/
def Obligations.TaskLibrary : Prop :=
  ∀ (s : State) (task : Fin 64) (slot : Fin 16) (data sig point aad cipher tag : List Byte) (nonce : BitVec 96) (count : Fin 16385) (j : Job)
    (x : Nat × List Byte), Ready s → s.callingJob task = some j →
    (s.keyKind (slot + 16) = 0 → Completes (.cryptoSign task slot data) s fun t =>
      t.out = Out.library task 1 1 (List.replicate 96 0) :: s.out ∧
      (t.rd Obj.sec.cryptoRejects).toNat = min 0xFFFFFFFF ((s.rd Obj.sec.cryptoRejects).toNat + 1) ∧
      Keeps [Obj.key.keyUses (slot + 16), Obj.sec.cryptoRejects, Obj.sec.secFlags] s t) ∧
    (s.keyKind (slot + 16) = 1 → data.length ≤ 16384 →
      Completes (.cryptoSign task slot data) s (fun t =>
        t.out = Out.library task 1 0 (Config.ecdsaSign (s.secretOf (slot + 16)) data) :: s.out ∧
        (t.rd (Obj.key.keyUses (slot + 16))).toNat = min 0xFFFFFFFF ((s.rd (Obj.key.keyUses (slot + 16))).toNat + 1) ∧
        Keeps [Obj.key.keyUses (slot + 16)] s t) ∧
      Completes (.cryptoVerify task slot data sig) s (fun t =>
        let ok := scalarOk (sig.take 48) && scalarOk (sig.drop 48) && Config.ecdsaVerify (s.keyPublic (slot + 16)) data sig
        t.out = Out.library task 2 (if ok then 0 else 5) [] :: s.out ∧
        Keeps [Obj.key.keyUses (slot + 16), Obj.sec.cryptoRejects, Obj.sec.secFlags] s t) ∧
      Completes (.cryptoEcdh task slot point) s fun t =>
        t.out = (if pointOk point then Out.library task 3 0 (Config.ecdhSecret (s.secretOf (slot + 16)) point)
          else Out.library task 3 4 (List.replicate 48 0)) :: s.out ∧
        Keeps [Obj.key.keyUses (slot + 16), Obj.sec.cryptoRejects, Obj.sec.secFlags] s t) ∧
    (s.keyKind (slot + 16) = 3 → data.length ≤ 16384 → s.rd64 (Obj.key.gcmCount (slot + 16)) + s.gcmUsed task j.release (slot + 16) < 2 ^ 64 - 1 →
      Completes (.cryptoEncrypt task slot aad data) s fun t =>
        let n := s.rd64 (Obj.key.gcmCount (slot + 16)) + s.gcmUsed task j.release (slot + 16)
        let c := Config.gcmSeal (s.secretOf (slot + 16)) (leBytes (slot + 16) 1 ++ leBytes 0x47 1 ++ [0, 0] ++ leBytes n 8) aad data
        t.out = Out.library task 4 0 (c.1 ++ c.2) :: s.out ∧
        t.gcmUsed task j.release (slot + 16) = s.gcmUsed task j.release (slot + 16) + 1 ∧ Keeps [Obj.key.keyUses (slot + 16)] s t) ∧
    (s.keyKind (slot + 16) = 3 → cipher.length ≤ 16384 → Completes (.cryptoDecrypt task slot nonce aad cipher tag) s fun t =>
      let p := Config.gcmOpen (s.secretOf (slot + 16)) (leBytes nonce.toNat 12) aad cipher tag
      t.out = (if p.isSome then Out.library task 5 0 (p.getD []) else Out.library task 5 6 (List.replicate cipher.length 0)) :: s.out ∧
      Keeps [Obj.key.keyUses (slot + 16), Obj.sec.cryptoRejects, Obj.sec.secFlags] s t) ∧
    Completes (.cryptoHash task data) s (fun t =>
      t = { s with out := Out.library task 7 0 (digestBytes (Config.sha384 data)) :: s.out }) ∧
    (s.lockstepStandby = false → Completes (.cryptoRandom task count) s fun t =>
      Out.library task 8 0 (Config.randomBytes s.free count) ∈ t.out ∧ t.free = s.free + 1 ∧ Keeps [] s t) ∧
    (s.lockstepStandby = true → s.red.randoms.find? (fun r => r.1 == task.val) = some x → Completes (.cryptoRandom task count) s fun t =>
      t = { s with out := Out.library task 8 0 x.2 :: s.out, red := { s.red with randoms := s.red.randoms.erase x } })

/-! ### Storage, recorder and Archive -/

/-- Storage ports (R568, R569, R575, R576, R580): errors and their score, retirement, self-test, format, counters. The recorder's flush
and store (R559 to R561, R579). -/
def Obligations.StorageAndRecorder : Prop :=
  (∀ (s : State) (p : Fin 2) (nsid critical used : Byte) (status : BitVec 16) (lba : BitVec 32) (fatal : Bool) (d : DriveFound) (k : Nat),
     Ready s →
     Completes (.nvmeCommandError p nsid status lba fatal) s (fun t =>
       (t.rd (Obj.st.stErrors p)).toNat = min 0xFFFFFFFF ((s.rd (Obj.st.stErrors p)).toNat + 1) ∧ t.bit Obj.arc.arcFlags 1 = true ∧
       t.bits (Obj.st.score p) 15 0 = min 65535 (s.bits (Obj.st.score p) 15 0 + 4) ∧
       ((t.st p).retired.isSome = ((s.st p).retired.isSome || fatal || decide (512 < s.bits (Obj.st.score p) 15 0 + 4))) ∧
       Keeps [Obj.st.stErrors p, Obj.st.score p, Obj.arc.arcFlags] s t) ∧
     Completes (.nvmeTimeout p) s (fun t =>
       (t.rd (Obj.st.stErrors p)).toNat = min 0xFFFFFFFF ((s.rd (Obj.st.stErrors p)).toNat + 1) ∧
       t.bits (Obj.st.score p) 15 0 = min 65535 (s.bits (Obj.st.score p) 15 0 + 16) ∧
       Keeps [Obj.st.stErrors p, Obj.st.score p, Obj.arc.arcFlags] s t) ∧
     Completes (.storageLinkRetrain p) s (fun t =>
       t.bits (Obj.st.score p) 15 0 = min 65535 (s.bits (Obj.st.score p) 15 0 + 32) ∧ Keeps [Obj.st.score p, Obj.arc.arcFlags] s t) ∧
     Completes (.storageLinkDown p) s (fun t =>
       (t.st p).present = false ∧ (t.st p).retired = some ((s.st p).retired.getD 1) ∧ Keeps [Obj.arc.arcFlags] s t) ∧
     Completes .storageScoreDecay s (fun t =>
       (∀ j : Fin 2, t.bits (Obj.st.score j) 15 0 = s.bits (Obj.st.score j) 15 0 - 1 ∧
         t.bits (Obj.st.score j) 31 16 = s.bits (Obj.st.score j) 31 16) ∧ Keeps [Obj.st.score 0, Obj.st.score 1] s t) ∧
     Completes (.smartWarning p critical used) s (fun t =>
       t.bits (Obj.st.stStatus p) 23 16 = critical.toNat ∧ t.bits (Obj.st.stStatus p) 15 8 = used.toNat ∧ Keeps [Obj.st.stStatus p] s t) ∧
     ((s.st p).retired = none → Completes (.stRetire p) s fun t =>
       (t.st p).retired = some 4 ∧ Accepted (Obj.st.cmdStatus p) 1 0 s t ∧ Keeps [Obj.st.cmdStatus p, Obj.arc.arcFlags] s t) ∧
     ((s.st p).retired.isSome = true → (s.st p).testing = false →
       Completes (.stRetire p) s (fun t => t.arc = s.arc ∧ Refused (Obj.st.cmdStatus p) 1 4 s t ∧ Keeps [Obj.st.cmdStatus p] s t) ∧
       Completes (.stReinstate p) s fun t =>
         t.st p = { s.st p with testing := true } ∧ Accepted (Obj.st.cmdStatus p) 2 1 s t ∧ Keeps [Obj.st.cmdStatus p] s t) ∧
     ((s.st p).testing = true →
       Completes (.stSelfTestDone p none) s (fun t =>
         t.st p = { s.st p with testing := false } ∧ t.bits (Obj.st.cmdStatus p) 15 8 = 9 ∧ Keeps [Obj.st.cmdStatus p] s t) ∧
       Completes (.stSelfTestDone p (some d)) s fun t =>
         (t.st p).testing = false ∧ (t.st p).retired = none ∧ (t.st p).present = true ∧ (t.st p).capacity = d.capacity ∧
         t.bits (Obj.st.cmdStatus p) 15 8 = 0 ∧ Keeps [Obj.st.cmdStatus p] s t) ∧
     ((s.ns nsid.toNat).resilver = some k → Completes (.resilverDone nsid) s fun t =>
       t.ns nsid.toNat = { s.ns nsid.toNat with resilver := none, degraded := false, lacks := [] } ∧ Keeps [] s t) ∧
     ((s.st p).testing = false → (s.st p).serves = true → Completes (.stFormat p) s fun t =>
       (∀ y ∈ (t.st p).spaces, y.2.1 = true ∧ (s.archiveRecs.any fun r => r.nsid == y.1) = true) ∧ Accepted (Obj.st.cmdStatus p) 3 0 s t ∧
       Keeps [Obj.st.cmdStatus p] s t) ∧
     Completes (.stClearCounters p) s fun t =>
       t.rd (Obj.st.stErrors p) = 0 ∧ Accepted (Obj.st.cmdStatus p) 4 0 s t ∧ Keeps [Obj.st.stErrors p, Obj.st.cmdStatus p] s t) ∧
  (∀ s : State, Ready s →
     (s.rcd.flushing = false → s.rcd.page < 256 → 0 < s.rcd.toFlush.length → s.rcd.toFlush.length ≤ 16 →
       Completes (.recorderFlush none) s (fun t =>
         t.rcd.pages = ⟨s.rcd.block, s.rcd.toFlush.map fun e => { e with sealed_ := true }, true⟩ :: s.rcd.pages ∧
         t.rcd.flushedRn = s.rcd.nextRn ∧ t.rcd.flushing = true ∧ KeepsSpaces [0x11] s t) ∧
       Completes .recFlush s fun t =>
         t.rcd.pages = ⟨s.rcd.block, s.rcd.toFlush.map fun e => { e with sealed_ := true }, true⟩ :: s.rcd.pages ∧
         t.rcd.flushing = true ∧ Accepted Obj.rcd.cmdStatus 1 0 s t ∧ KeepsSpaces [0x11] s t) ∧
     (s.rcd.flushing = true → Completes (.recorderFlush none) s fun t => t = { s with rcd := { s.rcd with flushDue := true } }) ∧
     (s.rcd.flushing = true → Completes .flushDone s fun t =>
       t.rcd.flushing = false ∧ (t.rd Obj.rcd.flushes).toNat = min 0xFFFFFFFF ((s.rd Obj.rcd.flushes).toNat + 1) ∧
       KeepsSpaces [0x11] s t) ∧
     Completes (.storeEraseDone true) s (fun t => t = { s with rcd := { s.rcd with aheadErased := true } }) ∧
     Completes (.storeEraseDone false) s (fun t =>
       t.rcd.retired = nextGood s.rcd.retired 65536 s.rcd.block :: s.rcd.retired ∧ t.bit Obj.rcd.recFlags 2 = true ∧ KeepsSpaces [] s t) ∧
     Completes .recClearCounters s fun t =>
       t.rd Obj.rcd.appended = 0 ∧ t.rd Obj.rcd.merged = 0 ∧ t.rd Obj.rcd.lost = 0 ∧ t.rd Obj.rcd.flushes = 0 ∧
       Accepted Obj.rcd.cmdStatus 2 0 s t ∧ KeepsSpaces [] s t)

/-- What the Archive writes and reads (R570 to R574, R577, R580): a drain, its completion, and a session's query. -/
def Obligations.ArchiveTraffic : Prop :=
  ∀ (s : State) (src : DrainSrc) (r : ArchiveRec) (w : ArcWrite) (i : Fin 68) (q : QueryX) (a : RingAllocRec) (l : List ArcEntry)
    (k : BitVec 20) (b : RingBind), Ready s →
    (s.nsFor 2 = some r → s.rcd.sealedFrom s.rcd.archRn ≠ [] → s.writable r = true → s.arc.writes.any (fun v => v.src == .records) = false →
      (s.ns r.nsid).segs.length < (s.ns r.nsid).slots → Completes (.archiveDrain .records) s fun t =>
        let es := (s.rcd.sealedFrom s.rcd.archRn).map fun e =>
          ({ time := e.time, source := e.code + 512 * e.inst, block := 0, data := e.bytes } : ArcEntry)
        t.arc.writes = s.arc.writes ++ [⟨.records, r.nsid, es, ((s.rcd.sealedFrom s.rcd.archRn).getLast?.map fun e => e.rn + 1).getD 0⟩] ∧
        t.arc.queries = s.arc.queries ∧ Keeps [] s t) ∧
    (s.ringAlloc k.toNat = some a → a.cls = 3 → (s.xRing k.toNat).bind = some b →
      (s.xRing k.toNat).entries ≠ [] →
      (s.nsFor (contentOf b.source) = some r → s.writable r = true → s.arc.writes.any (fun v => v.src == .ring k) = false →
        (s.ns r.nsid).segs.length < (s.ns r.nsid).slots → Completes (.archiveDrain (.ring k)) s fun t =>
          (t.arc.writes.getLast?.map fun v => (v.src, v.nsid, v.upTo, v.entries.map ArcEntry.data)) =
            some (.ring k, r.nsid, (s.xRing k.toNat).tail, (s.xRing k.toNat).entries.map fun e => e.take (8 + 4 * b.items)) ∧
          t.arc.writes.length = s.arc.writes.length + 1 ∧ Keeps [] s t) ∧
      (s.nsFor (contentOf b.source) = none → Completes (.archiveDrain (.ring k)) s fun t =>
        t.arc.unrouted.contains k.toNat = true ∧ t.arc.writes = s.arc.writes ∧ Keeps [Obj.arc.arcFlags] s t)) ∧
    (s.nsFor 3 = some r → s.arc.captures ≠ [] → s.writable r = true → s.arc.writes.any (fun v => v.src == .captures) = false →
      (s.ns r.nsid).segs.length < (s.ns r.nsid).slots → Completes (.archiveDrain .captures) s fun t =>
        let es := s.arc.captures.takeWhile fun y => y.source == (s.arc.captures.headD ⟨0, 0, 0, []⟩).source
        t.arc.writes = s.arc.writes ++ [⟨.captures, r.nsid, es, es.length⟩] ∧ Keeps [] s t) ∧
    (s.arc.writes.find? (fun v => v.src == src) = some w → s.archiveRec w.nsid = some r → Completes (.archiveWriteDone src) s fun t =>
      (t.arc.writes.any fun v => v.src == src) = false ∧
      ((t.ns r.nsid).segs.head?.map fun g => (g.entries.drop (g.entries.length - w.entries.length)).map ArcEntry.data) =
        some (w.entries.map ArcEntry.data) ∧
      (src = .records → t.rcd.archRn = w.upTo) ∧ (src = .captures → t.arc.captures = s.arc.captures.drop w.upTo) ∧ KeepsSpaces [0x11] s t) ∧
    (s.bits (sessKey i Obj.arc.qStatus) 1 0 ≠ 1 → s.bits (sessKey i Obj.arc.qStatus) 1 0 ≠ 2 →
      (s.archiveRec (s.bits (sessKey i Obj.arc.qNsid) 7 0)).isSome = true → s.ringAlloc (s.bits (sessKey i Obj.arc.qRing) 19 0) = some a →
      a.cls = 2 → (s.ns (s.bits (sessKey i Obj.arc.qNsid) 7 0)).mounted = true → Completes (.query i) s fun t =>
        lookupD ⟨0, 0, none⟩ t.arc.queries i = ⟨s.bits (sessKey i Obj.arc.qNsid) 7 0, s.bits (sessKey i Obj.arc.qRing) 19 0, none⟩ ∧
        t.rd (sessKey i Obj.arc.qStatus) = 1 ∧ t.rd (sessKey i Obj.arc.qEntries) = 0 ∧ Accepted Obj.arc.cmdStatus 2 0 s t ∧
        Keeps [sessKey i Obj.arc.qStatus, sessKey i Obj.arc.qEntries, Obj.arc.cmdStatus] s t) ∧
    (s.bits (sessKey i Obj.arc.qStatus) 1 0 = 1 → Completes (.query i) s fun t =>
      t.arc = s.arc ∧ Refused Obj.arc.cmdStatus 2 3 s t ∧ Keeps [Obj.arc.cmdStatus] s t) ∧
    (s.arc.queries.find? (fun x => x.1 == i.val) = some (i.val, q) → s.ringAlloc q.ring = some a →
      (q.left = none → Completes (.queryReadDone i []) s fun t =>
        t.bits (sessKey i Obj.arc.qStatus) 1 0 = (if (s.queryMatches i q []).length ≤ s.queryRoom q.ring a then 3 else 2) ∧
        (t.rd (sessKey i Obj.arc.qEntries)).toNat = min 0xFFFFFFFF ((s.rd (sessKey i Obj.arc.qEntries)).toNat +
          min (s.queryRoom q.ring a) (s.queryMatches i q []).length) ∧ KeepsSpaces [0x11, 0x13] s t) ∧
      (q.left = some l → Completes (.queryResume i) s fun t =>
        t.bits (sessKey i Obj.arc.qStatus) 1 0 = (if l.length ≤ s.queryRoom q.ring a then 3 else 2) ∧
        (t.rd (sessKey i Obj.arc.qEntries)).toNat = min 0xFFFFFFFF ((s.rd (sessKey i Obj.arc.qEntries)).toNat +
          min (s.queryRoom q.ring a) l.length) ∧ KeepsSpaces [0x11, 0x13] s t)) ∧
    Completes (.cancelQuery i) s (fun t =>
      (t.arc.queries.any fun x => x.1 == i.val) = false ∧ Accepted Obj.arc.cmdStatus 3 0 s t ∧
      Keeps [Obj.arc.cmdStatus, sessKey i Obj.arc.qStatus] s t) ∧
    Completes .arcClearCounters s fun t =>
      (∀ n ∈ s.archiveRecs, t.rd (Obj.ns.crcSkips n.nsid) = 0) ∧ Accepted Obj.arc.cmdStatus 1 0 s t ∧ KeepsSpaces [0x13] s t

/-! ### CAN -/

/-- Frames on a CAN bus (R465, R466, R468 to R471): a frame takes a free buffer, completes or fails, and a received one enters its queue
or is unmatched. BUS_CMD and the life of a CAN bus (R463, R467, R471 to R473, R475, R478). -/
def Obligations.CanFramesAndBuses : Prop :=
  (∀ (s : State) (b : Fin 16) (k : Fin 32) (delay : Byte) (e : CanTxError) (heavy : Bool) (f : CanFrame) (sof : BitVec 64) (r : CanRec)
     (x : TxBuf) (j i : Nat) (second : Bool), Ready s →
     (s.canRec b = some r → s.onBus b = true →
       ((s.busX b).freeBuf = some j → Completes (.canFrameSend b f) s fun t =>
         t.busX b = { s.busX b with bufs := upsert j ⟨f, (s.busX b).nextOrder, s.shadows b, false⟩ (s.busX b).bufs
                                    nextOrder := (s.busX b).nextOrder + 1 } ∧ Keeps [Obj.bus.txPending b, Obj.bus.busStatus b] s t) ∧
       ((s.busX b).freeBuf = none → Completes (.canFrameSend b f) s fun t =>
         t.can = s.can ∧ (t.rd (Obj.bus.txDropped b)).toNat = min 0xFFFFFFFF ((s.rd (Obj.bus.txDropped b)).toNat + 1) ∧
         t.bit (Obj.bus.busFlags b) 4 = true ∧ Keeps [Obj.bus.txDropped b, Obj.bus.busFlags b] s t)) ∧
     (s.onBus b = true → s.bits (Obj.bus.busStatus b) 5 4 ≠ 2 → x.shadow = false →
       ((s.busX b).bufs.find? (fun y => y.1 == k.val) = some (k.val, x) → Completes (.canTxComplete b k delay) s fun t =>
         (t.busX b).bufs.any (fun y => y.1 == k.val) = false ∧
         (t.rd (Obj.bus.txFrames b)).toNat = min 0xFFFFFFFF ((s.rd (Obj.bus.txFrames b)).toNat + 1) ∧ t.tec b = s.tec b - 1 ∧
         KeepsSpaces [0x0F] s t) ∧
       ((s.busX b).bufs.find? (fun y => y.1 == e.buffer.val) = some (e.buffer.val, x) →
         (e.lostArbitration = true → s.busState b = BusSt.normal → Completes (.canTxError b e) s fun t =>
           (t.busX b).bufs = upsert e.buffer.val { x with started := true } (s.busX b).bufs ∧ Keeps [] s t) ∧
         (e.lostArbitration = false → Completes (.canTxError b e) s fun t =>
           (t.rd (Obj.bus.errorFrames b)).toNat = min 0xFFFFFFFF ((s.rd (Obj.bus.errorFrames b)).toNat + 1) ∧
           t.tec b = min 511 (s.tec b + if e.exempt then 0 else 8) ∧ KeepsSpaces [0x0F] s t))) ∧
     (s.onBus b = true → Completes (.canRxError b heavy) s fun t =>
       (t.rd (Obj.bus.errorFrames b)).toNat = min 0xFFFFFFFF ((s.rd (Obj.bus.errorFrames b)).toNat + 1) ∧
       t.rec_ b = min 255 (s.rec_ b + if heavy then 8 else 1) ∧ KeepsSpaces [0x0F] s t) ∧
     (s.onBus b = true → s.canRec b = some r →
       (s.lockstepStandby = false → r.place f = some (i, second) →
         (if second then (s.busX b).rx1 else (s.busX b).rx0).length < 64 → Completes (.canFrameReceive b f sof) s fun t =>
           (if second then (t.busX b).rx1 else (t.busX b).rx0) =
             (if second then (s.busX b).rx1 else (s.busX b).rx0) ++ [⟨sof.toNat / 40 * 40, f, i⟩] ∧
           (t.rd (Obj.bus.rxFrames b)).toNat = min 0xFFFFFFFF ((s.rd (Obj.bus.rxFrames b)).toNat + 1) ∧ KeepsSpaces [0x0C, 0x0F] s t) ∧
       (s.lockstepStandby = false → r.place f = some (i, second) →
         64 ≤ (if second then (s.busX b).rx1 else (s.busX b).rx0).length → Completes (.canFrameReceive b f sof) s fun t =>
           (t.busX b).rx0 = (s.busX b).rx0 ∧ (t.busX b).rx1 = (s.busX b).rx1 ∧ t.bit (Obj.bus.busFlags b) 3 = true ∧
           (t.rd (Obj.bus.rxOverruns b)).toNat = min 0xFFFFFFFF ((s.rd (Obj.bus.rxOverruns b)).toNat + 1) ∧ KeepsSpaces [0x0F] s t) ∧
       (r.place f = none → Completes (.canFrameReceive b f sof) s fun t =>
         (t.busX b).rx0 = (s.busX b).rx0 ∧ (t.busX b).rx1 = (s.busX b).rx1 ∧
         (t.rd (Obj.bus.rxUnmatched b)).toNat = min 0xFFFFFFFF ((s.rd (Obj.bus.rxUnmatched b)).toNat + 1) ∧ KeepsSpaces [0x0F] s t) ∧
       (s.lockstepStandby = true → r.place f = some (i, second) → Completes (.canFrameReceive b f sof) s fun t =>
         (t.busX b).ownRx = (s.busX b).ownRx ++ [⟨sof.toNat / 40 * 40, f, i⟩] ∧ (t.busX b).rx0 = (s.busX b).rx0 ∧
         (t.busX b).rx1 = (s.busX b).rx1 ∧ KeepsSpaces [0x0F] s t))) ∧
  (∀ (s : State) (b : Fin 16) (k : Fin 32) (sof : Bool) (x : TxBuf) (failed : Fin 101) (r : CanRec) (f : CanFrame), Ready s →
     ((s.busX b).bufs.find? (fun y => y.1 == k.val) = some (k.val, x) →
       (x.started = false → sof = false → Completes (.busCancel b k sof) s fun t =>
         (t.busX b).bufs = eraseKey k.val (s.busX b).bufs ∧ Accepted (Obj.bus.cmdStatus b) 5 0 s t ∧
         Keeps [Obj.bus.cmdStatus b, Obj.bus.txPending b, Obj.bus.busStatus b] s t) ∧
       (x.started = true ∨ sof = true → Completes (.busCancel b k sof) s fun t =>
         (t.busX b).bufs.any (fun y => y.1 == k.val) = true ∧ Accepted (Obj.bus.cmdStatus b) 5 Oc.tooLate s t ∧
         Keeps [Obj.bus.cmdStatus b] s t)) ∧
     ((s.busX b).bufs.find? (fun y => y.1 == k.val) = none → Completes (.busCancel b k sof) s fun t =>
       t.can = s.can ∧ Accepted (Obj.bus.cmdStatus b) 5 0 s t ∧ Keeps [Obj.bus.cmdStatus b] s t) ∧
     (s.bits (Obj.bus.busStatus b) 5 4 = 2 → (s.busX b).recovering = false → Completes (.busRecover b) s fun t =>
       t.busX b = { s.busX b with recovering := true } ∧ Accepted (Obj.bus.cmdStatus b) 4 1 s t ∧ Keeps [Obj.bus.cmdStatus b] s t) ∧
     (s.bits (Obj.bus.busStatus b) 5 4 ≠ 2 → Completes (.busRecover b) s fun t =>
       t.can = s.can ∧ Accepted (Obj.bus.cmdStatus b) 4 0 s t ∧ Keeps [Obj.bus.cmdStatus b] s t) ∧
     ((s.busX b).recovering = true → Completes (.busRecovered b) s fun t =>
       t.busX b = { s.busX b with recovering := false } ∧ t.rd (Obj.bus.errCounters b) = 0 ∧ t.bits (Obj.bus.busStatus b) 5 3 = 0 ∧
       t.busOff b = false ∧ t.bits (Obj.bus.cmdStatus b) 15 8 = 0 ∧
       Keeps [Obj.bus.errCounters b, Obj.bus.busStatus b, Obj.bus.cmdStatus b, Obj.cans.canSummary] s t) ∧
     (s.busRetired b = false →
       Completes (.busRetire b) s (fun t =>
         t.busRetired b = true ∧ t.busState b = BusSt.retired ∧ t.bits (Obj.bus.busStatus b) 31 24 = 3 ∧ (t.busX b).bufs = [] ∧
         Accepted (Obj.bus.cmdStatus b) 1 0 s t ∧ KeepsSpaces [0x0F] s t) ∧
       Completes (.dominantTimeout b) s (fun t =>
         t.busRetired b = true ∧ t.busState b = BusSt.retired ∧ t.bits (Obj.bus.busStatus b) 31 24 = 2 ∧ (t.busX b).bufs = [] ∧
         KeepsSpaces [0x0F] s t) ∧
       Completes (.busReinstate b) s fun t => Refused (Obj.bus.cmdStatus b) 2 4 s t ∧ t.can = s.can ∧ Keeps [Obj.bus.cmdStatus b] s t) ∧
     (s.busRetired b = true → (s.busX b).testing = none → Completes (.busReinstate b) s fun t =>
       t.busX b = { s.busX b with testing := some s.up } ∧ t.busState b = BusSt.test ∧ Accepted (Obj.bus.cmdStatus b) 2 1 s t ∧
       Keeps [Obj.bus.busStatus b, Obj.bus.cmdStatus b] s t) ∧
     ((s.busX b).testing.isSome = true → Completes (.busSelfTestDone b failed) s fun t =>
       (t.busX b).testing = none ∧ (failed.val = 0 → t.busRetired b = false ∧ t.bits (Obj.bus.score b) 15 0 = 0 ∧
         t.rd (Obj.bus.errCounters b) = 0) ∧ (failed.val ≠ 0 → t.busRetired b = s.busRetired b ∧ t.busState b = BusSt.retired) ∧
       t.bits (Obj.bus.cmdStatus b) 15 8 = (if failed.val = 0 then 0 else 9) ∧ KeepsSpaces [0x0F] s t) ∧
     Completes (.busClearCounters b) s (fun t =>
       t.rd (Obj.bus.txFrames b) = 0 ∧ t.rd (Obj.bus.rxFrames b) = 0 ∧ t.rd (Obj.bus.rxUnmatched b) = 0 ∧ t.rd (Obj.bus.rxOverruns b) = 0 ∧
       t.rd (Obj.bus.rxDiffers b) = 0 ∧ t.rd (Obj.bus.txDropped b) = 0 ∧ t.rd (Obj.bus.errorFrames b) = 0 ∧ t.rd (Obj.bus.busOffs b) = 0 ∧
       Accepted (Obj.bus.cmdStatus b) 3 0 s t ∧ t.can = s.can ∧ KeepsSpaces [0x0F] s t) ∧
     Completes .canScoreDecay s (fun t =>
       (∀ c : Fin 16, t.bits (Obj.bus.score c) 15 0 = s.bits (Obj.bus.score c) 15 0 - 1 ∧
         t.bits (Obj.bus.score c) 31 16 = s.bits (Obj.bus.score c) 31 16) ∧ Keeps ((List.range 16).map Obj.bus.score) s t) ∧
     (s.sys.mode = .dormant ∨ s.sys.trans = .park → s.busRetired b = false → (s.busX b).testing = none → Completes (.canSleep b) s fun t =>
       t.busState b = BusSt.asleep ∧ (t.busX b).bufs = [] ∧ KeepsSpaces [0x0F] s t) ∧
     (s.canRec b = some r → s.busState b = BusSt.asleep →
       (r.wakeMode = 0 → Completes (.canWakeDominant b) s fun t =>
         t.bit (Obj.bus.busFlags b) 5 = true ∧ (s.sys.mode = .dormant → t.sys.wakeDue = true) ∧ Keeps [Obj.bus.busFlags b] s t) ∧
       (r.wakeMode = 1 → r.wakes f = true → Completes (.canWakeFrame b f) s fun t =>
         t.bit (Obj.bus.busFlags b) 5 = true ∧ (s.sys.mode = .dormant → t.sys.wakeDue = true) ∧ (t.busX b).rx0 = (s.busX b).rx0 ∧
         (t.busX b).rx1 = (s.busX b).rx1 ∧ Keeps [Obj.bus.busFlags b] s t)))

/-! ### Field I/O -/

/-- What field I/O channels have in common (R423, R454 to R461): scores and their decay, retirement, reinstatement and self-test,
counters, isolator errors, the loss of a stage's refresh, and the field supplies. -/
def Obligations.FieldChannels : Prop :=
  ∀ (s : State) (ch : IoChannel) (step : Fin 8) (d : Fin 256) (o : Fin 128) (a : Fin 64) (f : Fin 4) (v : BitVec 16), Ready s →
    Completes .ioScoreDecay s (fun t =>
      (∀ c : Fin 256, t.bits (Obj.di.score c) 15 0 = s.bits (Obj.di.score c) 15 0 - 1) ∧
      (∀ c : Fin 128, t.bits (Obj.dout.score c) 15 0 = s.bits (Obj.dout.score c) 15 0 - 1) ∧
      (∀ c : Fin 64, t.bits (Obj.ao.score c) 15 0 = s.bits (Obj.ao.score c) 15 0 - 1) ∧ KeepsSpaces [0x0E] s t) ∧
    (s.ioRetired ch = false →
      Completes (.ioRetire ch) s (fun t =>
        t.ioRetired ch = true ∧ t.bits (ioChan ch).status 31 24 = 5 ∧ t.bit (ioChan ch).flags 1 = true ∧
        Accepted (ioChan ch).cmdStatus 1 0 s t ∧ KeepsSpaces [0x0E] s t) ∧
      Completes (.isolatorLinkSilent ch) s (fun t =>
        t.ioRetired ch = true ∧ t.bits (ioChan ch).status 31 24 = 2 ∧ KeepsSpaces [0x0E] s t) ∧
      Completes (.ioReinstate ch) s fun t => t.io = s.io ∧ Refused (ioChan ch).cmdStatus 2 4 s t ∧ Keeps [(ioChan ch).cmdStatus] s t) ∧
    (s.ioRetired ch = true → hasKey (ioChan ch).inst s.io.tests = false → Completes (.ioReinstate ch) s fun t =>
      hasKey (ioChan ch).inst t.io.tests = true ∧ t.ioRetired ch = true ∧ Accepted (ioChan ch).cmdStatus 2 1 s t ∧
      Keeps [(ioChan ch).cmdStatus, (ioChan ch).status] s t) ∧
    (hasKey (ioChan ch).inst s.io.tests = true → Completes (.ioSelfTestDone ch step) s fun t =>
      hasKey (ioChan ch).inst t.io.tests = false ∧
      (if step.val = 0 then t.ioRetired ch = false ∧ t.bits (ioChan ch).score 15 0 = 0 ∧ t.bits (ioChan ch).cmdStatus 15 8 = 0
       else t.ioRetired ch = s.ioRetired ch ∧ t.bits (ioChan ch).cmdStatus 15 8 = 9) ∧ KeepsSpaces [0x0E] s t) ∧
    Completes (.ioClearCounters none) s (fun t =>
      (∀ g : Fin 4, t.rd (Obj.fs.fsLosses g) = 0) ∧ Accepted Obj.io.cmdStatus 3 0 s t ∧ KeepsSpaces [0x0E] s t) ∧
    Completes (.ioClearCounters (some (.di d))) s (fun t =>
      t.rd (Obj.di.rising d) = 0 ∧ t.rd (Obj.di.falling d) = 0 ∧ t.rd (Obj.di.overruns d) = 0 ∧ t.rd (Obj.di.differs d) = 0 ∧
      Accepted (Obj.di.cmdStatus d) 3 0 s t ∧
      Keeps [Obj.di.rising d, Obj.di.falling d, Obj.di.overruns d, Obj.di.differs d, Obj.di.cmdStatus d] s t) ∧
    Completes (.ioClearCounters (some (.dout o))) s (fun t =>
      t.rd (Obj.dout.overloads o) = 0 ∧ t.rd (Obj.dout.switches o) = 0 ∧ Accepted (Obj.dout.cmdStatus o) 3 0 s t ∧
      Keeps [Obj.dout.overloads o, Obj.dout.switches o, Obj.dout.cmdStatus o] s t) ∧
    Completes (.ioClearCounters (some (.ao a))) s (fun t =>
      t.rd (Obj.ao.foldbacks a) = 0 ∧ t.rd (Obj.ao.handovers a) = 0 ∧ Accepted (Obj.ao.cmdStatus a) 3 0 s t ∧
      Keeps [Obj.ao.foldbacks a, Obj.ao.handovers a, Obj.ao.cmdStatus a] s t) ∧
    Completes (.isolatorFrameError (.di d) false) s (fun t =>
      t.bits (Obj.di.score d) 15 0 = min 65535 (s.bits (Obj.di.score d) 15 0 + 4) ∧ (t.diX d).errs.head? = some s.up ∧
      KeepsSpaces [0x0E] s t) ∧
    Completes (.isolatorFrameError (.di d) true) s (fun t =>
      t.bits (Obj.di.score d) 15 0 = min 65535 (s.bits (Obj.di.score d) 15 0 + 1) ∧ KeepsSpaces [0x0E] s t) ∧
    Completes (.stageRefreshLoss (.dout o)) s (fun t =>
      t.bit (Obj.dout.doStatus o) 1 = false ∧ t.bit (Obj.dout.doStatus o) 2 = false ∧ t.doX o = { s.doX o with lost := true } ∧
      Keeps [Obj.dout.doStatus o, Obj.dout.switches o] s t) ∧
    Completes (.stageRefreshLoss (.ao a)) s (fun t =>
      t.bits (Obj.ao.aoStatus a) 1 0 = 0 ∧ t.aoX a = { s.aoX a with lost := true } ∧
      Keeps [Obj.ao.aoStatus a, Obj.io.aoDriven + a / 32] s t) ∧
    (s.supplyOk f = true → Completes (.fieldSupplyLost f v) s fun t =>
      t.supplyOk f = false ∧ t.rd (Obj.fs.fsStatus f) = w32 (v.toNat * 65536 + (if 500 < v.toNat then 1 else 0)) ∧
      (t.rd (Obj.fs.fsLosses f)).toNat = min 0xFFFFFFFF ((s.rd (Obj.fs.fsLosses f)).toNat + 1) ∧ t.bit Obj.io.ioFlags 0 = true ∧
      KeepsSpaces [0x0B, 0x0E] s t) ∧
    (s.supplyOk f = false → Completes (.fieldSupplyRestored f v) s fun t =>
      t.supplyOk f = true ∧ t.rd (Obj.fs.fsStatus f) = w32 (v.toNat * 65536 + 3) ∧ t.bit Obj.io.ioStatus f = true ∧ KeepsSpaces [0x0E] s t)

/-- Digital inputs and outputs (R424, R431, R432, R434, R435): the sample and its filter, writes staged for the commit, and what a stage's
own protection and tests do. -/
def Obligations.DigitalIo : Prop :=
  ∀ (s : State) (levels : BitVec 256) (c : Fin 128) (w : Word) (hot cmd back : Bool) (current : BitVec 16)
    (failed : List (Fin 128 × Bool × Bool)), Ready s →
    (s.sys.mode ≠ .boot → Completes (.diSample levels) s fun t =>
      (∀ d : Fin 256, t.bit (Obj.di.diStatus d) 1 = levels.getLsbD d ∧
        (t.diX d).counter = (diFilter (s.filterN d) (levels.getLsbD d) (s.diX d)).counter ∧
        (t.diX d).own = (diFilter (s.filterN d) (levels.getLsbD d) (s.diX d)).own ∧
        (s.bit (Obj.di.diStatus d) 2 = false → s.lockstepStandby = false → t.bit (Obj.di.diStatus d) 0 = (t.diX d).own)) ∧
      KeepsSpaces [0x0C, 0x0E] s t) ∧
    (s.gangHead c = c.val → Completes (.doValueWrite c w) s fun t =>
      t.sched.hostStaged.map HostStaged.write = s.sched.hostStaged.map HostStaged.write ++ [.job (.object (w32 (Obj.dout.doValue c)) w)] ∧
      Keeps [] s t) ∧
    (s.gangHead c ≠ c.val → Completes (.doValueWrite c w) s fun t => t = s) ∧
    (s.bit (Obj.dout.doStatus c) 3 = false → Completes (.doOverload c hot current) s fun t =>
      (t.doX c).cut = (if hot then 2 else 1) ∧ t.bits (Obj.dout.doStatus c) 11 8 = (if hot then 2 else 1) ∧
      t.bit (Obj.dout.doStatus c) 1 = false ∧ t.bit (Obj.dout.doFlags c) 0 = true ∧ t.rd (Obj.dout.doCurrent c) = w32 current.toNat ∧
      (t.rd (Obj.dout.overloads c)).toNat = min 0xFFFFFFFF ((s.rd (Obj.dout.overloads c)).toNat + 1) ∧ KeepsSpaces [0x0E] s t) ∧
    ((s.doX c).cut = 1 → Completes (.doRetry c) s fun t =>
      (t.doX c).cut = 0 ∧ t.bits (Obj.dout.doStatus c) 11 8 = 0 ∧ t.bit (Obj.dout.doStatus c) 1 = t.doWanted c ∧ KeepsSpaces [0x0E] s t) ∧
    ((s.doX c).cut = 2 → Completes (.doCooled c) s fun t =>
      (t.doX c).cut = 0 ∧ t.bits (Obj.dout.doStatus c) 11 8 = 0 ∧ t.bit (Obj.dout.doStatus c) 1 = t.doWanted c ∧ KeepsSpaces [0x0E] s t) ∧
    (s.bit (Obj.dout.doCfg c) 0 = true → s.bit (Obj.dout.doStatus c) 1 = true → Completes (.doOpenLoad c current) s fun t =>
      t.bits (Obj.dout.doStatus c) 11 8 = 3 ∧ t.bit (Obj.dout.doFlags c) 0 = true ∧ KeepsSpaces [0x0E] s t) ∧
    (s.bit (Obj.dout.doStatus c) 3 = false → Completes (.doReadbackFault c cmd back) s fun t =>
      t.bits (Obj.dout.doStatus c) 11 8 = 4 ∧ t.bit (Obj.dout.doStatus c) 3 = true ∧ t.bits (Obj.dout.doStatus c) 31 24 = 3 ∧
      t.bit (Obj.dout.doStatus c) 1 = false ∧ KeepsSpaces [0x0E] s t) ∧
    (s.testsStages = true → Completes (.doStandbyTest failed) s fun t =>
      (∀ x ∈ failed, t.bit (Obj.dout.doStatus x.1) 3 = true) ∧ KeepsSpaces [0x0E, 0x10] s t)

/-- Analogue outputs and FSK (R438, R441 to R444, R447). -/
def Obligations.AnalogOutputs : Prop :=
  ∀ (s : State) (c : Fin 64) (w readback voltage temp : Word) (bytes : List Byte) (v : Byte) (par frame on : Bool)
    (rest : List (Fin 64 × BitVec 32)), Ready s →
    (s.aoUsed c = true → Completes (.aoValueWrite c w) s fun t =>
      t.sched.hostStaged.map HostStaged.write = s.sched.hostStaged.map HostStaged.write ++ [.job (.object (w32 (Obj.ao.aoValue c)) w)] ∧
      Keeps [] s t) ∧
    (s.aoUsed c = false → Completes (.aoValueWrite c w) s fun t => t = s) ∧
    Completes (.aoCompliance c readback voltage) s (fun t =>
      t.bits (Obj.ao.aoStatus c) 23 20 = 2 ∧ t.bit (Obj.ao.aoFlags c) 0 = true ∧
      (s.supplyOk (if c.val < 32 then 2 else 3) = true →
        t.bits (Obj.ao.score c) 15 0 = min 65535 (s.bits (Obj.ao.score c) 15 0 + 8)) ∧ KeepsSpaces [0x0E] s t) ∧
    (s.bit (Obj.ao.aoStatus c) 3 = false → Completes (.aoOpenLoop c readback voltage) s fun t =>
      t.bits (Obj.ao.aoStatus c) 23 20 = 1 ∧ t.bit (Obj.ao.aoStatus c) 3 = true ∧ t.bits (Obj.ao.aoStatus c) 31 24 = 4 ∧
      KeepsSpaces [0x0E] s t) ∧
    Completes (.aoReadbackDeviation c readback) s (fun t =>
      t.bits (Obj.ao.aoStatus c) 23 20 = 4 ∧
      (s.supplyOk (if c.val < 32 then 2 else 3) = true →
        t.bits (Obj.ao.score c) 15 0 = min 65535 (s.bits (Obj.ao.score c) 15 0 + 16)) ∧ KeepsSpaces [0x0E] s t) ∧
    (s.bit (Obj.ao.aoStatus c) 4 = false → Completes (.aoFoldback c temp) s fun t =>
      t.bit (Obj.ao.aoStatus c) 4 = true ∧ t.bits (Obj.ao.aoStatus c) 23 20 = 3 ∧ t.aoCurrent c = 3600 ∧ t.bit (Obj.ao.aoFlags c) 2 = true ∧
      (t.rd (Obj.ao.foldbacks c)).toNat = min 0xFFFFFFFF ((s.rd (Obj.ao.foldbacks c)).toNat + 1) ∧
      Keeps [Obj.ao.aoStatus c, Obj.ao.aoFlags c, Obj.ao.foldbacks c] s t) ∧
    (s.bit (Obj.ao.aoStatus c) 4 = true → Completes (.aoFoldbackCleared c temp) s fun t =>
      t.bit (Obj.ao.aoStatus c) 4 = false ∧ t.bits (Obj.ao.aoStatus c) 23 20 = 0 ∧ t.aoCurrent c = (s.rd (Obj.ao.aoTarget c)).toNat ∧
      Keeps [Obj.ao.aoStatus c] s t) ∧
    (s.testsStages = true → s.bits (Obj.ao.aoStatus c) 1 0 = 2 → (s.rd (Obj.ao.aoTarget c)).toNat + 100 < readback.toNat →
      Completes (.aoTrackingCheck ((c, readback) :: rest)) s fun t =>
        t.bits (Obj.ao.aoStatus c) 23 20 = 4 ∧ t.bit Obj.io.ioFlags 2 = true ∧ KeepsSpaces [0x0E, 0x10] s t) ∧
    (s.fskOn c = true →
      (s.lockstepStandby = false → (s.aoX c).rx.length < 256 → Completes (.fskReceive c v par frame) s fun t =>
        (t.aoX c).rx = (s.aoX c).rx ++ [(v, par || frame)] ∧
        t.bits (Obj.ao.fskStatus c) 15 0 = (s.bits (Obj.ao.fskStatus c) 15 0 + (par || frame).toNat) % 65536 ∧
        Keeps [Obj.ao.fskStatus c] s t) ∧
      (s.lockstepStandby = false → 256 ≤ (s.aoX c).rx.length → Completes (.fskReceive c v false false) s fun t =>
        (t.aoX c).rx = (s.aoX c).rx ∧ t.bit (Obj.ao.aoFlags c) 5 = true ∧ Keeps [Obj.ao.aoFlags c] s t) ∧
      (s.lockstepStandby = true → Completes (.fskReceive c v false false) s fun t => t = s) ∧
      (s.bits (Obj.ao.aoStatus c) 1 0 = 1 → bytes.take (256 - (s.aoX c).tx.length) ≠ [] → Completes (.fskSend c bytes) s fun t =>
        (t.aoX c).tx = (s.aoX c).tx ++ bytes.take (256 - (s.aoX c).tx.length) ∧ t.bit (Obj.ao.aoStatus c) 16 = true ∧
        t.out = Out.fsk c (bytes.take (256 - (s.aoX c).tx.length)) :: s.out ∧ Keeps [Obj.ao.aoStatus c, Obj.ao.fskStatus c] s t) ∧
      (s.bits (Obj.ao.aoStatus c) 1 0 ≠ 1 → Completes (.fskSend c bytes) s fun t => t = s) ∧
      Completes (.fskCarrierChange c on) s fun t => t.bit (Obj.ao.aoStatus c) 17 = on ∧ Keeps [Obj.ao.aoStatus c] s t) ∧
    Completes (.fskTxDone c) s fun t =>
      t.aoX c = { s.aoX c with tx := [] } ∧ t.bit (Obj.ao.aoStatus c) 16 = false ∧ Keeps [Obj.ao.aoStatus c, Obj.ao.fskStatus c] s t

/-! ### Estimation, learning, balancing -/

/-- The estimator's own events: a gap in a string's current (R244), cells coasting too long (R245), a lane fault (R249), the state of
power (R253, R254), a checkpoint (R256). -/
def Obligations.EstimatorEvents : Prop :=
  ∀ (s : State) (n : Fin 256) (node : NodeId) (lane : Fin 16) (ok : Bool) (r : NodeRec) (c : ChemRec) (h : ThreshRec), Ready s →
    (s.hasString n = true → s.bit (Obj.str.estStatus n) 4 = false → Completes (.currentGap n) s fun t =>
      t.bit (Obj.str.estStatus n) 4 = true ∧
      (∀ i ∈ s.cellIdxOf n, (t.cell i).state = 4 ∧ t.bit (Obj.cell.cellFlags i) 2 = true) ∧ KeepsSpaces [0x05, 0x06] s t) ∧
    (s.nodeRec node.string node.p = some r → r.kind = 0 → (∃ i ∈ r.cellIdx, (s.cell i).state = 1 ∨ (s.cell i).state = 2) →
      Completes (.cellsStale node) s fun t =>
        (∀ i ∈ r.cellIdx, (s.cell i).state = 1 ∨ (s.cell i).state = 2 → (t.cell i).state = 3 ∧ t.bit (Obj.cell.cellFlags i) 2 = true) ∧
        KeepsSpaces [0x05, 0x06] s t) ∧
    (s.bit Obj.imp.arrayStatus lane = true → Completes (.laneFault lane) s fun t =>
      (t.rd Obj.imp.laneFaults).toNat = min 0xFFFFFFFF ((s.rd Obj.imp.laneFaults).toNat + 1) ∧
      t.bit Obj.imp.arrayStatus lane = decide (((lookupD [] s.est.lanes lane).filter fun u => decide (s.up ≤ u + 60000000000)).length < 2) ∧
      Keeps [Obj.imp.laneFaults, Obj.imp.arrayStatus] s t) ∧
    (s.chemOf n = some c → s.threshOf n = some h → Completes (.sopEvaluate n) s fun t =>
      t.bit (Obj.str.estStatus n) 6 = ((s.cellIdxOf n).any fun i => (s.cell i).state == 0 || (s.cell i).state == 3 || (s.cell i).state == 4) ∧
      (t.bit (Obj.str.estStatus n) 6 = true → t.rdList (Obj.str.chg2 n) 6 = [0, 0, 0, 0, 0, 0] ∧ t.rd (Obj.str.sopLimiter n) = 0xFFFFFFFF) ∧
      (t.bit (Obj.str.estStatus n) 6 = false → ((t.rdList (Obj.str.chg2 n) 3).all fun w => decide (w.toNat ≤ h.iChgMax)) = true ∧
        ((t.rdList (Obj.str.chg2 n + 3) 3).all fun w => decide (w.toNat ≤ h.iDisMax)) = true) ∧ KeepsSpaces [0x05] s t) ∧
    Completes (.checkpointWrite ok) s fun t =>
      (ok = true → t.est.newestCkpt.seq = (if s.est.newestCkpt.ok then s.est.newestCkpt.seq else 0) + 1 ∧
        t.est.newestCkpt.cells = s.est.cells.map (fun x => (x.1, (x.2.z, x.2.zr))) ∧
        t.bits Obj.imp.checkpoint 15 0 = (s.bits Obj.imp.checkpoint 15 0 + 1) % 65536) ∧
      (ok = false → s.est.newestCkpt.ok = true → t.est.newestCkpt = s.est.newestCkpt) ∧ Keeps [Obj.imp.checkpoint] s t

/-- The commands of a cell and of the learning unit: CELL_CMD (R252, R260), LEARN_CMD (R286), CLEAR_COUNTERS (R284). -/
def Obligations.CellCommands : Prop :=
  ∀ (s : State) (i : Fin 131072) (soc : BitVec 16) (cap : BitVec 24), Ready s →
    Completes .impClearCounters s (fun t =>
      t.rd Obj.imp.capturesUsed = 0 ∧ t.rd Obj.imp.capturesRejected = 0 ∧ t.rd Obj.imp.capAccepted = 0 ∧ t.rd Obj.imp.capRejected = 0 ∧
      Accepted Obj.imp.cmdStatus 1 0 s t ∧ KeepsSpaces [0x07] s t) ∧
    (s.cellExists i = true →
      Completes (.resetCov i) s (fun t =>
        (t.cell i).covDue = true ∧ Accepted (Obj.cell.cmdStatus i) 1 0 s t ∧ Keeps [Obj.cell.cmdStatus i] s t) ∧
      Completes (.cellClearCounters i) s (fun t =>
        t.rd (Obj.cell.updates i) = 0 ∧ t.rd (Obj.cell.corrections i) = 0 ∧ t.rd (Obj.cell.outliers i) = 0 ∧ t.rd (Obj.cell.covResets i) = 0 ∧
        Accepted (Obj.cell.cmdStatus i) 3 0 s t ∧
        Keeps [Obj.cell.updates i, Obj.cell.corrections i, Obj.cell.outliers i, Obj.cell.covResets i, Obj.cell.cmdStatus i] s t) ∧
      Completes (.clearLearning i) s (fun t =>
        (t.cellLearn i).anchor = none ∧ (t.cellLearn i).rs.count = 0 ∧ (t.cellLearn i).ct.count = 0 ∧
        Accepted (Obj.cell.learnCmdStatus i) 4 0 s t ∧ KeepsSpaces [0x06, 0x07] s t) ∧
      Completes (.setSoc i soc) s (fun t =>
        (if s.sys.mode ≠ .stop ∧ s.sys.mode ≠ .service then Refused (Obj.cell.cmdStatus i) 2 Oc.wrongMode s t ∧ t.cell i = s.cell i
         else if 10000 < soc.toNat then Refused (Obj.cell.cmdStatus i) 2 Oc.badValue s t ∧ t.cell i = s.cell i
         else (t.cell i).setDue = some soc.toNat ∧ Accepted (Obj.cell.cmdStatus i) 2 0 s t) ∧ Keeps [Obj.cell.cmdStatus i] s t) ∧
      Completes (.setCapacity i cap) s (fun t =>
        (if s.sys.mode ≠ .stop ∧ s.sys.mode ≠ .service then Refused (Obj.cell.learnCmdStatus i) 3 Oc.wrongMode s t ∧ t.cell i = s.cell i
         else if 2 * cap.toNat < s.rated (i / 512) ∨ 6 * s.rated (i / 512) < 5 * cap.toNat then
           Refused (Obj.cell.learnCmdStatus i) 3 Oc.badValue s t ∧ t.cell i = s.cell i
         else (t.cell i).cap = cap.toNat ∧ t.rd (Obj.cell.capacity i) = w32 cap.toNat ∧ Accepted (Obj.cell.learnCmdStatus i) 3 0 s t) ∧
        KeepsSpaces [0x06, 0x07] s t) ∧
      (s.sys.mode = .stop ∨ s.sys.mode = .service →
        Completes (.resetScales i) s (fun t =>
          (t.cell i).sRs = 4096 ∧ (t.cell i).sCt = 4096 ∧ t.rd (Obj.cell.scale i) = 0x10001000 ∧
          (t.cellLearn i).rs.count = 0 ∧ (t.cellLearn i).ct.count = 0 ∧
          Accepted (Obj.cell.learnCmdStatus i) 1 0 s t ∧ KeepsSpaces [0x06, 0x07] s t) ∧
        Completes (.resetCapacity i) s fun t =>
          (t.cell i).cap = s.rated (i / 512) ∧ t.rd (Obj.cell.capacity i) = w32 (s.rated (i / 512)) ∧ (t.cellLearn i).run = 0 ∧
          Accepted (Obj.cell.learnCmdStatus i) 2 0 s t ∧ KeepsSpaces [0x06, 0x07] s t))

/-- What learning meets: a copy of a capture frame (R209, R211), a record that does not close in time (R210, R269), a batch too old
(R272), an anchor too old, an interruption (R276). -/
def Obligations.LearningEvents : Prop :=
  ∀ (s : State) (n : Fin 256) (i : Fin 131072) (ct : Bool) (f : NodeFrame) (r : CapRecord), Ready s →
    (s.link f.port = Link.up → s.hasString (f.port % 256) = true → s.frameLocated f = true → (s.ringX (f.port % 256)).eff ≠ Rs.miswired →
      (s.nodeRec (f.port % 256) (senderOf (s.ringN (f.port % 256)) f)).isSome = true →
      s.copiesNeeded (f.port % 256) (senderOf (s.ringN (f.port % 256)) f) ≠ 1 →
      ((s.strX (f.port % 256)).frames.any fun x => x.p == senderOf (s.ringN (f.port % 256)) f && x.first == f.seq.toNat) = false →
      signedOf 32 (s.now / 1000000 % 2 ^ 32 + 2 ^ 32 - f.seq.toNat) ≤ 650 →
      Completes (.capdataReceive f) s fun t =>
        ((t.strX (f.port % 256)).frames.any fun x => x.p == senderOf (s.ringN (f.port % 256)) f && x.first == f.seq.toNat &&
          x.conf == .provisional && x.payload == f.payload && x.port == f.port.val) = true ∧
        t.rd64 (Obj.node.lastSeen (nodeInst (f.port % 256) (senderOf (s.ringN (f.port % 256)) f))) = s.now % 2 ^ 64 ∧
        KeepsSpaces [0x04, 0x05, 0x06, 0x07] s t) ∧
    ((s.strX n).record = some r → s.recordComplete n r = false → Completes (.captureDeadline n) s fun t =>
      (t.strX n).record = none ∧ t.bit (Obj.str.strStatus n) 5 = false ∧ t.bits (Obj.impS.captureResult n) 15 0 = 5 ∧
      (t.rd (Obj.str.capturesAbandoned n)).toNat = min 0xFFFFFFFF ((s.rd (Obj.str.capturesAbandoned n)).toNat + 1) ∧
      (t.rd Obj.imp.capturesRejected).toNat = min 0xFFFFFFFF ((s.rd Obj.imp.capturesRejected).toNat + 1) ∧
      KeepsSpaces [0x05, 0x06, 0x07] s t) ∧
    ((if ct then (s.cellLearn i).ct else (s.cellLearn i).rs).count ≠ 0 → Completes (.batchAgeExpiry i ct) s fun t =>
      (if ct then (t.cellLearn i).ct else (t.cellLearn i).rs).count = 0 ∧
      (if ct then (t.cellLearn i).rs = (s.cellLearn i).rs else (t.cellLearn i).ct = (s.cellLearn i).ct) ∧
      (t.rd Obj.imp.batchesRejected).toNat = min 0xFFFFFFFF ((s.rd Obj.imp.batchesRejected).toNat + 1) ∧
      t.bit (Obj.cell.learnFlags i) 2 = true ∧ KeepsSpaces [0x06, 0x07] s t) ∧
    ((s.cellLearn i).anchor.isSome = true → Completes (.anchorAgeExpiry i) s fun t =>
      (t.cellLearn i).anchor = none ∧ t.rd (Obj.cell.anchor i) = 0xFFFF0000 ∧ t.bits (Obj.cell.capLast i) 31 24 = 6 ∧
      t.bit (Obj.impS.impFlags (i / 512)) 2 = true ∧
      (t.rd Obj.imp.capDisqualified).toNat = min 0xFFFFFFFF ((s.rd Obj.imp.capDisqualified).toNat + 1) ∧ KeepsSpaces [0x06, 0x07] s t) ∧
    (((s.cellIdxOf n).any fun k => (s.cellLearn k).anchor.isSome) = true → Completes (.interruptionExpiry n) s fun t =>
      (∀ k ∈ s.cellIdxOf n, (t.cellLearn k).anchor = none) ∧ t.bits (Obj.impS.capStr n) 7 0 = 4 ∧
      t.bit (Obj.impS.impFlags n) 2 = true ∧ KeepsSpaces [0x06, 0x07] s t)

/-- Balancing, thermal and scan commands of a string: a round (R290 to R295), the end of a hold-off (R291), END_EPISODES and BAL_CFG
(R293, R309, R310), the end of acceleration (R201), CLEAR_COUNTERS (R226, R309, R312). -/
def Obligations.StringCommands : Prop :=
  ∀ (s : State) (n : Fin 256) (i : Fin 131072) (w : BitVec 32), Ready s →
    (s.hasString n = true → s.balanced n = false → Completes (.balRound n) s fun t =>
      t.bits (Obj.bal.balStatus n) 11 0 = (if s.balMode n then 0 else 5) ∧ t.ring.staged = s.ring.staged ∧ KeepsSpaces [0x08] s t) ∧
    (s.balanced n = true → Completes (.balRound n) s fun t =>
      (t.rd (Obj.bal.rounds n)).toNat = min 0xFFFFFFFF ((s.rd (Obj.bal.rounds n)).toNat + 1) ∧
      (t.ring.staged.any fun r => r.string == n.val && r.opcode == Op.balance) = true ∧
      (if 2 * ((s.cellIdxOf n).filter fun k => s.eligible n k).length < (s.cellIdxOf n).length ∨ ((s.cellIdxOf n).filter fun k => s.eligible n k) = [] then
         t.rd (Obj.bal.target n) = 0xFFFF ∧ t.bits (Obj.bal.balStatus n) 11 0 = 6 ∧ t.stopStaged n = true
       else t.rd (Obj.bal.target n) = w32 (((s.cellIdxOf n).filter fun k => s.eligible n k).foldl (fun m k => min m (s.zOf k)) 0xFFFF) ∧
         t.bits (Obj.bal.balStatus n) 11 0 ≠ 6) ∧ KeepsSpaces [0x06, 0x08] s t) ∧
    ((s.cellBal i).holdoff.isSome = true → Completes (.balHoldoffExpiry i) s fun t =>
      t.cellBal i = { s.cellBal i with holdoff := none } ∧ Keeps [Obj.cell.balCell i] s t) ∧
    (s.hasString n = true →
      Completes (.endEpisodes n) s (fun t =>
        (∀ k ∈ s.cellIdxOf n, (t.cellBal k).episode = false ∧
          ((s.cellBal k).episode = true → (t.cellBal k).holdoff = some (s.up + 900000000000))) ∧
        t.stopStaged n = true ∧ Accepted (Obj.bal.cmdStatus n) 2 0 s t ∧ KeepsSpaces [0x06, 0x08] s t) ∧
      Completes (.balClearCounters n) s (fun t =>
        t.rd (Obj.bal.bled n) = 0 ∧ t.rd (Obj.bal.rounds n) = 0 ∧ t.rd (Obj.bal.maskMismatches n) = 0 ∧
        Accepted (Obj.bal.cmdStatus n) 1 0 s t ∧ Keeps [Obj.bal.bled n, Obj.bal.rounds n, Obj.bal.maskMismatches n, Obj.bal.cmdStatus n] s t) ∧
      Completes (.balCfgWrite n w) s (fun t =>
        t.rd (Obj.bal.balCfg n) = (if balCfgOk w then putBits 3 0 0 w else s.rd (Obj.bal.balCfg n)) ∧
        (balCfgOk w = true → s.bit (Obj.bal.balCfg n) 4 = true → bitAt 4 w = false → s.commander = true → t.stopStaged n = true) ∧
        KeepsSpaces [0x08] s t) ∧
      Completes (.thermClearCounters n) s (fun t =>
        t.rd (Obj.thm.thermalOpens n) = 0 ∧ t.rd (Obj.thm.warnings n) = 0 ∧ t.rd (Obj.thm.alarms n) = 0 ∧
        Accepted (Obj.thm.cmdStatus n) 1 0 s t ∧
        Keeps [Obj.thm.thermalOpens n, Obj.thm.warnings n, Obj.thm.alarms n, Obj.thm.cmdStatus n] s t) ∧
      Completes (.strClearCounters n) s fun t =>
        (∀ a ∈ strCounters n, t.rd a = 0) ∧ Accepted (Obj.str.cmdStatus n) 1 0 s t ∧ Keeps (Obj.str.cmdStatus n :: strCounters n) s t) ∧
    (s.bits (Obj.str.strStatus n) 12 8 = 0 → Completes (.fastHoldExpiry n) s fun t =>
      t.bit (Obj.str.strStatus n) 7 = false ∧ Keeps [Obj.str.strStatus n] s t)

/-! ### Loops, tasks, the boundary -/

/-- What a running job asks of a loop slot (R398, R399): LOOP_PV gives the measured value, LOOP_EVAL evaluates a due slot once,
LOOP_RESULT answers the staged output or the last committed one; and an auto-tune that does not oscillate ends (R412). -/
def Obligations.LoopCalls : Prop :=
  ∀ (s : State) (k : Fin 512) (sp : Option (BitVec 32)) (w : BitVec 32) (r : LoopRec) (j : Job), Ready s →
    (s.loopRec k = some r → s.loopJob r = some j →
      Completes (.loopPv k w) s (fun t => t.loopX k = { s.loopX k with jobPv := some w } ∧ t.regs = s.regs) ∧
      Completes (.loopResult k) s (fun t =>
        t.loopX k = { s.loopX k with result := s.loopOut k } ∧ t.regs = s.regs) ∧
      ((s.loopX k).due.isSome = true → (s.loopX k).staged = none → s.loopMode r = Lm.auto ∨ s.loopMode r = Lm.manual ∨ s.loopMode r = Lm.tune →
        Completes (.loopEval k sp) s fun t =>
          (t.loopX k).staged.isSome = true ∧ (t.loopX k).staged.map LoopStaged.release = some j.release ∧ (t.loopX k).result = t.loopOut k ∧
          (if (loopPv r (s.loopX k)).2 = 0 then (t.loopX k).staged.map LoopStaged.pv = some (loopPv r (s.loopX k)).1 ∧
             ((t.loopX k).staged.bind LoopStaged.out).isSome = true
           else (t.loopX k).staged.bind LoopStaged.out = none ∧ (t.loopX k).staged.map (fun y => y.core.pvBad) = some true) ∧
          Keeps [Obj.eng.queuePeak] s t)) ∧
    ((s.loopX k).core.tune.isSome = true → Completes (.tuneTimeout k) s fun t =>
      (t.loopX k).core.tune = none ∧ t.bits (Obj.loop.loopStatus k) 21 20 = Tn.aborted ∧ t.bits (Obj.loop.tuneCfg k) 15 8 = 2 ∧
      t.bit (Obj.loop.loopFlags k) 5 = true ∧ KeepsSpaces [0x0D] s t)

/-- LOOP_CMD and what is written to a loop slot: the modes (R402), a tune and what becomes of its proposal (R410, R413), counters (R418),
gains (R403), the set-point (R407). -/
def Obligations.LoopCommands : Prop :=
  ∀ (s : State) (k : Fin 512) (item : Fin 3) (w : BitVec 32) (r : LoopRec), Ready s →
    Completes .engineClearCounters s (fun t =>
      t.rd Obj.eng.evals = 0 ∧ t.rd Obj.eng.queuePeak = 0 ∧ Accepted Obj.eng.cmdStatus 1 0 s t ∧
      Keeps [Obj.eng.evals, Obj.eng.queuePeak, Obj.eng.cmdStatus] s t) ∧
    (s.loopRec k = some r →
      Completes (.loopAuto k) s (fun t =>
        (t.loopX k).base = Lm.auto ∧ (t.loopX k).core.tune = none ∧ Accepted (Obj.loop.cmdStatus k) 1 0 s t ∧ KeepsSpaces [0x0D] s t) ∧
      Completes (.loopManual k) s (fun t =>
        (t.loopX k).base = Lm.manual ∧ (t.loopX k).core.tune = none ∧ Accepted (Obj.loop.cmdStatus k) 2 0 s t ∧ KeepsSpaces [0x0D] s t) ∧
      Completes (.loopOff k) s (fun t =>
        (t.loopX k).base = Lm.off ∧ (t.loopX k).core.tune = none ∧ t.shownMode k = Lm.off ∧ Accepted (Obj.loop.cmdStatus k) 3 0 s t ∧
        KeepsSpaces [0x0D] s t) ∧
      Completes (.loopClearCounters k) s (fun t =>
        t.rd (Obj.loop.evals k) = 0 ∧ t.rd (Obj.loop.missed k) = 0 ∧ t.rd (Obj.loop.squashes k) = 0 ∧ t.rd (Obj.loop.saturations k) = 0 ∧
        Accepted (Obj.loop.cmdStatus k) 7 0 s t ∧
        Keeps [Obj.loop.evals k, Obj.loop.missed k, Obj.loop.squashes k, Obj.loop.saturations k, Obj.loop.cmdStatus k] s t) ∧
      Completes (.spWrite k w) s (fun t => t.rd (Obj.loop.sp k) = w ∧ Keeps [Obj.loop.sp k] s t) ∧
      ((s.loopX k).core.tune = none → gainOk item w = true → Completes (.gainsChanged k item w) s fun t =>
        t.rd (Obj.loop.kp k + item) = w ∧ (t.loopX k).gainsDue = (s.loopX k).gainsDue + 1 ∧ Keeps [Obj.loop.kp k + item] s t) ∧
      (s.loopMode r = Lm.auto ∨ s.loopMode r = Lm.manual → (s.innerOf k).map LoopRec.slot ≠ some k.val →
        (r.cascade = 1 → ((s.loopRec r.outer).all fun q => s.loopMode q != Lm.auto && s.loopMode q != Lm.tune) = true) →
        B32.lt r.outMax (B32.add (s.rd (Obj.loop.out k)) (s.rd (Obj.loop.tuneD k))) = false →
        B32.lt (B32.sub (s.rd (Obj.loop.out k)) (s.rd (Obj.loop.tuneD k))) r.outMin = false → Completes (.loopTune k) s fun t =>
          (t.loopX k).core.tune.map TuneX.bias = some (s.rd (Obj.loop.out k)) ∧ (t.loopX k).core.tune.map TuneX.former = some (s.loopMode r) ∧
          t.bits (Obj.loop.loopStatus k) 21 20 = Tn.running ∧ Accepted (Obj.loop.cmdStatus k) 4 0 s t ∧ KeepsSpaces [0x0D] s t) ∧
      (s.bits (Obj.loop.loopStatus k) 21 20 = Tn.proposed →
         Completes (.loopAccept k) s (fun t =>
           t.rdList (Obj.loop.kp k) 3 = s.rdList (Obj.loop.propKp k) 3 ∧ t.bits (Obj.loop.loopStatus k) 21 20 = Tn.idle ∧
           (t.loopX k).gainsDue = (s.loopX k).gainsDue + 1 ∧ Accepted (Obj.loop.cmdStatus k) 5 0 s t ∧
           Keeps [Obj.loop.kp k, Obj.loop.ti k, Obj.loop.td k, Obj.loop.loopStatus k, Obj.loop.cmdStatus k] s t) ∧
         Completes (.loopReject k) s (fun t =>
           t.rdList (Obj.loop.propKp k) 3 = [0, 0, 0] ∧ t.bits (Obj.loop.loopStatus k) 21 20 = Tn.idle ∧
           Accepted (Obj.loop.cmdStatus k) 6 0 s t ∧
           Keeps [Obj.loop.propKp k, Obj.loop.propKp k + 1, Obj.loop.propKp k + 2, Obj.loop.loopStatus k, Obj.loop.cmdStatus k] s t)) ∧
      (s.bits (Obj.loop.loopStatus k) 21 20 ≠ Tn.proposed →
         Completes (.loopAccept k) s (fun t => Refused (Obj.loop.cmdStatus k) 5 Oc.notReady s t ∧ Keeps [Obj.loop.cmdStatus k] s t) ∧
         Completes (.loopReject k) s fun t => Refused (Obj.loop.cmdStatus k) 6 Oc.notReady s t ∧ Keeps [Obj.loop.cmdStatus k] s t))

/-- Tasks: a job that finishes (R363, R371), one that faults (R377), TASK_CMD and SCHED_CMD (R389, R392), the variable window (R390), a
resync (R384). -/
def Obligations.Tasks : Prop :=
  ∀ (s : State) (k : Fin 64) (x : JobResult) (r : TaskRec) (j : Job) (code : Fin 10) (offset : BitVec 24) (session : Fin 68) (first : Fin 64)
      (l : List (BitVec 32)) (vars : List (BitVec 32 × List Byte)), Ready s →
    Completes .schedClearCounters s (fun t =>
      t.rd Obj.sched.digestMismatches = 0 ∧ t.rd Obj.sched.progResyncs = 0 ∧ Accepted Obj.sched.cmdStatus 1 0 s t ∧
      Keeps [Obj.sched.digestMismatches, Obj.sched.progResyncs, Obj.sched.cmdStatus] s t) ∧
    Completes (.varDataWrite session first l) s (fun t =>
      t.sched.hostStaged.length = s.sched.hostStaged.length +
        (if ((s.varDecl (s.rd (sessKey session Obj.sched.varSelect)).toNat).any fun d => d.writable && !l.isEmpty &&
             decide ((s.rd (sessKey session Obj.sched.varOffset)).toNat + 4 * first + 4 * (l.length - 1) < d.size)) then 1 else 0) ∧
      t.regs = s.regs) ∧
    (s.taskRec k = some r →
      Completes (.taskClearCounters k) s (fun t =>
        t.rd (Obj.task.releases k) = 0 ∧ t.rd (Obj.task.commits k) = 0 ∧ t.rd (Obj.task.overruns k) = 0 ∧ t.rd (Obj.task.skips k) = 0 ∧
        t.rd (Obj.task.aborts k) = 0 ∧ t.rd (Obj.task.faults k) = 0 ∧ t.rd (Obj.task.eventsMerged k) = 0 ∧
        Accepted (Obj.task.cmdStatus k) 1 0 s t ∧ KeepsSpaces [0x0C] s t) ∧
      Completes (.resume k) s (fun t =>
        (if s.bit (Obj.task.taskStatus k) 13 then t.bit (Obj.task.taskStatus k) 13 = false ∧ Accepted (Obj.task.cmdStatus k) 2 0 s t
         else Refused (Obj.task.cmdStatus k) 2 Oc.notReady s t) ∧ KeepsSpaces [0x0C, 0x0D] s t) ∧
      ((s.taskX k).job = some j → j.finished = false → (x.writes.any fun w => match w with | .object a _ => !taskWritable a.toNat | _ => false) = false →
        (x.reads.all fun q => !s.sched.withdrawn.contains ⟨q.1, q.2.1.toNat, q.2.2⟩) = true → Completes (.jobFinish k x) s fun t =>
          (t.taskX k).job = some { j with finished := true, exec := x.exec, writes := x.writes,
                                          reads := x.reads.map fun q => ⟨q.1, q.2.1.toNat, q.2.2⟩ } ∧
          t.rd (Obj.task.execLast k) = w32 x.exec ∧ KeepsSpaces [0x0C, 0x0D] s t)) ∧
    ((s.taskX k).job = some j → j.finished = false → Completes (.taskFault k code offset) s fun t =>
      (t.taskX k).job = none ∧ t.rd (Obj.task.faultLast k) = w32 (offset.toNat * 256 + code) ∧
      (t.rd (Obj.task.faults k)).toNat = min 0xFFFFFFFF ((s.rd (Obj.task.faults k)).toNat + 1) ∧
      (t.rd (Obj.task.aborts k)).toNat = min 0xFFFFFFFF ((s.rd (Obj.task.aborts k)).toNat + 1) ∧
      (t.taskX k).faultRun = (if (s.taskX k).faultRun < 2 then (s.taskX k).faultRun + 1 else 0) ∧
      (2 ≤ (s.taskX k).faultRun → t.bit (Obj.task.taskStatus k) 13 = true) ∧ KeepsSpaces [0x0C, 0x0D] s t) ∧
    (s.sched.resync = true → Completes (.programResyncDone vars) s fun t =>
      t.sched.resync = false ∧ t.sched.vars = vars.foldl (fun m v => upsert v.1.toNat v.2 m) [] ∧ t.bit Obj.sched.schedStatus 7 = false ∧
      (t.rd Obj.sched.progResyncs).toNat = min 0xFFFFFFFF ((s.rd Obj.sched.progResyncs).toNat + 1) ∧
      Keeps [Obj.sched.progResyncs, Obj.sched.schedStatus, Obj.sched.journal] s t)

/-- A protection-cycle boundary (R315, R316, R361, R491): run time reaches it, CYCLE_NO advances by one and task time by PROT_PERIOD; a
standby that follows the agreement then awaits its AGREE_COMMIT; cores that disagree are counted (R317); a built-in program that has not
ended is FATAL. -/
def Obligations.BoundaryBeginsCycle : Prop :=
  ∀ (s : State) (x : CycleSeen), Ready s → s.red.commitDue = false →
    (x.builtInDone = true → s.sched.hostStaged = [] → s.red.due = [] → s.sys.modeCmds = [] → Completes (.protectionCycleBoundary x) s fun t =>
      t.up = s.up + s.toBoundary ∧ t.rd Obj.prot.cycleNo = s.rd Obj.prot.cycleNo + 1 ∧ t.taskTime = (s.taskTime + s.protUs) % 2 ^ 64 ∧
      (x.coresAgree = false → (t.rd Obj.safe.xchecks).toNat = min 0xFFFFFFFF ((s.rd Obj.safe.xchecks).toNat + 1)) ∧
      (s.followsAgreement = true → s.sys.mode ≠ .boot → x.coresAgree = true → s.ring.results = [] → t.red.commitDue = true ∧ t.sys = s.sys ∧
        KeepsSpaces [0x04, 0x05, 0x0A, 0x0C] s t) ∧
      t.cat.slot0 = s.cat.slot0 ∧ t.cat.slot1 = s.cat.slot1) ∧
    (x.builtInDone = false → Completes (.protectionCycleBoundary x) s fun t => t.sys.mode = .boot ∧ t.sys.trans = .boot ∧ t.sys.own = false)

/-! ### The pair -/

/-- The paths between the modules of a pair (R482 to R488): links, the interlock's toggle, silence, heartbeats, and dual ownership as a
path returns. -/
def Obligations.PairPaths : Prop :=
  ∀ (s : State) (second interlock own : Bool) (seq : BitVec 64) (b : PartnerBeat) (offset : Int), Ready s →
    (s.bit Obj.red.redStatus (15 + second.toNat) = false → Completes (.crosslinkUp second) s fun t =>
      t.bit Obj.red.redStatus (15 + second.toNat) = true ∧ Keeps [Obj.red.redStatus] s t ∧ t = { s with regs := t.regs, rcd := t.rcd }) ∧
    (s.bit Obj.red.redStatus (15 + second.toNat) = true → Completes (.crosslinkDown second) s fun t =>
      t.bit Obj.red.redStatus (15 + second.toNat) = false ∧ (s.pairRole = true → t.bit Obj.red.redFlags 0 = true) ∧
      KeepsSpaces [0x02, 0x10] s t) ∧
    (s.sys.cable = true → s.ilHeard = true ∨ s.pairRole = false ∨ s.sys.own = false ∨ own = false ∨ s.sys.unitB = false →
      Completes (.toggleEdge own) s fun t =>
        t.ilHeard = true ∧ t.red.ilAt = some s.up ∧ t.sys.mode = s.sys.mode ∧ t.sys.own = s.sys.own ∧ KeepsSpaces [0x00, 0x10] s t) ∧
    (s.sys.cable = true → s.ilHeard = false → s.pairRole = true → s.sys.own = true → s.sys.unitB = true → Completes (.toggleEdge true) s fun t =>
      t.sys.mode = .boot ∧ t.sys.own = false) ∧
    ((if interlock then s.ilHeard else s.xHeard) = true → s.pairRole = true → Completes (.pathSilent interlock) s fun t =>
      (if interlock then t.ilHeard else t.xHeard) = false ∧ (if interlock then t.xHeard = s.xHeard else t.ilHeard = s.ilHeard) ∧
      (if (if interlock then s.xHeard else s.ilHeard) then
         (t.rd Obj.red.pathFaults).toNat = min 0xFFFFFFFF ((s.rd Obj.red.pathFaults).toNat + 1) ∧ t.bit Obj.red.redFlags 1 = true ∧
         t.sys.lossPending = s.sys.lossPending
       else t.rd Obj.red.pathFaults = s.rd Obj.red.pathFaults ∧
         (if s.sys.mode = .boot then t.sys.bootPartnerLost else t.sys.lossPending) = true ∧ t.red.partner = none)) ∧
    (s.pairRole = true → s.sys.mode ≠ .boot → Completes .xlinkHeartbeatSend s fun t =>
      t = { s with red := { s.red with msgSeq := s.red.msgSeq + 1 }
                   out := Out.xMsg s.red.msgSeq (s.rd Obj.prot.cycleNo).toNat (.heartbeat s.heartbeat) :: s.out }) ∧
    (s.takesMessage seq.toNat = true → s.xHeard = true ∨ s.sys.own = false ∨ bitAt 15 b.mode = false ∨ s.sys.unitB = false →
      Completes (.xlinkHeartbeatReceive seq b offset) s fun t =>
        t.xHeard = true ∧ t.red.xAt = some s.up ∧ t.red.partner = some b ∧ t.red.found = true ∧ t.rd Obj.red.partnerWord = b.healthWord ∧
        t.rd Obj.red.partnerFw = b.fw ∧ t.rd Obj.red.partnerRev = b.revision ∧ t.rd Obj.red.compat = w32 (compatWord s.heartbeat b) ∧
        KeepsSpaces [0x00, 0x02, 0x09, 0x0C, 0x0D, 0x10, 0x16] s t)

/-- Messages of the partner, each taken at the first copy of its MSG_SEQ (R482): the island's report (R332, R337), a RESULT and its
acknowledgement (R494), the parts of a transfer (R505), a refreshed record (R255, R280, R296). -/
def Obligations.PairMessages : Prop :=
  ∀ (s : State) (seq : BitVec 64) (m : IslandMessage) (r : ResultRec) (q : ReqHead) (x : HostReq) (i st : Nat) (payload : List Byte)
      (cert serial : List Byte) (c : ModuleCopy) (n : Fin 256) (g : StringCopy) (j : JoinX) (f : RefreshPart), Ready s →
    s.takesMessage seq.toNat = true →
    Completes (.islandMessageReceive seq m) s (fun t =>
      t.island.notice = m.lockout.map (fun x => (x.1.toNat, x.2.toNat)) ∧
      (m.funcs.getLast?.all fun f => (t.funcX f.1).partner == some ⟨f.2.1.val, f.2.2.1.val, f.2.2.2⟩) = true ∧
      KeepsSpaces [0x00, 0x0B, 0x10] s t) ∧
    Completes (.resultReceive seq r) s (fun t =>
      (t.cacheRecs r.client.toNat).head? = some ⟨r.no.toNat, r.type.toNat, r.status.toNat, r.multi, r.payload, s.up⟩ ∧
      (t.out.any fun o => match o with | .xMsg _ _ (.resultAck k no) => k == r.client && no == r.no | _ => false) = true ∧
      KeepsSpaces [0x00, 0x10, 0x11] s t) ∧
    (s.net.reqs.find? (fun y => y.client == q.client.toNat && y.no == q.no.toNat && y.ready.isSome) = some x →
      s.net.reqs.find? (fun y => y.id == x.id) = some x → x.ready = some (st, payload) → x.dest = .session i → (s.sessX i).isSome = true →
      Completes (.resultAckReceive seq q) s fun t =>
        (t.net.reqs.any fun y => y.id == x.id) = false ∧ t.red.unrepRun = 0 ∧
        Out.reply i x.client x.no (x.type % 256) st ((if x.multi then 4 else 0) + 1) payload ∈ t.out ∧ KeepsSpaces [0x00, 0x10] s t) ∧
    (s.sys.mode = .active → Completes (.transferReceive seq (.identity cert serial)) s fun t =>
      t.red.sending = (if (Config.deviceKey Config.deviceCa cert).isSome then some (256 :: s.strings) else s.red.sending) ∧
      t.red.idSeq = s.red.msgSeq ∧ KeepsSpaces [0x00, 0x10, 0x14] s t) ∧
    (s.red.join = some j →
      Completes (.transferReceive seq (.module_ c)) s (fun t =>
        t.rd Obj.prot.cycleNo = c.cycleNo ∧ t.taskTime = c.taskTime.toNat ∧ t.sys.phase = c.phase ∧
        t.red.join = some { j with gotModule := true, strings := [] }) ∧
      (j.gotModule = true → Completes (.transferReceive seq (.string n g)) s fun t =>
        t.strEst n = g.est ∧ t.strLearn n = g.strLearn ∧ t.strBal n = g.bal ∧ t.strTherm n = g.therm ∧
        t.strProt n = g.prot ∧ t.red.join = some { j with strings := j.strings.filter (· != n.val) ++ [n.val] })) ∧
    (s.lockstepStandby = true → Completes (.refreshReceive seq f) s fun t =>
      t.red.refresh = s.red.refresh ++ [f] ∧ KeepsSpaces [0x00, 0x10] s t)

/-- The agreement as a standby takes it (R217, R490 to R493), a snapshot's close (R205), and cycles without it (R491). -/
def Obligations.Agreement : Prop :=
  ∀ (s : State) (seq : BitVec 64) (n : Fin 256) (no : BitVec 32) (q : Snap) (h : HeldSnap) (l : List AgreedNode) (c : AgreeCommit)
      (d : AgreeDigests) (cycle dseq : BitVec 32) (w : HostWrite) (words : List (BitVec 32)) (k : Fin 64) (r : TaskRec) (bytes : List Byte)
      (ch : Fin 256) (v : Bool) (cause : Fin 3), Ready s →
    (s.takesMessage seq.toNat = true → s.lockstepStandby = true →
      Completes (.agreeInputReceive seq (.write cycle w)) s (fun t =>
        t.sched.hostStaged = s.sched.hostStaged ++ (s.openWrite w).toList.map (fun w => ⟨68, s.up, some cycle.toNat, none, w⟩) ∧
        KeepsSpaces [0x00, 0x10] s t) ∧
      (words.length = 32 → Completes (.agreeInputReceive seq (.dispatch dseq words)) s fun t =>
        t.rdList Obj.hier.dispIn 32 = words ∧ t.rd Obj.hier.dispSeq = dseq ∧ t.dispState = 1 ∧ KeepsSpaces [0x00, 0x10] s t) ∧
      (s.taskRec k = some r → Completes (.agreeInputReceive seq (.trigger k)) s fun t =>
        (t.taskX k).triggers = (s.taskX k).triggers + 1 ∧ KeepsSpaces [0x00, 0x0C, 0x10] s t) ∧
      Completes (.agreeInputReceive seq (.random k bytes)) s (fun t =>
        t.red.randoms = s.red.randoms ++ [(k.val, bytes)] ∧ KeepsSpaces [0x00, 0x10] s t) ∧
      ((s.fieldRec 0 ch).isSome = true → Completes (.agreeInputReceive seq (.di ch v [])) s fun t => t.bit (Obj.di.diStatus ch) 0 = v) ∧
      (s.scan.held.find? (fun x => x.string == n.val && x.snap.no == no.toNat) = some h →
        ((s.strX n).snaps.any fun x => x.no == no.toNat) = false → Completes (.agreeSnapshotReceive seq n no l) s fun t =>
          (t.scan.held.any fun x => x.string == n.val && x.snap.no == no.toNat) = false ∧
          (t.rd (Obj.str.snapshots n)).toNat = min 0xFFFFFFFF ((s.rd (Obj.str.snapshots n)).toNat + 1)) ∧
      Completes (.agreeDigestsReceive seq d) s (fun t =>
        t.therm.partnerLevel = d.level ∧ t.therm.partnerStretch = d.stretch ∧
        (s.red.join = none → s.red.detached = false → s.rd Obj.sched.cycleDigest ≠ d.cycleDigest → s.bit Obj.sched.schedStatus 6 = false →
          s.bit Obj.red.redStatus 26 = false → t.sched.resync = true) ∧ KeepsSpaces [0x00, 0x06, 0x07, 0x08, 0x0C, 0x10] s t)) ∧
    (s.takesMessage seq.toNat = true → s.red.rxNext.getD seq.toNat = seq.toNat → s.red.rxMissing = [] → s.red.commitDue = true →
      s.rd Obj.prot.cycleNo = c.cycle → s.red.detached = false ∨ s.red.join.isSome = true → Completes (.agreeCommitReceive seq c) s fun t =>
        t.red.commitDue = false ∧ t.red.agreedAt = some s.up) ∧
    (s.red.commitDue = true → s.sys.mode = .standby → s.sys.modeCmds = [] → Completes (.detached cause) s fun t =>
      t.red.commitDue = false ∧
      (t.rd Obj.red.detachedCycles).toNat = min 0xFFFFFFFF ((s.rd Obj.red.detachedCycles).toNat + 1)) ∧
    (s.sys.mode = .standby → s.red.detached = true → (s.red.ilAt.any fun t => decide (s.up ≤ t + 100000)) = true →
      Completes .detachedDoOff s fun t =>
        (∀ c : Fin 128, t.bit (Obj.dout.doStatus c) 0 = false ∧ t.bit (Obj.dout.doStatus c) 1 = false) ∧ KeepsSpaces [0x0E] s t) ∧
    ((s.strX n).snaps.find? (fun x => x.no == no.toNat) = some q → Completes (.snapshotClose n no) s fun t =>
      ((t.strX n).snaps.any fun x => x.no == no.toNat) = false ∧ (t.strX n).lastClosed = some (no.toNat, s.up) ∧
      (if s.lockstepStandby then (t.scan.held.any fun x => x.string == n.val && x.snap.no == no.toNat) = true
       else (t.rd (Obj.str.snapshots n)).toNat = min 0xFFFFFFFF ((s.rd (Obj.str.snapshots n)).toNat + 1)) ∧
      (s.sys.mode = .active → s.lockstepStandby = false →
        (t.out.any fun o => match o with | .xMsg _ _ (.agreeSnapshot a b _) => a == n && b == no | _ => false) = true))

/-- Commands and self-tests of the pair (R492, R501, R513), and the hierarchy (R509 to R511, R545): what a manager sends, what a worker
takes, holds and falls back to. -/
def Obligations.PairCommands : Prop :=
  ∀ (s : State) (corrected : Nat) (k : Fin 64) (i : Fin 68) (q : ReqHead) (seq : BitVec 32) (words : List (BitVec 32))
      (result : Option (Byte × Fin 16)), Ready s →
    Completes .redClearCounters s (fun t =>
      t.rd Obj.red.switchovers = 0 ∧ t.rd Obj.red.takeovers = 0 ∧ t.rd Obj.red.detachedCycles = 0 ∧ t.rd Obj.red.pathFaults = 0 ∧
      t.rd Obj.red.rejoins = 0 ∧ t.rd Obj.red.unreplicated = 0 ∧ Accepted Obj.red.cmdStatus 1 0 s t ∧ KeepsSpaces [0x10] s t) ∧
    Completes .redRejoin s (fun t =>
      (if s.sys.mode ≠ .standby then Refused Obj.red.cmdStatus 2 Oc.wrongMode s t
       else if s.red.join.isSome ∨ s.red.rejoinDue.isSome then Refused Obj.red.cmdStatus 2 Oc.busy s t
       else Accepted Obj.red.cmdStatus 2 0 s t ∧ t.red.rejoinDue = some 3) ∧ Keeps [Obj.red.cmdStatus] s t) ∧
    Completes (.memoryScrub corrected) s (fun t =>
      t.red.dramErrs.head? = some (s.up, corrected) ∧ t.regs = s.regs) ∧
    Completes .ringLoopbackTest s (fun t =>
      t.red.loopBase.map Prod.fst = s.strings ∧
      (s.sys.mode = .standby →
        (∃ n ∈ s.strings, (s.ringX n).eff = Rs.closed ∧
          100 * ((s.portX n).loopbacks + (s.portX (256 + n)).loopbacks - (lookupD (0, 0) s.red.loopBase n).2) <
            99 * ((s.portX n).sent + (s.portX (256 + n)).sent - (lookupD (0, 0) s.red.loopBase n).1)) →
        t.red.testFailedAt = some s.up ∧ t.bit Obj.red.redFlags 4 = true) ∧ KeepsSpaces [0x10] s t) ∧
    (s.manager = true → s.owner = true → s.sys.mode ≠ .boot → 1 ≤ k.val → k.val ≤ s.redRec.workers →
      Completes (.dispatchSend k) s (fun t =>
        t.out = Out.worker k Mt.dispatch s.net.workerNo (leBytes (s.rd Obj.prot.cycleNo).toNat 4 ++ bytesOfWords (s.rdList (Obj.wk.wkDispOut k) 32)) :: s.out ∧
        (t.rd Obj.hier.dispatches).toNat = min 0xFFFFFFFF ((s.rd Obj.hier.dispatches).toNat + 1) ∧
        Keeps [Obj.wk.wkSent k, Obj.hier.dispatches] s t) ∧
      Completes (.workerPoll k) s (fun t =>
        t.out = Out.worker k Mt.read s.net.workerNo (leBytes Obj.hier.hierStatus 4 ++ leBytes 6 2 ++ leBytes 0 2) :: s.out ∧ t.regs = s.regs) ∧
      Completes (.workerPollReply k result) s fun t => t.red.due = s.red.due ++ [.poll k result] ∧ t.regs = s.regs) ∧
    (OpenSession s i → s.hasRight i Rt.w = true → words.length = 32 → s.role = 3 → s.owner = true → s.red.due = [] →
      (s.red.dispSeq.all fun no => noAbove seq.toNat no) = true → Completes (.dispatch i q seq words) s fun t =>
        t.red.due = [.dispatch seq words] ∧ Out.reply i q.client.toNat q.no.toNat Mt.dispatch 0 1 [] ∈ t.out ∧
        Keeps [Obj.net.requests, Obj.sess.sessRequests i] s t) ∧
    (s.role = 3 → s.dispState = 1 → Completes .dispatchHold s fun t =>
      t.dispState = 2 ∧ t.bit Obj.hier.hierFlags 0 = true ∧ Keeps [Obj.hier.hierStatus, Obj.hier.hierFlags] s t) ∧
    (s.role = 3 → s.dispState = 1 ∨ s.dispState = 2 → Completes .dispatchDefault s fun t =>
      t.dispState = 3 ∧ t.rdList Obj.hier.dispIn 32 = List.replicate 32 0 ∧ t.bit Obj.hier.hierFlags 1 = true ∧
      (t.rd Obj.hier.dispDefaults).toNat = min 0xFFFFFFFF ((s.rd Obj.hier.dispDefaults).toNat + 1) ∧ KeepsSpaces [0x10] s t)

/-! ### Rules of the whole machine -/

/-- The global cell index of a cell is string × 512 + position (R4): the index of a position that the string does not have addresses no
cell, and a command to it changes nothing. -/
def Obligations.AbsentCellsAddressNothing : Prop :=
  ∀ (s : State) (n : Fin 256) (k : Fin 512) (i : Fin 131072) (soc : BitVec 16) (cap : BitVec 24), Ready s →
    i.val = n.val * 512 + k.val → s.cellsOf n ≤ k.val →
    s.cellExists i = false ∧ Completes (.resetCov i) s (fun t => t = s) ∧ Completes (.setSoc i soc) s (fun t => t = s) ∧
    Completes (.cellClearCounters i) s (fun t => t = s) ∧ Completes (.resetScales i) s (fun t => t = s) ∧
    Completes (.resetCapacity i) s (fun t => t = s) ∧ Completes (.setCapacity i cap) s (fun t => t = s) ∧
    Completes (.clearLearning i) s fun t => t = s

/-- Every command leaves the requests in progress with identities that were given out, so that the next one is new (R490, R529). -/
def Obligations.RequestIdsStay : Prop :=
  ∀ (c : Instr) (s t : State), s.reqIdsOk = true → exec c s = .next t → t.reqIdsOk = true

/-- An SQ is on only while the island runs, no module-wide lockout stands, it is not latched, some string function lists it, and every
string function that lists it is RUNNING; one that no function lists is off (R331): no command of any kind leaves this rule. -/
def Obligations.SafetyOutputsOnlyWhen : Prop :=
  ∀ (c : Instr) (s t : State), s.sqRule → exec c s = .next t → t.sqRule
end

