-- ==== Sys2Proof/Laws/Bits.lean ====
section
/-!
SUPPORT. Fields of words: a field reads as written, and a write leaves the fields beside it alone.
-/

namespace Sys2Proof.Machine

/-- The number of a word with a field replaced, before it is taken modulo 2^32. -/
theorem putBits_toNat {hi lo : Nat} (h : lo ≤ hi) (h31 : hi ≤ 31) (v : Nat) (w : Word) :
    (putBits hi lo v w).toNat =
      w.toNat % 2 ^ lo + (v % 2 ^ (hi + 1 - lo)) * 2 ^ lo + w.toNat / 2 ^ (hi + 1) * 2 ^ (hi + 1) := by
  have hw : w.toNat < 2 ^ 32 := w.isLt
  have e1 : 2 ^ (hi + 1) = 2 ^ (hi + 1 - lo) * 2 ^ lo := by rw [← Nat.pow_add]; congr 1; omega
  have e2 : 2 ^ 32 = 2 ^ (31 - hi) * 2 ^ (hi + 1) := by rw [← Nat.pow_add]; congr 1; omega
  have p1 : 0 < 2 ^ lo := Nat.two_pow_pos _
  have p2 : 0 < 2 ^ (hi + 1) := Nat.two_pow_pos _
  have a1 : w.toNat % 2 ^ lo < 2 ^ lo := Nat.mod_lt _ p1
  have a2 : v % 2 ^ (hi + 1 - lo) < 2 ^ (hi + 1 - lo) := Nat.mod_lt _ (Nat.two_pow_pos _)
  have a3 : w.toNat / 2 ^ (hi + 1) < 2 ^ (31 - hi) := by
    rw [Nat.div_lt_iff_lt_mul p2, ← e2]; exact hw
  have b1 : (v % 2 ^ (hi + 1 - lo) + 1) * 2 ^ lo ≤ 2 ^ (hi + 1) := by
    rw [e1]; exact Nat.mul_le_mul_right _ a2
  have b2 : (w.toNat / 2 ^ (hi + 1) + 1) * 2 ^ (hi + 1) ≤ 2 ^ 32 := by
    rw [e2]; exact Nat.mul_le_mul_right _ a3
  simp only [putBits, w32, BitVec.toNat_ofNat]
  apply Nat.mod_eq_of_lt
  rw [Nat.add_mul] at b1 b2
  omega

/-- A field reads as written. -/
theorem bitsOf_putBits {hi lo : Nat} (h : lo ≤ hi) (h31 : hi ≤ 31) (v : Nat) (w : Word) :
    bitsOf hi lo (putBits hi lo v w) = v % 2 ^ (hi + 1 - lo) := by
  have e1 : 2 ^ (hi + 1) = 2 ^ (hi + 1 - lo) * 2 ^ lo := by rw [← Nat.pow_add]; congr 1; omega
  have p1 : 0 < 2 ^ lo := Nat.two_pow_pos _
  rw [bitsOf, putBits_toNat h h31]
  have : w.toNat % 2 ^ lo + v % 2 ^ (hi + 1 - lo) * 2 ^ lo + w.toNat / 2 ^ (hi + 1) * 2 ^ (hi + 1) =
      w.toNat % 2 ^ lo + (v % 2 ^ (hi + 1 - lo) + w.toNat / 2 ^ (hi + 1) * 2 ^ (hi + 1 - lo)) * 2 ^ lo := by
    rw [e1]; ring
  rw [this, Nat.add_mul_div_right _ _ p1, Nat.div_eq_of_lt (Nat.mod_lt _ p1), Nat.zero_add, Nat.add_mul_mod_self_right,
    Nat.mod_mod]

/-- A field above the one written is untouched. -/
theorem bitsOf_putBits_above {hi lo hi' lo' : Nat} (h : lo ≤ hi) (h31 : hi ≤ 31) (ha : hi < lo') (v : Nat) (w : Word) :
    bitsOf hi' lo' (putBits hi lo v w) = bitsOf hi' lo' w := by
  have e1 : 2 ^ (hi + 1) = 2 ^ (hi + 1 - lo) * 2 ^ lo := by rw [← Nat.pow_add]; congr 1; omega
  have e2 : 2 ^ lo' = 2 ^ (hi + 1) * 2 ^ (lo' - (hi + 1)) := by rw [← Nat.pow_add]; congr 1; omega
  have p1 : 0 < 2 ^ lo := Nat.two_pow_pos _
  have p2 : 0 < 2 ^ (hi + 1) := Nat.two_pow_pos _
  have a1 : w.toNat % 2 ^ lo < 2 ^ lo := Nat.mod_lt _ p1
  have a2 : v % 2 ^ (hi + 1 - lo) < 2 ^ (hi + 1 - lo) := Nat.mod_lt _ (Nat.two_pow_pos _)
  have b1 : (v % 2 ^ (hi + 1 - lo) + 1) * 2 ^ lo ≤ 2 ^ (hi + 1) := by
    rw [e1]; exact Nat.mul_le_mul_right _ a2
  rw [Nat.add_mul] at b1
  have hlt : w.toNat % 2 ^ lo + v % 2 ^ (hi + 1 - lo) * 2 ^ lo < 2 ^ (hi + 1) := by omega
  have : (putBits hi lo v w).toNat / 2 ^ lo' = w.toNat / 2 ^ lo' := by
    rw [putBits_toNat h h31, e2, ← Nat.div_div_eq_div_mul, ← Nat.div_div_eq_div_mul, Nat.add_mul_div_right _ _ p2,
      Nat.div_eq_of_lt hlt, Nat.zero_add]
  rw [bitsOf, this, bitsOf]

/-- A field below the one written is untouched. -/
theorem bitsOf_putBits_below {hi lo hi' lo' : Nat} (h : lo ≤ hi) (h31 : hi ≤ 31) (hl : lo' ≤ hi') (hb : hi' < lo) (v : Nat) (w : Word) :
    bitsOf hi' lo' (putBits hi lo v w) = bitsOf hi' lo' w := by
  have key : ∀ n m : Nat, n % 2 ^ lo = m % 2 ^ lo → n / 2 ^ lo' % 2 ^ (hi' + 1 - lo') = m / 2 ^ lo' % 2 ^ (hi' + 1 - lo') := by
    intro n m e
    have d : 2 ^ (hi' + 1) ∣ 2 ^ lo := Nat.pow_dvd_pow 2 (by omega)
    have e' : n % 2 ^ (hi' + 1) = m % 2 ^ (hi' + 1) := by
      rw [← Nat.mod_mod_of_dvd n d, e, Nat.mod_mod_of_dvd m d]
    have s : 2 ^ (hi' + 1) = 2 ^ lo' * 2 ^ (hi' + 1 - lo') := by rw [← Nat.pow_add]; congr 1; omega
    rw [← Nat.mod_mul_right_div_self, ← Nat.mod_mul_right_div_self, ← s, e']
  rw [bitsOf, bitsOf]
  apply key
  have e1 : 2 ^ (hi + 1) = 2 ^ (hi + 1 - lo) * 2 ^ lo := by rw [← Nat.pow_add]; congr 1; omega
  rw [putBits_toNat h h31]
  have : w.toNat % 2 ^ lo + v % 2 ^ (hi + 1 - lo) * 2 ^ lo + w.toNat / 2 ^ (hi + 1) * 2 ^ (hi + 1) =
      w.toNat % 2 ^ lo + (v % 2 ^ (hi + 1 - lo) + w.toNat / 2 ^ (hi + 1) * 2 ^ (hi + 1 - lo)) * 2 ^ lo := by
    rw [e1]; ring
  rw [this, Nat.add_mul_mod_self_right, Nat.mod_mod]

/-- A bit reads as written. -/
theorem bitAt_putBits_self {i : Nat} (h : i ≤ 31) (b : Bool) (w : Word) : bitAt i (putBits i i b.toNat w) = b := by
  rw [bitAt, bitsOf_putBits (Nat.le_refl i) h]
  cases b <;> simp [show i + 1 - i = 1 by omega]

/-- Another bit is untouched. -/
theorem bitAt_putBits_ne {i j : Nat} (h : i ≤ 31) (hne : j ≠ i) (v : Nat) (w : Word) : bitAt j (putBits i i v w) = bitAt j w := by
  rcases Nat.lt_or_gt_of_ne hne with g | g
  · rw [bitAt, bitsOf_putBits_below (Nat.le_refl i) h (Nat.le_refl j) g, bitAt]
  · rw [bitAt, bitsOf_putBits_above (Nat.le_refl i) h g, bitAt]

end Sys2Proof.Machine
end

