-- ==== Sys2Proof/Laws/Regs.lean ====
section
/-!
SUPPORT. The object store: a read gives what was last written to that item, a write leaves every other item alone, and every operation
keeps the canonical form.
-/

namespace Sys2Proof.Machine

theorem regFind_filter_ne {a b : Nat} (h : b ≠ a) (l : List (Nat × Word)) :
    regFind (l.filter fun x => x.1 != a) b = regFind l b := by
  induction l with
  | nil => rfl
  | cons x t ih =>
    by_cases hx : x.1 = a
    · have hb : a ≠ b := Ne.symm h
      simp [hx, regFind, ih, hb]
    · simp [hx, regFind, ih]

theorem regFind_filter_self (a : Nat) (l : List (Nat × Word)) : regFind (l.filter fun x => x.1 != a) a = none := by
  induction l with
  | nil => rfl
  | cons x t ih => by_cases hx : x.1 = a <;> simp [hx, regFind, ih]

theorem regFind_insert_self (a : Nat) (v : Word) (l : List (Nat × Word)) (h : regFind l a = none) :
    regFind (regInsert a v l) a = some v := by
  induction l with
  | nil => simp [regInsert, regFind]
  | cons x t ih =>
    obtain ⟨k, w⟩ := x
    by_cases hk : k = a
    · simp [regFind, hk] at h
    · by_cases ha : a < k
      · simp [regInsert, ha, regFind]
      · simp only [regFind, beq_iff_eq, hk, if_false] at h
        simp [regInsert, ha, regFind, hk, ih h]

theorem regFind_insert_ne {a b : Nat} (h : b ≠ a) (v : Word) (l : List (Nat × Word)) :
    regFind (regInsert a v l) b = regFind l b := by
  induction l with
  | nil => simp [regInsert, regFind, Ne.symm h]
  | cons x t ih =>
    obtain ⟨k, w⟩ := x
    by_cases ha : a < k
    · simp [regInsert, ha, regFind, Ne.symm h]
    · simp only [regInsert, ha, if_false, regFind, ih]

/-- A read gives what was last written. -/
@[simp] theorem State.rd_wr_self (a : Nat) (v : Word) (s : State) : (s.wr a v).rd a = v := by
  by_cases h : v = objReset a
  · simp [State.rd, State.wr, h, regPut, regFind_filter_self]
  · simp [State.rd, State.wr, h, regPut, regFind_insert_self a v _ (regFind_filter_self a _)]

/-- A write leaves every other item alone. -/
theorem State.rd_wr_ne {a b : Nat} (h : b ≠ a) (v : Word) (s : State) : (s.wr a v).rd b = s.rd b := by
  by_cases hv : v = objReset a <;> simp [State.rd, State.wr, hv, regPut, regFind_filter_ne h, regFind_insert_ne h]

theorem State.rd_wr (a b : Nat) (v : Word) (s : State) : (s.wr a v).rd b = if b = a then v else s.rd b := by
  by_cases h : b = a
  · simp [h]
  · simp [h, State.rd_wr_ne h]

/-! ### The canonical form -/

/-- Keys strictly above a bound. -/
def regsAbove (n : Nat) (l : List (Nat × Word)) : Prop := ∀ x ∈ l, n < x.1

theorem regsWf_cons {k : Nat} {v : Word} {t : List (Nat × Word)} :
    regsWf ((k, v) :: t) = true ↔ v ≠ objReset k ∧ regsAbove k t ∧ regsWf t = true := by
  induction t generalizing k v with
  | nil => simp [regsWf, regsAbove]
  | cons x t ih =>
    obtain ⟨k', v'⟩ := x
    have := @ih k' v'
    constructor
    · intro h
      simp only [regsWf, Bool.and_eq_true, decide_eq_true_eq, bne_iff_ne] at h
      have h2 := this.mp h.2
      refine ⟨h.1.2, ?_, h.2⟩
      intro y hy
      rcases List.mem_cons.mp hy with rfl | hy
      · exact h.1.1
      · exact Nat.lt_trans h.1.1 (h2.2.1 y hy)
    · rintro ⟨h1, h2, h3⟩
      simp only [regsWf, Bool.and_eq_true, decide_eq_true_eq, bne_iff_ne]
      exact ⟨⟨h2 (k', v') (List.mem_cons_self ..), h1⟩, h3⟩

theorem regsWf_filter (p : Nat × Word → Bool) {l : List (Nat × Word)} (h : regsWf l = true) : regsWf (l.filter p) = true := by
  induction l with
  | nil => simp [regsWf]
  | cons x t ih =>
    obtain ⟨k, v⟩ := x
    have ⟨h1, h2, h3⟩ := regsWf_cons.mp h
    by_cases hp : p (k, v) = true
    · rw [List.filter_cons_of_pos hp]
      exact regsWf_cons.mpr ⟨h1, fun y hy => h2 y ((List.mem_filter.mp hy).1), ih h3⟩
    · rw [List.filter_cons_of_neg hp]
      exact ih h3

theorem mem_regInsert {a : Nat} {v : Word} {l : List (Nat × Word)} {y : Nat × Word} (h : y ∈ regInsert a v l) : y = (a, v) ∨ y ∈ l := by
  induction l with
  | nil => simpa [regInsert] using h
  | cons x t ih =>
    obtain ⟨k, w⟩ := x
    by_cases ha : a < k
    · simp only [regInsert, ha, if_true, List.mem_cons] at h
      simpa using h
    · simp only [regInsert, ha, if_false, List.mem_cons] at h
      rcases h with h | h
      · simp [h]
      · rcases ih h with h | h <;> simp [h]

theorem regsWf_insert {a : Nat} {v : Word} (hv : v ≠ objReset a) {l : List (Nat × Word)} (h : regsWf l = true)
    (hn : ∀ x ∈ l, x.1 ≠ a) : regsWf (regInsert a v l) = true := by
  induction l with
  | nil => simp [regInsert, regsWf, hv]
  | cons x t ih =>
    obtain ⟨k, w⟩ := x
    have ⟨h1, h2, h3⟩ := regsWf_cons.mp h
    by_cases ha : a < k
    · simp only [regInsert, ha, if_true]
      refine regsWf_cons.mpr ⟨hv, ?_, h⟩
      intro y hy
      rcases List.mem_cons.mp hy with rfl | hy
      · exact ha
      · exact Nat.lt_trans ha (h2 y hy)
    · simp only [regInsert, ha, if_false]
      refine regsWf_cons.mpr ⟨h1, ?_, ih h3 fun y hy => hn y (List.mem_cons_of_mem _ hy)⟩
      intro y hy
      rcases mem_regInsert hy with rfl | hy
      · exact Nat.lt_of_le_of_ne (Nat.le_of_not_lt ha) (hn (k, w) (List.mem_cons_self ..))
      · exact h2 y hy

/-- A write keeps the canonical form. -/
theorem State.wr_wf (a : Nat) (v : Word) {s : State} (h : regsWf s.regs = true) : regsWf (s.wr a v).regs = true := by
  by_cases hv : v = objReset a
  · simp only [State.wr, hv, if_true, regPut]
    exact regsWf_filter _ h
  · simp only [State.wr, hv, if_false, regPut]
    refine regsWf_insert hv (regsWf_filter _ h) ?_
    intro x hx
    simpa using (List.mem_filter.mp hx).2

theorem State.wrList_wf (a : Nat) (l : List Word) {s : State} (h : regsWf s.regs = true) : regsWf (State.wrList a l s).regs = true := by
  induction l generalizing a s with
  | nil => exact h
  | cons w t ih => exact ih (a + 1) (State.wr_wf a w h)

theorem State.clearAll_wf (l : List Nat) {s : State} (h : regsWf s.regs = true) : regsWf (State.clearAll l s).regs = true := by
  induction l generalizing s with
  | nil => exact h
  | cons a t ih => exact ih (State.wr_wf a _ h)

/-- The state after reset is in canonical form. -/
theorem State.reset_wf : regsWf State.reset.regs = true := rfl

/-! ### Fields and counters -/

@[simp] theorem State.rd_count_self (a d : Nat) (s : State) : (s.count a d).rd a = w32 (satAdd 0xFFFFFFFF (s.rd a).toNat d) := by
  simp [State.count]

theorem State.rd_count_ne {a b : Nat} (h : b ≠ a) (d : Nat) (s : State) : (s.count a d).rd b = s.rd b := State.rd_wr_ne h _ s

@[simp] theorem State.rd_wrBits_self (a hi lo v : Nat) (s : State) : (s.wrBits a hi lo v).rd a = putBits hi lo v (s.rd a) := by
  simp [State.wrBits]

theorem State.rd_wrBits_ne {a b : Nat} (h : b ≠ a) (hi lo v : Nat) (s : State) : (s.wrBits a hi lo v).rd b = s.rd b :=
  State.rd_wr_ne h _ s

theorem State.rd_wrBit_ne {a b : Nat} (h : b ≠ a) (i : Nat) (v : Bool) (s : State) : (s.wrBit a i v).rd b = s.rd b :=
  State.rd_wr_ne h _ s

theorem State.rd_flag_ne {a b : Nat} (h : b ≠ a) (i : Nat) (s : State) : (s.flag a i).rd b = s.rd b := State.rd_wr_ne h _ s

@[simp] theorem State.rd_accept_self (st c o : Nat) (s : State) :
    (s.accept st c o).rd st = w32 ((s.bits st 31 16 + 1) % 65536 * 65536 + o * 256 + c) := by simp [State.accept]

theorem State.rd_accept_ne {a st : Nat} (h : a ≠ st) (c o : Nat) (s : State) : (s.accept st c o).rd a = s.rd a := State.rd_wr_ne h _ s

@[simp] theorem State.rd_refuse_self (st c o : Nat) (s : State) :
    (s.refuse st c o).rd st = w32 (s.bits st 31 16 * 65536 + o * 256 + c) := by simp [State.refuse]

theorem State.rd_refuse_ne {a st : Nat} (h : a ≠ st) (c o : Nat) (s : State) : (s.refuse st c o).rd a = s.rd a := State.rd_wr_ne h _ s

/-- Clearing a list of items puts each back at its reset value and leaves the others. -/
theorem State.rd_clearAll (l : List Nat) (b : Nat) (s : State) :
    (State.clearAll l s).rd b = if b ∈ l then objReset b else s.rd b := by
  induction l generalizing s with
  | nil => simp [State.clearAll]
  | cons a t ih =>
    simp only [State.clearAll, ih, State.rd_wr, List.mem_cons]
    by_cases hb : b = a
    · by_cases ht : b ∈ t <;> simp [hb]
    · simp [hb]

theorem State.bits_wrBits_self {hi lo : Nat} (h : lo ≤ hi) (h31 : hi ≤ 31) (a v : Nat) (s : State) :
    (s.wrBits a hi lo v).bits a hi lo = v % 2 ^ (hi + 1 - lo) := by
  simp [State.bits, bitsOf_putBits h h31]

@[simp] theorem State.bit_wrBit_self {i : Nat} (h : i ≤ 31) (a : Nat) (b : Bool) (s : State) : (s.wrBit a i b).bit a i = b := by
  simp [State.bit, State.wrBit, bitAt_putBits_self h]

theorem State.bit_wrBit_ne {i j : Nat} (h : i ≤ 31) (hne : j ≠ i) (a : Nat) (b : Bool) (s : State) :
    (s.wrBit a i b).bit a j = s.bit a j := by
  simp [State.bit, State.wrBit, bitAt_putBits_ne h hne]

@[simp] theorem State.bit_flag_self {i : Nat} (h : i ≤ 31) (a : Nat) (s : State) : (s.flag a i).bit a i = true :=
  State.bit_wrBit_self h a true s

theorem State.bit_wr_ne {a b : Nat} (h : b ≠ a) (v : Word) (i : Nat) (s : State) : (s.wr a v).bit b i = s.bit b i := by
  simp [State.bit, State.rd_wr_ne h]

theorem State.bits_wr_ne {a b : Nat} (h : b ≠ a) (v : Word) (hi lo : Nat) (s : State) : (s.wr a v).bits b hi lo = s.bits b hi lo := by
  simp [State.bits, State.rd_wr_ne h]

/-! ### Events -/

theorem State.rd_appendEvent (code inst : Nat) (p1 p2 p3 : Word) (s : State) {a : Nat} (h : recorderItem a = false) :
    (s.appendEvent code inst p1 p2 p3).rd a = s.rd a := by
  simp only [recorderItem, Bool.or_eq_false_iff, beq_eq_false_iff_ne] at h
  obtain ⟨⟨⟨h1, h2⟩, h3⟩, h4⟩ := h
  unfold State.appendEvent
  by_cases hc : (if reservedClass code = true then 65536 else 64512) ≤ s.rcd.unflushed
  · simp only [hc, if_true]
    rw [State.rd_flag_ne h2, State.rd_count_ne h1]; rfl
  · simp only [hc, if_false]
    rw [State.rd_count_ne h3]; rfl

theorem State.rd_raise_after (code inst : Nat) (s t : State) {a : Nat} (h : recorderItem a = false) :
    (State.raise.after code inst s t).rd a = t.rd a := by
  have h2 : a ≠ Obj.rcd.recFlags := by
    simp only [recorderItem, Bool.or_eq_false_iff, beq_eq_false_iff_ne] at h
    exact h.1.1.2
  unfold State.raise.after
  dsimp only
  split <;> split <;> simp only [State.rd_flag_ne h2, State.rd_appendEvent _ _ _ _ _ _ h]

/-- Raising an event leaves every object outside the recorder alone. -/
theorem State.rd_raise (code inst p1 p2 p3 : Nat) (s : State) {a : Nat} (h : recorderItem a = false) :
    (s.raise code inst p1 p2 p3).rd a = s.rd a := by
  have h4 : a ≠ Obj.rcd.merged := by
    simp only [recorderItem, Bool.or_eq_false_iff, beq_eq_false_iff_ne] at h
    exact h.2
  unfold State.raise
  split
  · dsimp only
    split
    · split
      · rw [State.rd_count_ne h4]; rfl
      · rw [State.rd_raise_after _ _ _ _ h, State.rd_appendEvent _ _ _ _ _ _ h]
    · rw [State.rd_raise_after _ _ _ _ h, State.rd_appendEvent _ _ _ _ _ _ h]
  · rfl

end Sys2Proof.Machine
end

