-- ==== Sys2Proof/Laws/State.lean ====
section
/-!
SUPPORT. What the updates of State leave alone, and what the wrapper of the meanings does.
-/

namespace Sys2Proof.Machine

/-! ### Objects under updates of other fields -/

@[simp] theorem State.rd_emit (o : Out) (s : State) (a : Nat) : (s.emit o).rd a = s.rd a := rfl
@[simp] theorem State.rd_modSys (f : Sys → Sys) (s : State) (a : Nat) : (s.modSys f).rd a = s.rd a := rfl
@[simp] theorem State.rd_modRed (f : RedUnit → RedUnit) (s : State) (a : Nat) : (s.modRed f).rd a = s.rd a := rfl
@[simp] theorem State.rd_modSched (f : SchedUnit → SchedUnit) (s : State) (a : Nat) : (s.modSched f).rd a = s.rd a := rfl
@[simp] theorem State.rd_modNet (f : NetUnit → NetUnit) (s : State) (a : Nat) : (s.modNet f).rd a = s.rd a := rfl
@[simp] theorem State.rd_modPwr (f : PwrUnit → PwrUnit) (s : State) (a : Nat) : (s.modPwr f).rd a = s.rd a := rfl
@[simp] theorem State.rd_modTime (f : TimeUnit → TimeUnit) (s : State) (a : Nat) : (s.modTime f).rd a = s.rd a := rfl
@[simp] theorem State.rd_modTherm (f : ThermUnit → ThermUnit) (s : State) (a : Nat) : (s.modTherm f).rd a = s.rd a := rfl
@[simp] theorem State.rd_modLearn (f : LearnUnit → LearnUnit) (s : State) (a : Nat) : (s.modLearn f).rd a = s.rd a := rfl
@[simp] theorem State.rd_modEst (f : EstUnit → EstUnit) (s : State) (a : Nat) : (s.modEst f).rd a = s.rd a := rfl
@[simp] theorem State.rd_modScan (f : ScanUnit → ScanUnit) (s : State) (a : Nat) : (s.modScan f).rd a = s.rd a := rfl
@[simp] theorem State.rd_modIo (f : IoUnit → IoUnit) (s : State) (a : Nat) : (s.modIo f).rd a = s.rd a := rfl
@[simp] theorem State.rd_modIsland (f : Island → Island) (s : State) (a : Nat) : (s.modIsland f).rd a = s.rd a := rfl
@[simp] theorem State.rd_modSec (f : SecUnit → SecUnit) (s : State) (a : Nat) : (s.modSec f).rd a = s.rd a := rfl
@[simp] theorem State.rd_modArc (f : ArcUnit → ArcUnit) (s : State) (a : Nat) : (s.modArc f).rd a = s.rd a := rfl
@[simp] theorem State.rd_modRcd (f : Recorder → Recorder) (s : State) (a : Nat) : (s.modRcd f).rd a = s.rd a := rfl
@[simp] theorem State.rd_xSend (m : XMsg) (s : State) (a : Nat) : (s.xSend m).rd a = s.rd a := rfl
@[simp] theorem State.rd_fresh (s : State) (a : Nat) : s.fresh.2.rd a = s.rd a := rfl

/-! ### The rest of the state under writes of objects -/

@[simp] theorem State.wr_sys (a : Nat) (v : Word) (s : State) : (s.wr a v).sys = s.sys := rfl
@[simp] theorem State.wr_now (a : Nat) (v : Word) (s : State) : (s.wr a v).now = s.now := rfl
@[simp] theorem State.wr_up (a : Nat) (v : Word) (s : State) : (s.wr a v).up = s.up := rfl
@[simp] theorem State.wr_pending (a : Nat) (v : Word) (s : State) : (s.wr a v).pending = s.pending := rfl
@[simp] theorem State.wr_cat (a : Nat) (v : Word) (s : State) : (s.wr a v).cat = s.cat := rfl
@[simp] theorem State.wr_red (a : Nat) (v : Word) (s : State) : (s.wr a v).red = s.red := rfl
@[simp] theorem State.wr_ring (a : Nat) (v : Word) (s : State) : (s.wr a v).ring = s.ring := rfl
@[simp] theorem State.wr_time (a : Nat) (v : Word) (s : State) : (s.wr a v).time = s.time := rfl
@[simp] theorem State.wr_net (a : Nat) (v : Word) (s : State) : (s.wr a v).net = s.net := rfl
@[simp] theorem State.wr_sched (a : Nat) (v : Word) (s : State) : (s.wr a v).sched = s.sched := rfl
@[simp] theorem State.modSys_sys (f : Sys → Sys) (s : State) : (s.modSys f).sys = f s.sys := rfl
@[simp] theorem State.modRed_red (f : RedUnit → RedUnit) (s : State) : (s.modRed f).red = f s.red := rfl
@[simp] theorem State.modRed_sys (f : RedUnit → RedUnit) (s : State) : (s.modRed f).sys = s.sys := rfl

theorem State.appendEvent_sys (code inst : Nat) (p1 p2 p3 : Word) (s : State) : (s.appendEvent code inst p1 p2 p3).sys = s.sys := by
  unfold State.appendEvent
  by_cases hc : (if reservedClass code = true then 65536 else 64512) ≤ s.rcd.unflushed <;> simp only [hc, if_true, if_false] <;> rfl

theorem State.raise_after_sys (code inst : Nat) (s t : State) : (State.raise.after code inst s t).sys = t.sys := by
  unfold State.raise.after
  dsimp only
  split <;> split <;> simp only [State.flag, State.wrBit, State.wrBits, State.wr_sys, State.appendEvent_sys]

@[simp] theorem State.raise_sys (code inst p1 p2 p3 : Nat) (s : State) : (s.raise code inst p1 p2 p3).sys = s.sys := by
  unfold State.raise
  split
  · dsimp only
    split
    · split
      · rfl
      · rw [State.raise_after_sys, State.appendEvent_sys]
    · rw [State.raise_after_sys, State.appendEvent_sys]
  · rfl

/-! ### The wrapper -/

/-- On an energised module `dark` is no change. -/
@[simp] theorem State.dark_of_powered {s : State} (h : s.sys.powered = true) : s.dark = s := by simp [State.dark, h]

@[simp] theorem State.rd_dark (s : State) (a : Nat) : s.dark.rd a = s.rd a := by
  unfold State.dark
  split <;> rfl

/-- What a meaning answers on a module that runs its firmware. -/
theorem State.live_ready {s : State} (h : Ready s) (f : State → State) : s.live f = .next (f s).dark := by
  simp [State.live, h.1, h.2]

theorem State.liveRom_ready {s : State} (h : Ready s) (f : State → State) : s.liveRom f = .next (f s).dark := by
  simp [State.liveRom, h.1]

/-- A meaning that is `live` completes with whatever holds of its effect. -/
theorem Completes.of_live {c : Instr} {s : State} {f : State → State} {P : State → Prop} (hc : exec c s = s.live f) (h : Ready s)
    (hp : P (f s).dark) : Completes c s P := ⟨_, by rw [hc, State.live_ready h], hp⟩

end Sys2Proof.Machine
end

