-- ==== Sys2Proof/WellFormed.lean ====
section
/-!
DEFINITION. Well-formed commands: operands that the interface they arrive on can carry. The meanings are total and ask for none of this;
the predicate says which commands the spec lets occur.
-/

namespace Sys2Proof

/-- A frame's payload is 0 to 496 bytes (R112, R113). -/
def NodeFrame.wf (f : NodeFrame) : Bool := decide (f.payload.length ≤ 496)

/-- A CAN frame carries as many data bytes as its length says, a remote frame none, and a length that ISO 11898-1 codes (R463, R469). -/
def CanFrame.wf (f : CanFrame) : Bool :=
  (if f.remote then f.data.isEmpty && decide (f.length.val ≤ 8) else f.data.length == f.length.val) &&
    (decide (f.length.val ≤ 8) || [12, 16, 20, 24, 32, 48, 64].contains f.length.val)

/-- Ring entries fill whole multiples of 8 bytes (R533, R534). -/
def ringEntryWf (e : List Byte) : Bool := e.length % 8 == 0 && !e.isEmpty

/-- Whether a command can arrive as it stands. -/
def Instr.wf : Instr → Bool
  | .measReceive f | .replyReceive f | .identReceive f | .capdataReceive f | .alertReceive f => NodeFrame.wf f
  | .canFrameReceive _ f _ => CanFrame.wf f
  | .moduleSensorRead l => l.length == 16
  | .catPageWrite _ _ _ b | .fwPageWrite _ _ _ b => b.length == 4096
  | .ringPut _ _ _ l => decide (1 ≤ l.length ∧ l.length ≤ 64) && l.all ringEntryWf
  | .write _ _ _ _ _ l => decide (1 ≤ l.length ∧ l.length ≤ 128)
  | .dispatch _ _ _ l => l.length == 32
  | .tiLine l => decide (l.length ≤ 82)
  | _ => true

end Sys2Proof
end

