-- ==== Sys2Proof/Tests/Slice0.lean ====
section
/-!
SUPPORT. Tests: ill-formed commands that WellFormed refuses, single steps, and, for each statement with hypotheses, a theorem that each
of its clauses has a state and operands that meet the hypotheses together.
-/

namespace Sys2Proof.Tests

open Sys2Proof Sys2Proof.Machine

set_option Elab.async false

/-! ### States -/

/-- A small Catalogue: string 3 of 4 cells with two nodes, one task. -/
def cat0 (role : Nat) : Catalogue where
  head := { catalogueId := 0x1234, revision := 1, imageLength := 4096, buildTime := 0, minFw := 0, structDigest := 1, retainDigest := 2,
            imageDigest := 3, safetyCrc := 7, progDigest := 5 }
  module_ := { autoRun := false, startKind := 0, partnerWait := 30, protPeriod := 1000, moduleGrace := 5 }
  redundancy := { role := role, healthMin := 80, hbTimeout := 1500, pairIndex := 0, workers := 0, dispatchHold := 10000, hierTimeout := 50000 }
  vitrine := { prot := 512, plant := 256, host := 1024, arch := 1024 }
  strings := [{ string := 3, cells := 4, chem := 0, scanHz := 10, estHz := 1, filter := 0, ratedCap := 280000, fastHz := 100, balance := false }]
  rings := [{ string := 3, nodes := 2, hostLoss := 1000, fibreM := 100, segMaxM := 100, asymW := 0, asymE := 0, txnTimeout := 20000 }]
  nodes := [{ string := 3, p := 1, kind := 1, firstCell := 0, cells := 4, temps := 2, auxType := 0, serial := 11 },
            { string := 3, p := 2, kind := 2, firstCell := 0, cells := 0, temps := 0, auxType := 0, serial := 12 }]
  groups := []
  chems := []
  thresholds := [{ string := 3, vWarnHi := 36000, vAlarmHi := 36500, vWarnLo := 25000, vAlarmLo := 24000, tWarnHi := 4500, tAlarmHi := 5500,
                   tWarnLo := 0, tAlarmLo := -1000, ror10 := 200, ror60 := 50, grace := 5, iChgMax := 280000, iDisMax := 280000 }]
  tasks := [{ task := 0, cls := 1, kind := 0, priority := 0, period := 10000, wcet := 100, eventSrc := 0, codeIndex := 0, core := 0 }]
  codes := []
  retained := []
  initial := []
  loops := []
  fieldIo := []
  curves := []
  can := []
  network := { ports := 3, speed := 1, ptpMode := 0, ptpStep := 0, domPrimary := 0, domSecondary := 1, ipv4 := 0, prefixLen := 24, ipv6 := [],
               gateway := 0, vlan := 0, exchPort := 4751, modbusPort := 502, reqDeadline := 2000, sessions := 8, ptpAsym := [] }
  archive := []
  ringAlloc := []
  safetyGlobal := { lockoutReset := 255, tripInputs := 0 }
  safetyStrings := []
  safetySi := []
  safetySq := []
  hasRetained := false

/-- A module with the small Catalogue, in a mode, everything else as after reset. -/
def baseS (role : Nat) (m : Mode) : State :=
  { State.reset with
    cat := { State.reset.cat with cat := some (cat0 role) }
    sys := { State.reset.sys with mode := m, trans := .none, cable := role != 0 }
    island := { State.reset.island with running := true }
    sched := { State.reset.sched with loaded := true }
    up := 777777777
    now := 123456789123456
    regs := [(0xe000800, 2), (0xe000880, 2), (0xe000900, 2), (0xe000980, 2), (0x16000000, 3)] }

/-- The state with its Catalogue changed. -/
def withCat (f : Catalogue → Catalogue) (s : State) : State := { s with cat := { s.cat with cat := s.cat.cat.map f } }

/-- In STOP and SOLO. -/
def stopS : State := baseS 0 .stop
def soloS : State := baseS 0 .solo

/-- A partner's heartbeat in a mode. -/
def beat (mode : Word) : PartnerBeat :=
  { mode := mode, health := 0x6464, healthWord := 0, fw := 0, catalogueId := 0x1234, revision := 1, structDigest := 1, retainDigest := 2,
    progDigest := 5, safetyCrc := 7, serial := 0, timeStatus := 0 }

/-- The active module of a pair in step, and its standby. -/
def actS : State :=
  let s := baseS 1 .active
  { s with
    sys := { s.sys with own := true, lockstep := true }
    red := { s.red with xAt := some s.up, ilAt := some s.up, found := true, heardBooted := true, partner := some (beat 0x75014), msgSeq := 30,
                        rxNext := some 1012, agreedAt := some s.up, pairKey := some [] }
    regs := [(0xe000800, 2), (0xe000880, 2), (0xe000900, 2), (0xe000980, 2), (0x10000000, 0x488f8050), (0x16000000, 3)] }
def stbS : State :=
  let s := baseS 1 .standby
  { s with
    sys := { s.sys with unitB := true, peerOwn := true, lockstep := true }
    red := { s.red with xAt := some s.up, ilAt := some s.up, found := true, heardBooted := true, partner := some (beat 0x79013), msgSeq := 1012,
                        rxNext := some 30, agreedAt := some s.up, pairKey := some [] }
    regs := [(0xe000800, 2), (0xe000880, 2), (0xe000900, 2), (0xe000980, 2), (0x10000000, 0x309f8050), (0x16000000, 3)] }

/-! ### WellFormed refuses -/

theorem test_wf_frame_too_long : (Instr.measReceive ⟨3, 0x81, 1, 2, 0, 77, List.replicate 497 0⟩).wf = false := by decide +kernel
theorem test_wf_can_data_short : (Instr.canFrameReceive 2 ⟨0x123, 8, false, false, List.replicate 7 0⟩ 5).wf = false := by decide +kernel
theorem test_wf_can_length_uncoded : (Instr.canFrameReceive 2 ⟨0x123, 9, false, false, List.replicate 9 0⟩ 5).wf = false := by decide +kernel
theorem test_wf_can_remote_data : (Instr.canFrameReceive 2 ⟨0x123, 1, true, false, [0]⟩ 5).wf = false := by decide +kernel
theorem test_wf_fifteen_sensors : (Instr.moduleSensorRead (List.replicate 15 0)).wf = false := by decide +kernel
theorem test_wf_page_short : (Instr.catPageWrite 2 ⟨7, 9⟩ 5 (List.replicate 4095 0)).wf = false := by decide +kernel
theorem test_wf_fw_page_short : (Instr.fwPageWrite 2 ⟨7, 9⟩ 5 (List.replicate 4095 0)).wf = false := by decide +kernel
theorem test_wf_ring_entry_odd : (Instr.ringPut 2 ⟨7, 9⟩ 12 [List.replicate 7 0]).wf = false := by decide +kernel
theorem test_wf_ring_no_entry : (Instr.ringPut 2 ⟨7, 9⟩ 12 []).wf = false := by decide +kernel
theorem test_wf_write_empty : (Instr.write 2 ⟨7, 9⟩ 0 0 0 []).wf = false := by decide +kernel
theorem test_wf_dispatch_short : (Instr.dispatch 2 ⟨7, 9⟩ 5 (List.replicate 31 0)).wf = false := by decide +kernel
theorem test_wf_line_long : (Instr.tiLine (List.replicate 83 0)).wf = false := by decide +kernel

/-! ### Single steps, expected values from the rules named -/

/-- The state after one command. -/
def after (c : Instr) (s : State) : State := match step { s with pending := [c] } with | .next t => t | _ => s

/-- An empty queue is one count of Short Time, 4 ns (R164). -/
theorem test_reset_idle : (match step State.reset with | .next s => s.now | _ => 0) = 4 := by decide +kernel
/-- MODE reads 0x0000_0100 at reset (R30). -/
theorem test_mode_at_reset : (State.reset.rd Obj.mod.mode) = 0x100 := by decide +kernel
/-- Input A falls absent: PWR_STATUS [0] clears, PWR_FLAGS [0] sets, input A of INPUT_LOSSES counts (R640, R647). -/
theorem test_input_absent : (let t := after (.inputAbsent false 7) stopS
    (t.bit Obj.pwr.pwrStatus 0, t.rd Obj.pwr.pwrFlags, t.rd Obj.pwr.inputLosses)) = (false, 1, 1) := by decide +kernel
/-- A silent port: SILENT sets (R86). -/
theorem test_port_silent : (after (.portSilent 3) stopS).bit (Obj.port.portStatus 3) 7 = true := by decide +kernel
/-- CMD_SERVICE in STOP enters SERVICE (R23). -/
theorem test_service : (after .cmdService stopS).sys.mode = .service := by decide +kernel
/-- SUPPLY_LOST de-energises the module (R23 (m)). -/
theorem test_supply_lost : (after (.supplyLost 0 0 0 none) actS).sys.powered = false := by decide +kernel
/-- CRC-32C of the nine digits is 0xE3069283 (the polynomial's check value, R115). -/
theorem test_crc32c : crc32c [0x31, 0x32, 0x33, 0x34, 0x35, 0x36, 0x37, 0x38, 0x39] = 0xE3069283 := by decide +kernel

/-! ### Witnesses: invariants of every command -/

theorem witness_DarkIsKept : ∃ s t : State, s.darkOk = true ∧ step s = .next t :=
  ⟨{ State.reset with sys := { State.reset.sys with powered := false, chargeWait := true }, pending := [.holdupCharged] }, _, by decide +kernel, rfl⟩

theorem witness_RequestIdsStay : ∃ (c : Instr) (s t : State), s.reqIdsOk = true ∧ exec c s = .next t :=
  ⟨.timeSave, stopS, _, by decide +kernel, rfl⟩

theorem witness_SafetyOutputsOnlyWhen : ∃ (c : Instr) (s t : State), s.sqRule ∧ exec c s = .next t :=
  ⟨.timeSave, stopS, _, by unfold State.sqRule; decide +kernel, rfl⟩


/-! ### Witnesses: power, modes, starts -/

namespace W2



theorem witness_SupplyAndHoldup :
    (∃ (s : State) (second : Bool), Ready s ∧ s.bit Obj.pwr.pwrStatus second.toNat = true) ∧
    (∃ (s : State) (second : Bool), Ready s ∧ s.bit Obj.pwr.pwrStatus second.toNat = false) ∧
    (∃ (s : State), Ready s) ∧
    (∃ (s : State), Ready s ∧ s.pwr.measuring = none) ∧
    (∃ (s : State), Ready s ∧ s.pwr.measuring.isSome = true) ∧
    (∃ (s : State), Ready s) :=
  ⟨⟨stopS, false, by unfold Ready; decide +kernel⟩,
    ⟨State.reset, false, by unfold Ready; decide +kernel⟩,
    ⟨State.reset, by unfold Ready; decide +kernel⟩,
    ⟨State.reset, by unfold Ready; decide +kernel⟩,
    ⟨{ stopS with pwr := { stopS.pwr with measuring := some false } }, by unfold Ready; decide +kernel⟩,
    ⟨State.reset, by unfold Ready; decide +kernel⟩⟩

theorem witness_ModuleThermal :
    (∃ (s : State) (i : Fin 16) (temp : BitVec 16), Ready s ∧ shutdownSensor i = true ∧ 12500 ≤ temp.toInt) ∧
    (∃ (s : State) (x : Fin 14), Ready s ∧ xingCounts x = true) ∧
    (∃ (s : State) (readings : List (BitVec 16)), Ready s ∧ readings.length = 16) ∧
    (∃ (s : State), Ready s ∧ s.therm.modGrace.isSome = true) :=
  ⟨⟨State.reset, 0, 13000, by unfold Ready; decide +kernel⟩,
    ⟨State.reset, 6, by unfold Ready; decide +kernel⟩,
    ⟨State.reset, (List.replicate 16 2500), by unfold Ready; decide +kernel⟩,
    ⟨(stopS.modTherm fun u => { u with modGrace := some 5 }), by unfold Ready; decide +kernel⟩⟩

theorem witness_ModeCommandsEnter :
(∃ (s : State), Ready s ∧ s.sys.trans = .none ∧ s.sys.mode = .stop ∧ s.sys.partnerWait = false ∧ s.catOf.isSome = true ∧ s.pairRole = false ∧
      (s.roleMismatch = false)) ∧
    (∃ (s : State), Ready s ∧ s.sys.trans = .none ∧ (s.sys.mode = .solo ∨ s.sys.mode = .standby ∨ s.sys.mode = .service ∨ s.sys.mode = .dormant)) ∧
    (∃ (s : State), Ready s ∧ s.sys.trans = .none ∧ (s.sys.mode = .stop ∨ s.sys.mode = .standby)) ∧
    (∃ (s : State), Ready s ∧ s.sys.trans = .none ∧ s.sys.mode = .service ∧ s.sys.serviceFrom = .stop) ∧
(∃ (s : State), Ready s ∧ s.sys.trans = .none ∧ s.sys.mode = .service ∧ s.sys.serviceFrom = .stop ∧ s.cat.activation = none ∧ s.upd.activation = none
      ∧ s.red.join = none) :=
  ⟨⟨stopS, by unfold Ready; decide +kernel⟩,
    ⟨soloS, by unfold Ready; decide +kernel⟩,
    ⟨stopS, by unfold Ready; decide +kernel⟩,
    ⟨(baseS 0 .service), by unfold Ready; decide +kernel⟩,
    ⟨(baseS 0 .service), by unfold Ready; decide +kernel⟩⟩

theorem witness_ModeTransitions :
    (∃ (s : State), Ready s ∧ s.sys.trans = .none ∧ s.sys.mode = .active ∧ s.maySwitch = true) ∧
    (∃ (s : State), Ready s ∧ s.sys.trans = .none ∧ s.sys.mode = .active ∧ s.maySwitch = false) ∧
    (∃ (s : State), Ready s ∧ s.sys.trans = .none ∧ (s.sys.mode = .solo ∨ s.sys.mode = .active) ∧ s.parkable = true) ∧
    (∃ (s : State), Ready s ∧ s.sys.trans = .none ∧ s.sys.mode = .dormant ∧ s.sys.wakeDue = false) ∧
    (∃ (s : State), Ready s ∧ s.sys.trans = .none ∧ (s.sys.mode = .stop ∨ s.sys.mode = .service)) ∧
(∃ (s : State), Ready s ∧ s.sys.partnerWait = true ∧ s.sys.mode = .stop ∧ s.catOf.isSome = true ∧ (s.roleMismatch = false) ∧ s.pairRole = true ∧
      s.partnerIn .active = false ∧ s.sys.own = false ∧ s.sys.peerOwn = false) ∧
    (∃ (s : State), Ready s ∧ s.red.ownAskAt.isSome = true ∧ s.sys.trans = .switchOver ∧ s.bits Obj.mod.cmdStatus 15 8 = 1) :=
  ⟨⟨((actS.wr Obj.mod.health 0x6464).modRed fun u => { u with partner := some (beat 0x74014) }), by unfold Ready; decide +kernel⟩,
    ⟨actS, by unfold Ready; decide +kernel⟩,
    ⟨(withCat (fun c => { c with strings := [] }) soloS), by unfold Ready; decide +kernel⟩,
    ⟨(baseS 0 .dormant), by unfold Ready; decide +kernel⟩,
    ⟨stopS, by unfold Ready; decide +kernel⟩,
    ⟨{ (baseS 1 .stop) with sys := { (baseS 1 .stop).sys with partnerWait := true } }, by unfold Ready; decide +kernel⟩,
    ⟨(({ stbS with sys := { stbS.sys with trans := .switchOver }, red := { stbS.red with ownAskAt := some 5 } }).wrBits Obj.mod.cmdStatus 15 8 1), by unfold Ready; decide +kernel⟩⟩

theorem witness_StartsAndStops :
    (∃ (s : State), s.sys.powered = false) ∧
    (∃ (s : State), s.sys.chargeWait = true) ∧
    (∃ (s : State), Ready s ∧ s.sys.mode = .boot) ∧
    (∃ (s : State), Ready s ∧ s.sys.trans = .warmRestart ∧ s.sys.restart.endRun = false) ∧
    (∃ (s : State), s.sys.powered = true ∧ s.sys.chargeWait = false) :=
  ⟨⟨{ State.reset with sys := { State.reset.sys with powered := false, chargeWait := true } }, by decide +kernel⟩,
    ⟨{ State.reset with sys := { State.reset.sys with powered := false, chargeWait := true } }, by decide +kernel⟩,
    ⟨State.reset, by unfold Ready; decide +kernel⟩,
    ⟨{ stopS with sys := { stopS.sys with trans := .warmRestart } }, by unfold Ready; decide +kernel⟩,
    ⟨State.reset, by decide +kernel⟩⟩

theorem witness_DarkAndRecovery :
    (∃ (s : State), s.sys.powered = false) ∧
    (∃ (s : State), s.sys.recovery = true) :=
  ⟨⟨{ State.reset with sys := { State.reset.sys with powered := false } }, by decide +kernel⟩,
    ⟨{ State.reset with sys := { State.reset.sys with recovery := true } }, by decide +kernel⟩⟩

theorem witness_ShortTimeNamesOneInstant :
    ∃ (a : Nat) (b : Nat), a / 4 < b / 4 + 2 ^ 32 ∧ b / 4 < a / 4 + 2 ^ 32 ∧ shortOf a = shortOf b :=
  ⟨7, 4, by decide +kernel⟩

end W2

/-! ### Witnesses: time -/

namespace W3

def tS : State := ((soloS.modTime fun u => { u with primary := { u.primary with heard := true, offset := 5000 }, ports := [(2, { PtpPort.initial with reqSeq := 9, reqSent := some 17, syncWait := some ⟨0, 5, 100, 3⟩, respWait := some (1,2,3,4) })], tiEdge := some 4 }).wrBit (Obj.nport.nportStatus 2) 2 true).wrBits (Obj.dom.domStatus 0) 19 16 2
def tS2 := (((tS.wrBits (Obj.dom.domStatus 0) 3 0 2).wrBits Obj.time.timeStatus 3 0 3).wrBit Obj.time.timeStatus 7 true).wr64 Obj.time.pendingOffset 3000000 |>.wrBits Obj.time.timeCfg 1 0 1
def tS3 := ((tS2.wrBits (Obj.port.portStatus 3) 3 0 3).setPortX 3 fun x => { x with reqs := 7 })
def tS5 := tS3.setCalX 3 fun x => { x with running := true, fail := some (2,1) }
def ann : PtpAnnounce := ⟨0,1,6,3,4,5,77,1,88,37⟩
def syn (b : Bool) : PtpSync := { domain := 0, seq := 5, twoStep := b, origin := 12345, correction := 3 }

theorem witness_PtpMessages :
(∃ (s : State) (i : Fin 8) (d : Nat) (a : PtpAnnounce), Ready s ∧ s.plantPort i = true ∧ s.domainOf a.domain.toNat = some d ∧ (∀ g ∈ (s.dom
      d).foreign, g.port = i.val)) ∧
(∃ (s : State) (i : Fin 8) (d : Nat) (m : PtpSync), Ready s ∧ s.plantPort i = true ∧ s.domainOf m.domain.toNat = some d ∧ s.slavePort d = i.val ∧
      m.twoStep = false) ∧
(∃ (s : State) (i : Fin 8) (d : Nat) (m : PtpSync), Ready s ∧ s.plantPort i = true ∧ s.domainOf m.domain.toNat = some d ∧ s.slavePort d = i.val ∧
      m.twoStep = true) ∧
(∃ (s : State) (i : Fin 8) (d : Nat) (m : PtpSync) (w : SyncWait), Ready s ∧ s.plantPort i = true ∧ (s.ptpPort i).syncWait = some w ∧ w.domain =
      m.domain.toNat ∧ w.seq = m.seq.toNat ∧ s.domainOf m.domain.toNat = some d ∧ s.slavePort d = i.val) ∧
    (∃ (s : State) (i : Fin 8), Ready s ∧ s.plantPort i = true) ∧
(∃ (s : State) (i : Fin 8) (seq : BitVec 16) (t1 : Nat), Ready s ∧ s.plantPort i = true ∧ (s.ptpPort i).reqSent = some t1 ∧ (s.ptpPort i).reqSeq =
      seq.toNat) ∧
(∃ (s : State) (i : Fin 8) (seq : BitVec 16) (t1 : Nat) (t2 : Nat) (t4 : Nat) (c : Int), Ready s ∧ s.plantPort i = true ∧ (s.ptpPort i).respWait =
      some (t1, t4, t2, c) ∧ (s.ptpPort i).reqSeq = seq.toNat) :=
  ⟨⟨tS, 2, 0, ann, by unfold Ready; decide +kernel⟩,
    ⟨tS, 2, 0, (syn false), by unfold Ready; decide +kernel⟩,
    ⟨tS, 2, 0, (syn true), by unfold Ready; decide +kernel⟩,
    ⟨tS, 2, 0, (syn false), ⟨0, 5, 100, 3⟩, by unfold Ready; decide +kernel⟩,
    ⟨tS, 2, by unfold Ready; decide +kernel⟩,
    ⟨tS, 2, 9, 17, by unfold Ready; decide +kernel⟩,
    ⟨tS, 2, 9, 1, 3, 2, 4, by unfold Ready; decide +kernel⟩⟩

theorem witness_TimeSources :
    (∃ (s : State) (d : Fin 2), Ready s ∧ (s.dom d).heard = true) ∧
    (∃ (s : State) (d : Fin 2), Ready s ∧ s.bits (Obj.dom.domStatus d) 3 0 ≠ 0 ∧ s.bits (Obj.dom.domStatus d) 3 0 ≠ 3) ∧
    (∃ (s : State), Ready s) ∧
    (∃ (s : State), Ready s ∧ s.followsLeader = true) ∧
    (∃ (s : State), Ready s ∧ s.timeState = 3) :=
  ⟨⟨tS, 0, by unfold Ready; decide +kernel⟩,
    ⟨tS2, 0, by unfold Ready; decide +kernel⟩,
    ⟨State.reset, by unfold Ready; decide +kernel⟩,
    ⟨(stbS.wrBit Obj.time.timeStatus 8 true), by unfold Ready; decide +kernel⟩,
    ⟨tS2, by unfold Ready; decide +kernel⟩⟩

theorem witness_TimeCommands :
    (∃ (s : State), Ready s ∧ s.bit Obj.time.timeStatus 7 = true ∧ 0 ≤ signedOf 64 (s.rd64 Obj.time.pendingOffset)) ∧
    (∃ (s : State), Ready s ∧ s.bit Obj.time.timeStatus 7 = true ∧ signedOf 64 (s.rd64 Obj.time.pendingOffset) < 0) ∧
    (∃ (s : State), Ready s ∧ s.bit Obj.time.timeStatus 7 = true ∧ signedOf 64 (s.rd64 Obj.time.pendingOffset) ≠ 0) ∧
    (∃ (s : State), Ready s ∧ s.bit Obj.time.timeStatus 7 = false) ∧
    (∃ (s : State), Ready s) ∧
    (∃ (s : State) (n : Fin 65536), Ready s ∧ s.leader = true ∧ s.hasString n = true ∧ (s.calX n).running = false ∧ n.val ≠ 0xFFFF) ∧
    (∃ (s : State) (n : Fin 65536), Ready s ∧ s.hasString n = false ∧ n.val ≠ 0xFFFF) :=
  ⟨⟨tS2, by unfold Ready; decide +kernel⟩,
    ⟨((tS2.wr Obj.time.pendingOffset 0xFFFFFFFF).wr (Obj.time.pendingOffset + 1) 0xFFFFFFFF), by unfold Ready; decide +kernel⟩,
    ⟨tS2, by unfold Ready; decide +kernel⟩,
    ⟨State.reset, by unfold Ready; decide +kernel⟩,
    ⟨State.reset, by unfold Ready; decide +kernel⟩,
    ⟨stopS, 3, by unfold Ready; decide +kernel⟩,
    ⟨State.reset, 3, by unfold Ready; decide +kernel⟩⟩

theorem witness_RingTimeAndCalibration :
    (∃ (s : State) (i : Fin 512), Ready s ∧ s.link i = Link.up ∧ s.portEnabled i = true) ∧
    (∃ (s : State) (i : Fin 512), Ready s ∧ s.link i = Link.up) ∧
    (∃ (s : State) (i : Fin 512) (count : Fin 32), Ready s ∧ s.link i = Link.up ∧ (s.portX i).reqs % 32 = count) ∧
    (∃ (s : State) (n : Fin 256), Ready s ∧ s.leader = true ∧ s.hasString n = true ∧ (s.calX n).running = false) ∧
    (∃ (s : State) (n : Fin 256), Ready s ∧ s.leader = true ∧ s.hasString n = true ∧ (s.calX n).running = false ∧ (s.calX n).retryDue = true) ∧
(∃ (s : State) (n : Fin 256), Ready s ∧ (s.calX n).running = true ∧ (s.calX n).fail = none ∧ (∀ p ∈ s.reaching n, (s.calX n).written.contains p = true
      ∧ (s.nodeX (nodeInst n p)).timeLocked = true)) ∧
    (∃ (s : State) (n : Fin 256) (f : Nat × Nat), Ready s ∧ (s.calX n).running = true ∧ (s.calX n).fail = some f) :=
  ⟨⟨tS3, 3, by unfold Ready; decide +kernel⟩,
    ⟨tS3, 3, by unfold Ready; decide +kernel⟩,
    ⟨tS3, 3, 7, by unfold Ready; decide +kernel⟩,
    ⟨stopS, 3, by unfold Ready; decide +kernel⟩,
    ⟨(soloS.setCalX 3 fun x => { x with retryDue := true }), 3, by unfold Ready; decide +kernel⟩,
    ⟨(((soloS.setCalX 3 fun x => { x with running := true, written := [1, 2] }).setNodeX (nodeInst 3 1) fun x => { x with timeLocked := true }).setNodeX (nodeInst 3 2) fun x => { x with timeLocked := true }), 3, by unfold Ready; decide +kernel⟩,
    ⟨tS5, 3, (2,1), by unfold Ready; decide +kernel⟩⟩

theorem witness_TimeInputOutput :
    (∃ (s : State), Ready s ∧ s.timeState ≠ 0) ∧
    (∃ (s : State), Ready s ∧ s.bits Obj.time.timeCfg 1 0 ≠ 0) ∧
(∃ (s : State) (text : List Byte) (n : Nat) (e : Nat), Ready s ∧ s.bits Obj.time.timeCfg 1 0 ≠ 0 ∧ lineSecond text = some n ∧ s.time.tiEdge = some e) ∧
    (∃ (s : State) (text : List Byte), Ready s ∧ s.bits Obj.time.timeCfg 1 0 ≠ 0 ∧ lineSecond text = none) ∧
    (∃ (s : State), Ready s) :=
  ⟨⟨tS2, by unfold Ready; decide +kernel⟩,
    ⟨tS2, by unfold Ready; decide +kernel⟩,
    ⟨tS2, (todLine 5 0 1), 5, 4, by unfold Ready; decide +kernel⟩,
    ⟨tS2, [1,2], by unfold Ready; decide +kernel⟩,
    ⟨State.reset, by unfold Ready; decide +kernel⟩⟩

end W3

/-! ### Witnesses: rings -/

namespace W4

def rS : State := ((((soloS.wrBits (Obj.port.portStatus 3) 3 0 3).wrBits (Obj.port.ring 3) 3 0 2).wrBits (Obj.port.ring 3) 13 8 2).wrBits (Obj.port.ring 3) 21 16 3)
def rq : RingReq := { id := 5, string := 3, opcode := 1, prio := 2, scope := .single, target := 1, payload := [], owner := .module_, ports := [3], host := none }
def tx : Txn := { req := rq, seq := 77, ports := [3], sentAt := 0, attempts := 1, expect := [1], got := [], bad := 0 }
def sq0 : Snap := ⟨77, 1000, false, []⟩
def rS2 : State := ({ rS with ring := { rS.ring with txns := [tx] }, out := [.ringFrame 259 { prio := 1, scope := 0, retry := false, opcode := 0x81, target := 1, seq := 77, payload := [] }] }).setStrX 3 fun y => { y with snaps := [sq0] }
def rS3 : State := (rS.setPortX 3 fun x => { x with hb := some ⟨false, 2⟩, reach := some ⟨false, 2⟩ }).setPortX 259 fun x => { x with reach := some ⟨false, 2⟩ }
def rl (l : Nat) (s : State) : State := s.wrBits (Obj.port.portStatus 3) 3 0 l
def fr : NodeFrame := ⟨3, 0x81, 1, 2, 0, 77, List.replicate 32 0x11⟩
def nr1 : NodeRec := { string := 3, p := 1, kind := 1, firstCell := 0, cells := 4, temps := 2, auxType := 0, serial := 11 }
def g0 : RingFrame := { prio := 1, scope := 0, retry := false, opcode := 0x81, target := 1, seq := 77, payload := [] }

theorem witness_RingPortLife :
    (∃ (s : State) (i : Fin 512), Ready s ∧ s.link i = Link.up ∧ s.portEnabled i = true) ∧
    (∃ (s : State) (i : Fin 512), Ready s ∧ s.link i = Link.up) ∧
    (∃ (s : State) (i : Fin 512), Ready s ∧ s.bit (Obj.port.portStatus i) 7 = false) ∧
    (∃ (s : State) (i : Fin 512), Ready s ∧ s.bit (Obj.port.portStatus i) 7 = true) ∧
    (∃ (s : State) (i : Fin 512), Ready s ∧ s.bit (Obj.port.portStatus i) 8 = true) ∧
    (∃ (s : State) (i : Fin 512), Ready s ∧ s.link i = Link.training) ∧
    (∃ (s : State), Ready s) :=
  ⟨⟨rS, 3, by unfold Ready; decide +kernel⟩,
    ⟨rS, 3, by unfold Ready; decide +kernel⟩,
    ⟨State.reset, 3, by unfold Ready; decide +kernel⟩,
    ⟨(rl 2 (rS.flag (Obj.port.portStatus 3) 7)), 3, by unfold Ready; decide +kernel⟩,
    ⟨(rS3.wrBits (Obj.port.ring 3) 3 0 5).flag (Obj.port.portStatus 3) 8, 3, by unfold Ready; decide +kernel⟩,
    ⟨(rl 2 (rS.flag (Obj.port.portStatus 3) 7)), 3, by unfold Ready; decide +kernel⟩,
    ⟨State.reset, by unfold Ready; decide +kernel⟩⟩

theorem witness_SilencePortEvents :
    (∃ (s : State) (i : Fin 512), Ready s ∧ s.rcd.unflushed = 0 ∧ s.rcd.buffer = [] ∧ s.bit (Obj.port.portStatus i) 7 = false) ∧
    (∃ (s : State) (i : Fin 512), Ready s ∧ s.rcd.unflushed = 0 ∧ s.rcd.buffer = [] ∧ s.link i = Link.up ∧ s.bit (Obj.port.portStatus i) 7 = true) :=
  ⟨⟨State.reset, 3, by unfold Ready; decide +kernel⟩,
    ⟨{ rS.flag (Obj.port.portStatus 3) 7 with rcd := State.reset.rcd }, 3, by unfold Ready; decide +kernel⟩⟩

theorem witness_RingPortErrors :
    (∃ (s : State) (i : Fin 512) (place : SymbolPlace), Ready s ∧ s.link i = Link.up ∧ place ≠ .misaligned) ∧
    (∃ (s : State) (i : Fin 512), Ready s ∧ s.bit (Obj.port.portStatus i) 6 = false) ∧
    (∃ (s : State) (i : Fin 512), Ready s ∧ s.bit (Obj.port.portStatus i) 6 = true) ∧
    (∃ (s : State), Ready s) ∧
    (∃ (s : State) (i : Fin 512), Ready s ∧ s.link i = Link.up) :=
  ⟨⟨rS, 3, .orderedSet, by unfold Ready; decide +kernel⟩,
    ⟨State.reset, 3, by unfold Ready; decide +kernel⟩,
    ⟨(rl 1 (rS.flag (Obj.port.portStatus 3) 6)), 3, by unfold Ready; decide +kernel⟩,
    ⟨State.reset, by unfold Ready; decide +kernel⟩,
    ⟨rS, 3, by unfold Ready; decide +kernel⟩⟩

theorem witness_RingPortCommands :
    (∃ (s : State) (i : Fin 512), Ready s ∧ s.hasString (i % 256) = true ∧ s.link i ≠ Link.retired) ∧
    (∃ (s : State) (i : Fin 512), Ready s ∧ s.hasString (i % 256) = false) ∧
    (∃ (s : State) (i : Fin 512), Ready s ∧ s.hasString (i % 256) = true ∧ s.link i = Link.retired) ∧
    (∃ (s : State) (i : Fin 512), Ready s ∧ s.link i = Link.selfTest) ∧
    (∃ (s : State) (i : Fin 512), Ready s ∧ s.hasString (i % 256) = true ∧ s.link i = Link.up ∧ s.bits (Obj.port.score i) 15 0 ≤ 900) ∧
    (∃ (s : State) (i : Fin 512), Ready s ∧ s.hasString (i % 256) = true) ∧
    (∃ (s : State), Ready s) ∧
    (∃ (s : State) (i : Fin 512), Ready s ∧ s.link i = Link.training) ∧
    (∃ (s : State) (i : Fin 512), Ready s ∧ s.bit (Obj.port.portStatus i) 6 = true ∧ s.link i = Link.dark) ∧
(∃ (s : State) (n : Fin 256), Ready s ∧ s.hasString n = true ∧ bothClosed (s.ringN n) (s.portX n).reach (s.portX (256 + n)).reach = true ∧ s.ringState
      n ≠ Rs.miswired) ∧
(∃ (s : State) (n : Fin 256), Ready s ∧ s.ringState n = Rs.miswired ∧ hbMiswired (s.ringN n) (s.portX n).reach = false ∧ hbMiswired (s.ringN n)
      (s.portX (256 + n)).reach = false) :=
  ⟨⟨stopS, 3, by unfold Ready; decide +kernel⟩,
    ⟨State.reset, 3, by unfold Ready; decide +kernel⟩,
    ⟨(rl 4 rS), 3, by unfold Ready; decide +kernel⟩,
    ⟨(rl 5 rS), 3, by unfold Ready; decide +kernel⟩,
    ⟨rS, 3, by unfold Ready; decide +kernel⟩,
    ⟨stopS, 3, by unfold Ready; decide +kernel⟩,
    ⟨State.reset, by unfold Ready; decide +kernel⟩,
    ⟨(rl 2 (rS.flag (Obj.port.portStatus 3) 7)), 3, by unfold Ready; decide +kernel⟩,
    ⟨(rl 1 (rS.flag (Obj.port.portStatus 3) 6)), 3, by unfold Ready; decide +kernel⟩,
    ⟨rS3, 3, by unfold Ready; decide +kernel⟩,
    ⟨(rS3.wrBits (Obj.port.ring 3) 3 0 5).flag (Obj.port.portStatus 3) 8, 3, by unfold Ready; decide +kernel⟩⟩

theorem witness_TransactionEnds :
(∃ (s : State) (id : Nat) (x : Txn), Ready s ∧ s.txn id = some x ∧ x.attempts < 4 ∧ x.ports.filter (s.portsFor x.req.string x.req.scope
      x.req.target).contains ≠ []) ∧
    (∃ (s : State) (id : Nat) (x : Txn), Ready s ∧ s.txn id = some x) :=
  ⟨⟨rS2, 5, tx, by unfold Ready; decide +kernel⟩,
    ⟨rS2, 5, tx, by unfold Ready; decide +kernel⟩⟩

theorem witness_NodeFramesAndCommands :
(∃ (s : State) (f : NodeFrame) (x : Txn), Ready s ∧ s.link f.port = Link.up ∧ s.hasString (f.port % 256) = true ∧ s.frameLocated f = true ∧
      s.ring.txns.find? (replyMatches (f.port % 256) (senderOf (s.ringN (f.port % 256)) f) f) = some x ∧ x.expect = [senderOf (s.ringN (f.port % 256))
      f]) ∧
(∃ (s : State) (f : NodeFrame) (r : NodeRec), Ready s ∧ s.link f.port = Link.up ∧ s.hasString (f.port % 256) = true ∧ s.frameLocated f = true ∧
      s.nodeRec (f.port % 256) (senderOf (s.ringN (f.port % 256)) f) = some r) ∧
(∃ (s : State) (f : NodeFrame), Ready s ∧ s.link f.port = Link.up ∧ s.hasString (f.port % 256) = true ∧ s.frameLocated f = true ∧ (s.nodeX (nodeInst
      (f.port % 256) (senderOf (s.ringN (f.port % 256)) f))).alerts.contains f.seq.toNat = false) ∧
(∃ (s : State) (f : NodeFrame) (r : NodeRec) (q : Snap), Ready s ∧ s.link f.port = Link.up ∧ s.hasString (f.port % 256) = true ∧ s.frameLocated f =
      true ∧ (s.ringX (f.port % 256)).eff ≠ Rs.miswired ∧ s.nodeRec (f.port % 256) (senderOf (s.ringN (f.port % 256)) f) = some r ∧ (s.strX (f.port %
      256)).snaps.find? (fun q => q.no == f.seq.toNat) = some q ∧ q.samples.find? (fun y => y.p == senderOf (s.ringN (f.port % 256)) f) = none ∧
      s.copiesNeeded (f.port % 256) (senderOf (s.ringN (f.port % 256)) f) ≠ 1) ∧
(∃ (s : State) (f : NodeFrame) (g : RingFrame), Ready s ∧ s.link f.port = Link.up ∧ Out.ringFrame (if f.port.val < 256 then f.port.val + 256 else
      f.port.val - 256) g ∈ s.out ∧ g.seq = f.seq ∧ g.opcode = f.opcode.toNat) ∧
(∃ (s : State) (n : NodeId) (r : NodeRec), Ready s ∧ s.nodeRec n.string n.p = some r ∧ s.ring.results = [] ∧ s.portsFor n.string .single n.p ≠ [] ∧ (∀
      i ∈ s.portsFor n.string .single n.p, s.queuedOn i < 256)) ∧
(∃ (s : State) (n : NodeId) (r : NodeRec), Ready s ∧ s.nodeRec n.string n.p = some r ∧ s.ring.results = [] ∧ s.portsFor n.string .single n.p ≠ [] ∧ (∀
      i ∈ s.portsFor n.string .single n.p, s.queuedOn i < 256) ∧ (s.nodeX (nodeInst n.string n.p)).mismatched = false) ∧
(∃ (s : State) (n : NodeId) (r : NodeRec), Ready s ∧ s.nodeRec n.string n.p = some r ∧ s.ring.results = [] ∧ s.portsFor n.string .single n.p ≠ [] ∧ (∀
      i ∈ s.portsFor n.string .single n.p, s.queuedOn i < 256)) ∧
    (∃ (s : State) (n : NodeId) (r : NodeRec), Ready s ∧ s.nodeRec n.string n.p = some r ∧ s.ring.results = []) :=
  ⟨⟨rS2, fr, tx, by unfold Ready; decide +kernel⟩,
    ⟨rS, fr, nr1, by unfold Ready; decide +kernel⟩,
    ⟨rS, fr, by unfold Ready; decide +kernel⟩,
    ⟨rS2, fr, nr1, sq0, by unfold Ready; decide +kernel⟩,
    ⟨rS2, fr, g0, by unfold Ready; decide +kernel⟩,
    ⟨rS, ⟨3, 1⟩, nr1, by unfold Ready; decide +kernel⟩,
    ⟨rS, ⟨3, 1⟩, nr1, by unfold Ready; decide +kernel⟩,
    ⟨rS, ⟨3, 1⟩, nr1, by unfold Ready; decide +kernel⟩,
    ⟨stopS, ⟨3, 1⟩, nr1, by unfold Ready; decide +kernel⟩⟩

end W4

/-! ### Witnesses: the exchange -/

namespace W5

def wCat (s : State) (f : Catalogue → Catalogue) : State := { s with cat := { s.cat with cat := s.cat.cat.map f } }
def ra : RingAllocRec := { first := 10, count := 4, cls := 2, entry := 2, depth := 8, pin := false }
def xs0 : State := (wCat soloS fun c => { c with ringAlloc := [ra] }).modNet fun u => { u with sessions := [(64, { port := 8, identity := false, granted := 31, anchors := [], client := 0, lastAt := 0 })] }
def xs1 : State := xs0.wr (Obj.sess.sessStatus 64) (w32 (0x1F00 + 8*16 + 2))
def xs2 : State := xs1.modNet fun u => { u with modbus := [2], vit := { u.vit with held := [{ ring := 12, cls := 2, op := .info, user := .module_, result := some (0, []), at_ := 0 }] }, reqs := [{ id := 4, dest := .session 64, client := 7, no := 9, type := 4, at_ := 0, addr := 0, multi := false, pairAgreed := false, committed := false, discarded := false, left := 1, accepted := 0, refused := 0, first := none, ready := none, waiters := [] }], subs := [], forwards := [⟨5, 7, 4, 3, 1, 1⟩] }
def xs3 : State := xs2.modNet fun u => { u with vit := { u.vit with held := u.vit.held.map fun o => { o with user := .host 4 }, waiting := [{ ring := 12, cls := 2, op := .info, user := .module_, result := none, at_ := 0 }] }, reqs := u.reqs.map fun r => { r with ready := some (0, []) } }
def xs3b : State := xs3.modNet fun u => { u with vit := { u.vit with waiting := [] } }
def xs4 : State := (((wCat xs1 fun c => { c with redundancy := { c.redundancy with role := 2, workers := 9 }, network := { c.network with modbusPort := 502 } }).modSys fun y => { y with own := true }).wrBit (Obj.nport.nportStatus 2) 2 true)
def xs5 : State := ((xs4.wrBit (Obj.nport.nportStatus 2) 3 true).wr Obj.net.netCfg 0x323C0001).modNet fun u => { u with modbus := [2] }
def subf : SubFields := { ring := 11, fromSeq := 0, provisional := false, ipv6 := false, lease := 2, port := 1, dest := 2 }
def xs6 : State := xs1.modNet fun u => { u with subs := [{ id := 3, client := 7, fields := subf, attachment := 0, key := [], next := 0, epoch := 0, lastSample := none, leaseEnd := 0 }] }
def ch : ClientChain := { length := 1, selfSigned := true, topKey := [], signatures := true, notBefore := 0, notAfter := 0xFFFFFFFFFFFFFFFF, usage := true }
def q0 : ReqHead := ⟨7, 9⟩
def sx0 : SessX := { port := 8, identity := false, granted := 31, anchors := [], client := 0, lastAt := 0 }

theorem witness_SessionsOpenAndEnd :
(∃ (s : State) (port : Fin 9) (chain : ClientChain) (k : Nat) (rights : Nat) (anchors : List Nat), Ready s ∧ s.sys.mode ≠ .boot ∧ (s.plantPort port =
      true ∨ port.val = 8) ∧ s.chainGrant port chain = .inr (rights, anchors) ∧ (if port.val = 8 then (List.range 4).map (· + 64) else List.range
      (match s.catOf with | some r => r.network.sessions | none => 16)).find? (fun j => (s.sessX j).isNone) = some k) ∧
    (∃ (s : State) (i : Fin 68) (x : SessX), Ready s ∧ s.sessX i = some x ∧ s.sessState i ≠ 2) ∧
    (∃ (s : State) (i : Fin 68), Ready s ∧ OpenSession s i) ∧
    (∃ (s : State) (i : Fin 68), Ready s ∧ (s.sessX i).isSome = true) ∧
    (∃ (s : State) (i : Fin 68), Ready s ∧ (s.sessX i).isSome = false) ∧
    (∃ (s : State), Ready s) :=
  ⟨⟨stopS, 8, ch, 64, 15, [], by unfold Ready; decide +kernel⟩,
    ⟨xs0, 64, sx0, by unfold Ready; decide +kernel⟩,
    ⟨xs1, 64, by unfold Ready OpenSession; decide +kernel⟩,
    ⟨xs0, 64, by unfold Ready; decide +kernel⟩,
    ⟨State.reset, 64, by unfold Ready; decide +kernel⟩,
    ⟨State.reset, by unfold Ready; decide +kernel⟩⟩

theorem witness_MessagesAnswered :
    (∃ (s : State) (i : Fin 68), Ready s ∧ OpenSession s i) ∧
(∃ (s : State) (u : State) (i : Fin 68) (q : ReqHead) (addr : BitVec 32) (count : BitVec 16) (l : List Word), Ready s ∧ OpenSession s i ∧ s.hasRight i
      Rt.r = true ∧ count ≠ 0 ∧ addr.toNat % 128 + count.toNat ≤ 128 ∧ (s.heard i q).readItems i ((List.range count.toNat).map (addr.toNat + ·)) =
      some (l, u)) :=
  ⟨⟨xs1, 64, by unfold Ready OpenSession; decide +kernel⟩,
    ⟨xs1, (((xs1.heard 64 q0).readItems 64 [Obj.mod.cmdStatus, Obj.mod.cmdStatus + 1]).map (·.2) |>.getD xs1), 64, q0, (w32 Obj.mod.cmdStatus), 2, (((xs1.heard 64 q0).readItems 64 [Obj.mod.cmdStatus, Obj.mod.cmdStatus + 1]).map (·.1) |>.getD []), by unfold Ready OpenSession; decide +kernel⟩⟩

theorem witness_HostWrites :
(∃ (s : State) (i : Fin 68) (q : ReqHead) (addr : BitVec 32) (values : List Word), Ready s ∧ OpenSession s i ∧ NewRequest s q ∧ values ≠ [] ∧
      addr.toNat % 128 + values.length ≤ 128 ∧ s.notOwnerFor i = false ∧ (writeRights addr.toNat (values.headD 0)).all (s.hasRight i) = true ∧
      (s.objAt addr.toNat).isSome = true ∧ spaceOf addr.toNat ≠ 0x0C ∧ spaceOf addr.toNat ≠ 0x14) ∧
(∃ (s : State) (i : Fin 68) (addr : BitVec 32) (w : Word) (k : ObjKind) (d : ObjDef), Ready s ∧ s.ring.results = [] ∧ s.objAt addr.toNat = some (k, d)
      ∧ d.acc = .w1c ∧ cmdItem k (addr.toNat % 128) = false ∧ (¬(k = .cell ∧ addr.toNat % 128 = 0x2B)) ∧ spaceOf addr.toNat ≠ 0x0B ∧ s.itemRefusal i k
      d.acc (addr.toNat / 2 ^ 7 % 2 ^ 17) (addr.toNat % 128) 1 w = 0) ∧
(∃ (s : State) (i : Fin 68) (addr : BitVec 32) (w : Word) (k : ObjKind) (d : ObjDef), Ready s ∧ s.ring.results = [] ∧ s.objAt addr.toNat = some (k, d)
      ∧ s.itemRefusal i k d.acc (addr.toNat / 2 ^ 7 % 2 ^ 17) (addr.toNat % 128) 1 w ≠ 0) ∧
(∃ (s : State) (i : Fin 68) (w : Word), Ready s ∧ s.ring.results = [] ∧ (s.objAt Obj.time.timeCfg).isSome = true ∧ s.itemRefusal i .time .rwl
      (Obj.time.timeCfg / 2 ^ 7 % 2 ^ 17) (Obj.time.timeCfg % 128) 1 w = 0) :=
  ⟨⟨xs1, 64, q0, (w32 Obj.net.netFlags), [1], by unfold Ready OpenSession NewRequest; decide +kernel⟩,
    ⟨State.reset, 64, (w32 Obj.net.netFlags), 1, ((State.reset.objAt Obj.net.netFlags).map (·.1) |>.getD .mod), ((State.reset.objAt Obj.net.netFlags).map (·.2) |>.getD ⟨0, 0, .ro, 0, false⟩), by unfold Ready; decide +kernel⟩,
    ⟨State.reset, 64, (w32 Obj.time.cmdStatus), 0x02080101, ((State.reset.objAt (Obj.time.cmdStatus)).map (·.1) |>.getD .mod), ((State.reset.objAt (Obj.time.cmdStatus)).map (·.2) |>.getD ⟨0, 0, .ro, 0, false⟩), by unfold Ready; decide +kernel⟩,
    ⟨stopS, 64, 0x02080101, by unfold Ready; decide +kernel⟩⟩

theorem witness_RingRequestsTaken :
(∃ (s : State) (i : Fin 68) (q : ReqHead) (ring : BitVec 20) (es : List (List Byte)) (r : RingAllocRec), Ready s ∧ OpenSession s i ∧ NewRequest s q ∧
      s.notOwnerFor i = false ∧ s.hasRight i Rt.w = true ∧ s.ringAlloc ring.toNat = some r ∧ ringLayoutOk r (.put es) = true ∧ mayAct (.host 0) r
      (.put es) = true) ∧
(∃ (s : State) (i : Fin 68) (q : ReqHead) (ring : BitVec 20) (seq : BitVec 32) (r : RingAllocRec), Ready s ∧ OpenSession s i ∧ NewRequest s q ∧
      s.notOwnerFor i = false ∧ s.hasRight i Rt.w = true ∧ s.ringAlloc ring.toNat = some r ∧ mayAct (.host 0) r (.release seq) = true) ∧
(∃ (s : State) (i : Fin 68) (q : ReqHead) (ring : BitVec 20) (r : RingAllocRec), Ready s ∧ OpenSession s i ∧ NewRequest s q ∧ s.notOwnerFor i = false
      ∧ s.hasRight i Rt.w = true ∧ s.ringAlloc ring.toNat = some r ∧ mayAct (.host 0) r .clear = true) ∧
(∃ (s : State) (i : Fin 68) (q : ReqHead) (ring : BitVec 20) (source : BitVec 32) (period : BitVec 32) (items : Byte) (mode : Byte) (r :
      RingAllocRec), Ready s ∧ OpenSession s i ∧ NewRequest s q ∧ s.notOwnerFor i = false ∧ s.hasRight i Rt.w = true ∧ s.ringAlloc ring.toNat = some r
      ∧ ringLayoutOk r (.bind source items mode period) = true) ∧
(∃ (s : State) (i : Fin 68) (q : ReqHead) (ring : BitVec 20) (r : RingAllocRec), Ready s ∧ OpenSession s i ∧ NewRequest s q ∧ s.notOwnerFor i = false
      ∧ s.hasRight i Rt.w = true ∧ s.ringAlloc ring.toNat = some r) ∧
(∃ (s : State) (i : Fin 68) (ring : BitVec 20) (r : RingAllocRec), Ready s ∧ OpenSession s i ∧ s.hasRight i Rt.r = true ∧ s.ringAlloc ring.toNat =
      some r ∧ s.ringBusy ring.toNat = false ∧ s.net.vit.waiting.any (fun o => o.ring == ring.toNat) = false ∧ (r.pin = true ∨ s.vitTakes 2 = true)) ∧
(∃ (s : State) (i : Fin 68) (ring : BitVec 20) (seq : BitVec 32) (count : BitVec 16) (r : RingAllocRec), Ready s ∧ OpenSession s i ∧ s.hasRight i Rt.r
      = true ∧ s.ringAlloc ring.toNat = some r ∧ s.ringBusy ring.toNat = false ∧ s.net.vit.waiting.any (fun o => o.ring == ring.toNat) = false ∧
      (r.pin = true ∨ s.vitTakes 2 = true) ∧ ringLayoutOk r (.peek seq count) = true) ∧
(∃ (s : State) (i : Fin 68) (q : ReqHead) (f : SubFields) (x : SessX), Ready s ∧ OpenSession s i ∧ NewRequest s q ∧ s.notOwnerFor i = false ∧
      s.hasRight i Rt.r = true ∧ f.provisional = false ∧ (s.ringAlloc f.ring.toNat).isSome = true ∧ s.leaseOk f.lease.toNat = true ∧ s.net.subs.length
      < 1024 ∧ s.sessX i = some x) ∧
(∃ (s : State) (i : Fin 68) (q : ReqHead) (sub : BitVec 16) (lease : Byte), Ready s ∧ OpenSession s i ∧ NewRequest s q ∧ s.notOwnerFor i = false ∧
      s.hasRight i Rt.r = true ∧ (s.net.subs.any fun y => y.id == sub.toNat && y.client == q.client.toNat) = true ∧ s.leaseOk lease.toNat = true) ∧
(∃ (s : State) (i : Fin 68) (q : ReqHead) (sub : BitVec 16), Ready s ∧ OpenSession s i ∧ NewRequest s q ∧ s.notOwnerFor i = false ∧ s.hasRight i Rt.r
      = true ∧ (s.net.subs.any fun y => y.id == sub.toNat && y.client == q.client.toNat) = true) :=
  ⟨⟨xs1, 64, q0, 12, [List.replicate 16 1], ra, by unfold Ready OpenSession NewRequest; decide +kernel⟩,
    ⟨xs1, 64, q0, 12, 5, ra, by unfold Ready OpenSession NewRequest; decide +kernel⟩,
    ⟨xs1, 64, q0, 12, ra, by unfold Ready OpenSession NewRequest; decide +kernel⟩,
    ⟨xs1, 64, q0, 12, 0, 4, 1, 1, ra, by unfold Ready OpenSession NewRequest; decide +kernel⟩,
    ⟨xs1, 64, q0, 12, ra, by unfold Ready OpenSession NewRequest; decide +kernel⟩,
    ⟨xs1, 64, 12, ra, by unfold Ready OpenSession; decide +kernel⟩,
    ⟨xs1, 64, 12, 5, 2, ra, by unfold Ready OpenSession; decide +kernel⟩,
    ⟨xs1, 64, q0, subf, sx0, by unfold Ready OpenSession NewRequest; decide +kernel⟩,
    ⟨xs6, 64, q0, 3, 2, by unfold Ready OpenSession NewRequest; decide +kernel⟩,
    ⟨xs6, 64, q0, 3, by unfold Ready OpenSession NewRequest; decide +kernel⟩⟩

theorem witness_RingOperationsAct :
    (∃ (s : State) (k : Nat) (r : RingAllocRec) (es : List (List Byte)), (s.xRing k).entries.length + es.length ≤ r.depth) ∧
    (∃ (k : Nat) (j : Nat), j ≠ k) :=
  ⟨⟨State.reset, 12, ra, [[1]], by decide +kernel⟩,
    ⟨12, 11, by decide +kernel⟩⟩

theorem witness_VitrineAndLeases :
(∃ (s : State) (ring : BitVec 20) (o : VitOp), Ready s ∧ s.net.vit.held.find? (fun x => x.ring == ring.toNat) = some o ∧ o.user = .module_ ∧
      s.net.vit.waiting = [] ∧ s.net.subs = []) ∧
(∃ (s : State) (ring : BitVec 20) (o : VitOp) (id : Nat), Ready s ∧ s.net.vit.held.find? (fun x => x.ring == ring.toNat) = some o ∧ o.user = .host id
      ∧ s.net.vit.waiting = [] ∧ s.net.subs = [] ∧ s.replicating = false) ∧
(∃ (s : State) (o : VitOp) (c : Fin 4), Ready s ∧ s.net.vit.waiting.find? (fun x => x.cls == c.val && !s.pinnedRing x.ring) = some o ∧ s.bits
      Obj.net.netCfg 31 24 * 1000 < s.up - o.at_) ∧
    (∃ (s : State) (sub : BitVec 16), Ready s ∧ (s.net.subs.any fun x => x.id == sub.toNat) = true) :=
  ⟨⟨xs2, 12, { ring := 12, cls := 2, op := .info, user := .module_, result := some (0, []), at_ := 0 }, by unfold Ready; decide +kernel⟩,
    ⟨xs3b, 12, { ring := 12, cls := 2, op := .info, user := .host 4, result := some (0, []), at_ := 0 }, 4, by unfold Ready; decide +kernel⟩,
    ⟨xs3, { ring := 12, cls := 2, op := .info, user := .module_, result := none, at_ := 0 }, 2, by unfold Ready; decide +kernel⟩,
    ⟨xs6, 3, by unfold Ready; decide +kernel⟩⟩

theorem witness_RequestDeadlinesAndWorkers :
(∃ (s : State) (q : ReqHead) (x : HostReq), Ready s ∧ s.net.reqs.find? (fun r => r.client == q.client.toNat && r.no == q.no.toNat && !r.discarded &&
      r.ready.isNone) = some x) ∧
(∃ (s : State) (q : ReqHead) (x : HostReq) (st : Nat) (b : List Byte), Ready s ∧ s.net.reqs.find? (fun r => r.client == q.client.toNat && r.no ==
      q.no.toNat && r.ready.isSome) = some x ∧ x.ready = some (st, b)) ∧
    (∃ (s : State), Ready s) ∧
(∃ (s : State) (i : Fin 68) (q : ReqHead) (k : Fin 64) (inner : InnerReq) (cat : Catalogue), Ready s ∧ OpenSession s i ∧ NewRequest s q ∧ inner.type =
      3 ∧ s.hasRight i Rt.r = true ∧ s.manager = true ∧ s.owner = true ∧ s.catOf = some cat ∧ 1 ≤ k.val ∧ k.val ≤ cat.redundancy.workers ∧ (s.workerX
      k).silentAt = none) ∧
(∃ (s : State) (k : Fin 64) (f : Forwarded) (no : BitVec 32) (x : HostReq), Ready s ∧ s.net.forwards.find? (fun f => f.worker == k.val && f.no ==
      no.toNat) = some f ∧ s.net.reqs.find? (fun r => r.id == f.req) = some x ∧ x.discarded = false ∧ s.replicating = false) :=
  ⟨⟨xs2, q0, (xs2.net.reqs.headD { id := 4, dest := .session 64, client := 7, no := 9, type := 4, at_ := 0, addr := 0, multi := false, pairAgreed := false, committed := false, discarded := false, left := 1, accepted := 0, refused := 0, first := none, ready := none, waiters := [] }), by unfold Ready; decide +kernel⟩,
    ⟨xs3, q0, (xs3.net.reqs.headD { id := 4, dest := .session 64, client := 7, no := 9, type := 4, at_ := 0, addr := 0, multi := false, pairAgreed := false, committed := false, discarded := false, left := 1, accepted := 0, refused := 0, first := none, ready := none, waiters := [] }), 0, [], by unfold Ready; decide +kernel⟩,
    ⟨State.reset, by unfold Ready; decide +kernel⟩,
    ⟨xs4, 64, q0, 5, ⟨3, q0, [1]⟩, (xs4.catOf.getD (cat0 0)), by unfold Ready OpenSession NewRequest; decide +kernel⟩,
    ⟨xs2, 5, ⟨5, 7, 4, 3, 1, 1⟩, 7, (xs2.net.reqs.headD { id := 4, dest := .session 64, client := 7, no := 9, type := 4, at_ := 0, addr := 0, multi := false, pairAgreed := false, committed := false, discarded := false, left := 1, accepted := 0, refused := 0, first := none, ready := none, waiters := [] }), by unfold Ready; decide +kernel⟩⟩

theorem witness_PlantPorts :
    (∃ (s : State) (p : Fin 8), Ready s ∧ s.bit (Obj.nport.nportStatus p) 3 = true) ∧
    (∃ (s : State) (p : Fin 8), Ready s ∧ s.plantPort p = true ∧ s.bit (Obj.nport.nportStatus p) 3 = false) ∧
(∃ (s : State) (p : Fin 8) (source : BitVec 48) (lanB : Bool), Ready s ∧ s.plantPort p = true ∧ lanB = (p.val % 2 == 1) ∧ (s.net.prp.find? fun x =>
      x.mac == source.toNat) = none) ∧
    (∃ (s : State) (p : Fin 8), Ready s ∧ s.plantPort p = true) ∧
    (∃ (s : State), Ready s) ∧
    (∃ (s : State) (p : Fin 8), Ready s ∧ s.plantPort p = true ∧ s.answersAt .unit = true) ∧
    (∃ (s : State) (p : Fin 8) (target : NetAddr), Ready s ∧ s.plantPort p = true ∧ s.answersAt target = true) :=
  ⟨⟨xs5, 2, by unfold Ready; decide +kernel⟩,
    ⟨xs4, 2, by unfold Ready; decide +kernel⟩,
    ⟨xs4, 2, 55, false, by unfold Ready; decide +kernel⟩,
    ⟨xs4, 2, by unfold Ready; decide +kernel⟩,
    ⟨State.reset, by unfold Ready; decide +kernel⟩,
    ⟨xs4, 2, by unfold Ready; decide +kernel⟩,
    ⟨xs4, 2, .unit, by unfold Ready; decide +kernel⟩⟩

theorem witness_Modbus :
(∃ (s : State) (cat : Catalogue) (k : Nat), Ready s ∧ s.catOf = some cat ∧ cat.network.modbusPort ≠ 0 ∧ s.answersAt .identity = true ∧ (List.range
      8).find? (fun j => !s.net.modbus.contains j) = some k) ∧
(∃ (s : State) (c : Fin 8) (reg : BitVec 16) (a : Nat) (w : Word) (u : State), Ready s ∧ c.val ∈ s.net.modbus ∧ (s.count Obj.net.modbusReqs
      1).inputItem reg.toNat = some a ∧ State.peekItems 68 [a] (s.count Obj.net.modbusReqs 1) = some ([w], u)) ∧
    (∃ (s : State) (c : Fin 8) (reg : BitVec 16) (n : Nat), Ready s ∧ c.val ∈ s.net.modbus ∧ s.holdingString reg.toNat = some n) ∧
(∃ (s : State) (c : Fin 8) (reg : BitVec 16) (value : BitVec 16) (n : Nat), Ready s ∧ c.val ∈ s.net.modbus ∧ s.bit Obj.net.netCfg 0 = true ∧
      s.holdingString reg.toNat = some n ∧ value.toNat ≤ 1) ∧
    (∃ (s : State) (c : Fin 8), Ready s ∧ c.val ∈ s.net.modbus) :=
  ⟨⟨stopS, (stopS.catOf.getD (cat0 0)), 0, by unfold Ready; decide +kernel⟩,
    ⟨xs2, 2, 0, (modbusModule.getD 0 0), (((State.peekItems 68 [modbusModule.getD 0 0] (xs2.count Obj.net.modbusReqs 1))).map (fun x => x.1.headD 0) |>.getD 0), (((State.peekItems 68 [modbusModule.getD 0 0] (xs2.count Obj.net.modbusReqs 1))).map (·.2) |>.getD xs2), by unfold Ready; decide +kernel⟩,
    ⟨xs2, 2, 20003, 3, by unfold Ready; decide +kernel⟩,
    ⟨xs5, 2, 20003, 1, 3, by unfold Ready; decide +kernel⟩,
    ⟨xs2, 2, by unfold Ready; decide +kernel⟩⟩

end W5

/-! ### Witnesses: the island and protection -/

namespace W6

def sstr : SafetyString := { index := 0, string := 3, iChgMax := 280000, iDisMax := 280000, vMin := 24000, vMax := 36500, tMin := -1000, tMax := 5500, direction := 0, reset := 5, outputs := 2 }
def iS : State := withCat (fun c => { c with safetyStrings := [sstr], safetyGlobal := { lockoutReset := 9, tripInputs := 2 ^ 7 }, safetySi := [⟨5, true, 100⟩, ⟨7, true, 100⟩], safetySq := [⟨1, true, 1, 100⟩] }) soloS
def iR : State := iS.wrBits (Obj.func.funcStatus 3) 3 0 2 |>.refreshSq
def iL : State := (iS.wrBits (Obj.func.funcStatus 3) 3 0 3)
def iLp : State := iL.modIsland fun u => { u with funcs := [(3, { FuncX.initial with nodes := [⟨1, 4, [1], 0, false⟩] })] }
def iSi : State := ((iR.wrBits (Obj.si.siStatus 7) 1 0 3).wrBit (Obj.si.siStatus 7) 2 true).wrBit Obj.safe.siValue 7 true
def iSd : State := iR.wrBits (Obj.si.siStatus 7) 1 0 1
def iSf : State := iSd.wrBits (Obj.si.siStatus 7) 7 4 1
def lockS : State := withCat (fun c => { c with safetyGlobal := { lockoutReset := 9, tripInputs := 0 } }) (baseS 0 .lockout) |> fun s => { s with sys := { s.sys with lockoutLatch := true } }
def sessS : State := (((iR.wrBits (Obj.sess.sessStatus 66) 7 4 8).wrBits (Obj.key.keyStatus 5) 7 4 1).modIsland fun u => { u with safetyKey := some [1,2], nonce := some ([3], soloS.up, 66) })
def authS : State := iR.modIsland fun u => { u with session := some ⟨66, 12, 0, false⟩, key := some [1] }
def blkS : State := iR.modIsland fun u => { u with blocked := true, fails := [1,2,3,4,5] }
def clrS : State := ((lockS.wrBits (Obj.sess.sessStatus 66) 7 4 8).wrBit Obj.safe.siValue 9 true).modIsland fun u => { u with safetyKey := some [1,2], nonce := some ([3], soloS.up, 66), key := some [1] }
def sqF : State := (iR.setSqX 1 fun x => { x with rearming := true }).flag (Obj.sq.sqStatus 1) 2
def trpS : State := (((iR.wrBits (Obj.pstr.pstrStatus 3) 23 16 1).wrBit (Obj.pstr.pstrStatus 3) 8 true).wr Obj.prot.trippedNow 1).wr (Obj.pstr.contactReq 3) 1
def trp0 : State := withCat (fun c => { c with nodes := [] }) trpS
def openS : State := iR.setStrProt 3 fun y => { y with openAt := some 5 }
def grS : State := (iR.setStrTherm 3 fun x => { x with grace := some 5 }).wr (Obj.thm.derateChg 3) 100
def catOf' (s : State) := s.catOf.getD (cat0 0)
def nr61 : NodeRec := { string := 3, p := 1, kind := 1, firstCell := 0, cells := 4, temps := 2, auxType := 0, serial := 11 }
def pl (fl : Byte) : List Byte := [0x10, fl, 0,0,0,0,0,2] ++ List.replicate 16 0 ++ [0,1,0,1]

theorem witness_SafetyCommands :
    (∃ (s : State), Ready s) ∧
(∃ (s : State) (i : Fin 68) (pub : List Byte) (b : List Byte), Ready s ∧ s.island.session = none ∧ s.island.blocked = false ∧ s.bits
      (Obj.key.keyStatus 5) 7 4 ≠ 0 ∧ s.island.safetyKey = some pub ∧ (s.island.key.isSome = true ∨ s.sessPort i = 8) ∧ s.freshNonce i = some b) ∧
    (∃ (s : State), Ready s ∧ s.island.session = none ∧ s.island.blocked = true) ∧
    (∃ (s : State) (i : Fin 68) (x : SafetySession), Ready s ∧ s.island.session = some x ∧ x.session = i.val) ∧
    (∃ (s : State), Ready s ∧ s.island.session = none) ∧
    (∃ (s : State), Ready s) ∧
    (∃ (s : State) (i : Fin 68) (x : SafetySession), Ready s ∧ s.island.session = some x ∧ x.session = i.val) ∧
(∃ (s : State) (i : Fin 68) (x : SafetySession) (w : Word), Ready s ∧ s.island.session = some x ∧ x.session = i.val ∧ x.passwordOnly = false ∧ 1 ≤
      bitsOf 7 0 w ∧ bitsOf 7 0 w ≤ 60) ∧
(∃ (s : State) (i : Fin 68) (x : SafetySession) (w : Word), Ready s ∧ s.island.session = some x ∧ x.session = i.val ∧ x.passwordOnly = false ∧ (s.rd
      Obj.safe.logAck).toNat ≤ w.toNat ∧ w.toNat ≤ (s.rd Obj.safe.logNewest).toNat) ∧
    (∃ (s : State), Ready s ∧ s.island.session = none) ∧
(∃ (s : State) (i : Fin 68) (pub : List Byte) (b : List Byte) (g : SafetyGlobal), Ready s ∧ s.freshNonce i = some b ∧ s.island.safetyKey = some pub ∧
      s.sessPort i = 8 ∧ s.sys.mode = .lockout ∧ s.safetyGlobal = some g ∧ s.bit Obj.safe.siValue g.lockoutReset = true) ∧
    (∃ (s : State), Ready s ∧ s.sys.mode ≠ .lockout) :=
  ⟨⟨State.reset, by unfold Ready; decide +kernel⟩,
    ⟨sessS, 66, [1,2], [3], by unfold Ready; decide +kernel⟩,
    ⟨blkS, by unfold Ready; decide +kernel⟩,
    ⟨authS, 66, ⟨66, 12, 0, false⟩, by unfold Ready; decide +kernel⟩,
    ⟨State.reset, by unfold Ready; decide +kernel⟩,
    ⟨State.reset, by unfold Ready; decide +kernel⟩,
    ⟨authS, 66, ⟨66, 12, 0, false⟩, by unfold Ready; decide +kernel⟩,
    ⟨authS, 66, ⟨66, 12, 0, false⟩, 20, by unfold Ready; decide +kernel⟩,
    ⟨(authS.wr Obj.safe.logNewest 20), 66, ⟨66, 12, 0, false⟩, 20, by unfold Ready; decide +kernel⟩,
    ⟨State.reset, by unfold Ready; decide +kernel⟩,
    ⟨clrS, 66, [1,2], [3], { lockoutReset := 9, tripInputs := 0 }, by unfold Ready; decide +kernel⟩,
    ⟨State.reset, by unfold Ready; decide +kernel⟩⟩

theorem witness_SafetyInputs :
    (∃ (s : State) (cat : Catalogue), Ready s ∧ s.catOf = some cat) ∧
(∃ (s : State) (c : Fin 32) (cat : Catalogue), Ready s ∧ s.catOf = some cat ∧ s.bits (Obj.si.siStatus c) 7 4 = 0 ∧ s.bit (Obj.si.siStatus c) 0 ≠ s.bit
      (Obj.si.siStatus c) 1) ∧
    (∃ (s : State) (c : Fin 32) (cat : Catalogue), Ready s ∧ s.catOf = some cat ∧ s.siTested c = true ∧ s.bits (Obj.si.siStatus c) 7 4 = 0) ∧
    (∃ (s : State) (c : Fin 32) (cat : Catalogue), Ready s ∧ s.catOf = some cat ∧ s.bits (Obj.si.siStatus c) 7 4 ≠ 0) ∧
    (∃ (s : State) (low : Nat) (high : Nat) (cat : Catalogue), Ready s ∧ s.catOf = some cat ∧ pulseValid low high = false) ∧
(∃ (s : State) (c : Fin 32) (low : Nat) (high : Nat) (cat : Catalogue) (r : SafetyString), Ready s ∧ s.catOf = some cat ∧ pulseValid low high = true ∧
      s.island.running = true ∧ cat.safetyStrings = [r] ∧ r.string < 256 ∧ r.reset = c.val ∧ cat.safetyGlobal.lockoutReset ≠ c.val ∧ s.funcState
      r.string = 3 ∧ s.funcCauses r.string true = []) ∧
(∃ (s : State) (c : Fin 32) (low : Nat) (high : Nat) (cat : Catalogue) (r : SafetyString), Ready s ∧ s.catOf = some cat ∧ pulseValid low high = true ∧
      s.island.running = true ∧ cat.safetyStrings = [r] ∧ r.string < 256 ∧ r.reset = c.val ∧ cat.safetyGlobal.lockoutReset ≠ c.val ∧ s.funcState
      r.string = 3 ∧ s.funcCauses r.string true ≠ []) ∧
(∃ (s : State) (c : Fin 32) (low : Nat) (high : Nat) (cat : Catalogue), Ready s ∧ s.catOf = some cat ∧ pulseValid low high = true ∧ s.island.running =
      true ∧ cat.safetyStrings = [] ∧ cat.safetyGlobal.lockoutReset = c.val ∧ s.sys.mode = .lockout ∧ s.sys.trans = .none ∧ s.island.causes = []) :=
  ⟨⟨stopS, (catOf' stopS), by unfold Ready; decide +kernel⟩,
    ⟨iSd, 7, (catOf' iSd), by unfold Ready; decide +kernel⟩,
    ⟨stopS, 7, (catOf' stopS), by unfold Ready; decide +kernel⟩,
    ⟨iSf, 7, (catOf' iSf), by unfold Ready; decide +kernel⟩,
    ⟨stopS, 60, 10000, (catOf' stopS), by unfold Ready; decide +kernel⟩,
    ⟨iL, 5, 60, 100, (catOf' iL), sstr, by unfold Ready; decide +kernel⟩,
    ⟨iLp, 5, 60, 100, (catOf' iLp), sstr, by unfold Ready; decide +kernel⟩,
    ⟨lockS, 9, 60, 100, (catOf' lockS), by unfold Ready; decide +kernel⟩⟩

theorem witness_SafetyOutputs :
    (∃ (s : State) (code : Fin 6), Ready s ∧ code.val ≠ 0) ∧
    (∃ (s : State) (q : Fin 32), Ready s ∧ s.sqTested q = true ∧ s.bit (Obj.sq.sqStatus q) 1 = true) ∧
    (∃ (s : State) (q : Fin 32), Ready s ∧ (s.sqX q).rearming = false) ∧
    (∃ (s : State) (q : Fin 32), Ready s ∧ (s.sqX q).rearming = true) :=
  ⟨⟨State.reset, 3, by unfold Ready; decide +kernel⟩,
    ⟨iSi, 1, by unfold Ready; decide +kernel⟩,
    ⟨State.reset, 1, by unfold Ready; decide +kernel⟩,
    ⟨sqF, 1, by unfold Ready; decide +kernel⟩⟩

theorem witness_ProtectionSamplesAndEvents :
(∃ (s : State) (m : IslandSample) (r : SafetyString) (nr : NodeRec), Ready s ∧ s.island.running = true ∧ s.safetyOf m.string = some r ∧ m.crcOk = true
      ∧ s.nodeRec m.string m.p.toNat = some nr ∧ ((s.funcX m.string).nodes.find? fun e => e.p == m.p.toNat) = none ∧ m.coresAgree = true) ∧
(∃ (s : State) (m : IslandSample) (r : SafetyString) (nr : NodeRec), Ready s ∧ s.island.running = true ∧ s.safetyOf m.string = some r ∧ m.crcOk = true
      ∧ s.nodeRec m.string m.p.toNat = some nr ∧ ((s.funcX m.string).nodes.find? fun e => e.p == m.p.toNat) = none ∧ m.coresAgree = false) ∧
    (∃ (s : State) (m : IslandSample) (r : SafetyString), Ready s ∧ s.island.running = true ∧ s.safetyOf m.string = some r ∧ m.crcOk = false) ∧
(∃ (s : State) (r : SafetyString) (node : NodeId), Ready s ∧ s.island.running = true ∧ (s.nodeRec node.string node.p).isSome = true ∧ s.safetyOf
      node.string = some r) ∧
(∃ (s : State) (m : IslandSample) (th : SafetyString), Ready s ∧ s.island.running = true ∧ (s.strTherm m.string).grace.isSome = true ∧ s.safetyOf
      m.string = some th) ∧
    (∃ (s : State) (n : Fin 256), Ready s ∧ s.protRuns = true ∧ s.contactorDiffers n = true) ∧
    (∃ (s : State) (n : Fin 256), Ready s ∧ (s.strProt n).openAt.isSome = true) ∧
(∃ (s : State) (node : NodeId), Ready s ∧ s.protRuns = true ∧ (s.nodeRec node.string node.p).isSome = true ∧ (s.strProt node.string).standing.contains
      (7, node.p.toNat) = false) ∧
    (∃ (s : State) (n : Fin 256), Ready s ∧ s.hasString n = true) ∧
    (∃ (s : State) (n : Fin 256), Ready s ∧ s.hasString n = true ∧ s.tripped n = true ∧ s.tripStill n = 0) ∧
    (∃ (s : State) (n : Fin 256), Ready s ∧ s.hasString n = true ∧ s.tripped n = true ∧ s.tripStill n ≠ 0) ∧
    (∃ (s : State) (n : Fin 256), Ready s ∧ s.hasString n = true ∧ s.tripped n = false) ∧
    (∃ (s : State) (n : Fin 256), Ready s ∧ s.hasString n = true) ∧
    (∃ (s : State), Ready s) :=
  ⟨⟨iS, ⟨3, 1, 7, true, pl 0, true⟩, sstr, nr61, by unfold Ready; decide +kernel⟩,
    ⟨iS, ⟨3, 1, 7, true, pl 1, false⟩, sstr, nr61, by unfold Ready; decide +kernel⟩,
    ⟨iS, ⟨3, 1, 7, false, pl 1, false⟩, sstr, by unfold Ready; decide +kernel⟩,
    ⟨iS, sstr, ⟨3, 1⟩, by unfold Ready; decide +kernel⟩,
    ⟨grS, ⟨3, 1, 7, true, pl 0, true⟩, sstr, by unfold Ready; decide +kernel⟩,
    ⟨stopS, 3, by unfold Ready; decide +kernel⟩,
    ⟨openS, 3, by unfold Ready; decide +kernel⟩,
    ⟨stopS, ⟨3, 1⟩, by unfold Ready; decide +kernel⟩,
    ⟨stopS, 3, by unfold Ready; decide +kernel⟩,
    ⟨trp0, 3, by unfold Ready; decide +kernel⟩,
    ⟨trpS, 3, by unfold Ready; decide +kernel⟩,
    ⟨stopS, 3, by unfold Ready; decide +kernel⟩,
    ⟨stopS, 3, by unfold Ready; decide +kernel⟩,
    ⟨State.reset, by unfold Ready; decide +kernel⟩⟩

end W6

/-! ### Witnesses: images, keys, library -/

namespace W7

def ses (s : State) : State := (s.modNet fun u => { u with sessions := [(64, { port := 8, identity := false, granted := 31, anchors := [], client := 0, lastAt := 0 })] }).wr (Obj.sess.sessStatus 64) (w32 (0x1F00 + 8*16 + 2))
def pg : List Byte := List.replicate 4096 7
def cS : State := ses stopS
def cS1 : State := (cS.setSlotImage cS.pendingPhys ⟨[(5, pg)]⟩).setCatState 1 1
def cS2 : State := cS.setCatState 1 2
def cS3 : State := cS.setCatState 1 3
def cS3d : State := cS3.wrBit (Obj.slot.slotStatus 1) 9 true
def cS5 : State := cS.setCatState 1 5
def cA (st : Nat) (cold : Bool) : State := { (cS.setCatState 1 3) with sys := { cS.sys with mode := .service, trans := .catActivation }, cat := { cS.cat with activation := some ⟨st, cold, true, 0⟩ } }
def fS (f : FwSlot → FwSlot) : State := cS.setFwSlot 1 f
def fS0 := fS fun x => { x with factory := false, pages := [], state := 0 }
def fS1 := fS fun x => { x with factory := false, pages := [(5, pg)], state := 1 }
def fSx (k : Nat) := fS fun x => { x with factory := false, pages := [(0, pg)], state := k }
def fT := cS.modUpd fun u => { u with trial := true }
def fA (st : Nat) (sv : Bool) (tr : Trans) : State := { (fSx 3) with sys := { cS.sys with mode := .service, trans := tr } } |>.modUpd fun u => { u with activation := some ⟨st, 4, sv, 0, 0⟩ }
def kS : State := cS.modSec fun u => { u with quotes := [(64, 3)], staged := [(64, [1,2])] }
def jb : Job := { release := 0, commitAt := 0, startedAt := 0, moved := false, finished := false, exec := 0, writes := [], reads := [] }
def jS (k : Nat) (s : State) : State := ((s.wrBits (Obj.key.keyStatus 20) 7 4 k).setTaskX 0 fun x => { x with job := some jb })
def jR : State := { (jS 3 stbS) with red := { stbS.red with randoms := [(0, [1,2])] } }
def qq : ReqHead := ⟨7, 9⟩

theorem witness_CatalogueImages :
(∃ (s : State) (i : Fin 68) (q : ReqHead) (page : Fin 65536) (b : List Byte), Ready s ∧ OpenSession s i ∧ NewRequest s q ∧ s.hasRight i Rt.c = true ∧
      b.length = 4096 ∧ s.slotBusy = false ∧ s.replicating = false ∧ s.reqIdsOk = true ∧ hasKey page.val (s.slotImage s.pendingPhys).pages = false) ∧
(∃ (s : State) (i : Fin 68) (q : ReqHead) (page : Fin 65536) (b : List Byte), Ready s ∧ OpenSession s i ∧ NewRequest s q ∧ s.hasRight i Rt.c = true ∧
      b.length = 4096 ∧ s.slotBusy = false ∧ s.replicating = false ∧ s.reqIdsOk = true ∧ hasKey page.val (s.slotImage s.pendingPhys).pages = true) ∧
    (∃ (s : State), Ready s ∧ s.slotBusy = false) ∧
    (∃ (s : State), Ready s ∧ s.slotBusy = true) ∧
    (∃ (s : State), Ready s ∧ s.catState 1 = Cs.erasing) ∧
    (∃ (s : State), Ready s ∧ s.slotBusy = false ∧ s.catState 1 = Cs.empty) ∧
    (∃ (s : State), Ready s ∧ s.slotBusy = false ∧ s.catState 1 ≠ Cs.empty) ∧
    (∃ (s : State), Ready s ∧ s.catState 1 = Cs.checking) ∧
(∃ (s : State) (i : Fin 68), Ready s ∧ s.sys.trans = .none ∧ s.sys.mode = .stop ∧ s.slotBusy = false ∧ s.catState 1 = Cs.valid ∧ (s.bit
      (Obj.slot.slotStatus 1) 9 = true → s.authorised i = true)) ∧
    (∃ (s : State), Ready s ∧ s.sys.trans = .none ∧ s.sys.mode ≠ .stop) ∧
(∃ (s : State) (i : Fin 68), Ready s ∧ s.sys.trans = .none ∧ s.sys.mode = .stop ∧ s.slotBusy = false ∧ s.catState 1 = Cs.valid ∧ s.bit
      (Obj.slot.slotStatus 1) 9 = true ∧ s.authorised i = false) ∧
    (∃ (s : State) (a : CatActivation), Ready s ∧ s.cat.activation = some a ∧ a.step = 2) ∧
    (∃ (s : State) (a : CatActivation), Ready s ∧ s.cat.activation = some a ∧ a.step = 5) :=
  ⟨⟨cS, 64, qq, 5, pg, by unfold Ready OpenSession NewRequest; decide +kernel⟩,
    ⟨cS1, 64, qq, 5, pg, by unfold Ready OpenSession NewRequest; decide +kernel⟩,
    ⟨State.reset, by unfold Ready; decide +kernel⟩,
    ⟨cS2, by unfold Ready; decide +kernel⟩,
    ⟨cS5, by unfold Ready; decide +kernel⟩,
    ⟨State.reset, by unfold Ready; decide +kernel⟩,
    ⟨cS1, by unfold Ready; decide +kernel⟩,
    ⟨cS2, by unfold Ready; decide +kernel⟩,
    ⟨cS3, 64, by unfold Ready; decide +kernel⟩,
    ⟨soloS, by unfold Ready; decide +kernel⟩,
    ⟨cS3d, 64, by unfold Ready; decide +kernel⟩,
    ⟨(cA 2 true), ((cA 2 true).cat.activation.getD ⟨2, true, true, 0⟩), by unfold Ready; decide +kernel⟩,
    ⟨(cA 5 false), ((cA 5 false).cat.activation.getD ⟨2, true, true, 0⟩), by unfold Ready; decide +kernel⟩⟩

theorem witness_FirmwareImages :
(∃ (s : State) (i : Fin 68) (q : ReqHead) (page : Fin 131072) (b : List Byte), Ready s ∧ OpenSession s i ∧ NewRequest s q ∧ s.sessPort i = 8 ∧
      s.hasRight i Rt.f = true ∧ b.length = 4096 ∧ s.updBusy = false ∧ s.replicating = false ∧ s.reqIdsOk = true ∧ (s.upd.slot s.updSlot).factory =
      false ∧ hasKey page.val (s.upd.slot s.updSlot).pages = false) ∧
(∃ (s : State) (i : Fin 68) (q : ReqHead) (page : Fin 131072) (b : List Byte), Ready s ∧ OpenSession s i ∧ NewRequest s q ∧ s.sessPort i = 8 ∧
      s.hasRight i Rt.f = true ∧ b.length = 4096 ∧ s.updBusy = false ∧ s.replicating = false ∧ s.reqIdsOk = true ∧ (s.upd.slot s.updSlot).factory =
      false ∧ hasKey page.val (s.upd.slot s.updSlot).pages = true) ∧
    (∃ (s : State), Ready s ∧ s.updBusy = false) ∧
    (∃ (s : State), Ready s ∧ (s.upd.slot s.updSlot).state = 5) ∧
    (∃ (s : State), Ready s ∧ s.updBusy = false ∧ (s.upd.slot s.updSlot).state ≠ 0) ∧
    (∃ (s : State), Ready s ∧ s.updBusy = true) ∧
    (∃ (s : State), Ready s ∧ (s.upd.slot s.updSlot).state = 2) ∧
    (∃ (s : State), Ready s ∧ s.upd.activation = none ∧ s.upd.trial = false) ∧
    (∃ (s : State), Ready s ∧ s.upd.activation = none ∧ s.upd.trial = true) ∧
    (∃ (s : State), Ready s ∧ s.upd.activation = none) ∧
    (∃ (s : State), Ready s ∧ s.upd.trial = true) ∧
    (∃ (s : State), Ready s ∧ s.sys.trans = .none ∧ s.sys.mode = .stop ∧ s.updBusy = false ∧ (s.upd.slot s.updSlot).state = 3 ∧ s.pairRole = false) ∧
    (∃ (s : State), Ready s ∧ s.sys.trans = .none ∧ (s.sys.mode = .solo ∨ s.sys.mode = .active)) ∧
    (∃ (s : State) (a : FwActivation), Ready s ∧ s.upd.activation = some a ∧ a.step = 2 ∧ s.fwVerdict s.updSlot = 0) ∧
    (∃ (s : State) (a : FwActivation), Ready s ∧ s.upd.activation = some a ∧ a.step = 2 ∧ a.inService = true ∧ s.fwVerdict s.updSlot ≠ 0) ∧
(∃ (s : State) (a : FwActivation), Ready s ∧ s.upd.activation = some a ∧ s.sys.trans = .fwPause ∧ s.sys.lossPending = false ∧ s.sys.mode = .service ∧
      a.inService = true) :=
  ⟨⟨fS0, 64, qq, 5, pg, by unfold Ready OpenSession NewRequest; decide +kernel⟩,
    ⟨fS1, 64, qq, 5, pg, by unfold Ready OpenSession NewRequest; decide +kernel⟩,
    ⟨State.reset, by unfold Ready; decide +kernel⟩,
    ⟨(fSx 5), by unfold Ready; decide +kernel⟩,
    ⟨State.reset, by unfold Ready; decide +kernel⟩,
    ⟨(fSx 2), by unfold Ready; decide +kernel⟩,
    ⟨(fSx 2), by unfold Ready; decide +kernel⟩,
    ⟨State.reset, by unfold Ready; decide +kernel⟩,
    ⟨fT, by unfold Ready; decide +kernel⟩,
    ⟨State.reset, by unfold Ready; decide +kernel⟩,
    ⟨fT, by unfold Ready; decide +kernel⟩,
    ⟨stopS, by unfold Ready; decide +kernel⟩,
    ⟨soloS, by unfold Ready; decide +kernel⟩,
    ⟨((fS fun x => { x with state := 3 }).modUpd fun u => { u with activation := some ⟨2, 0, true, 0, 0⟩ }), ⟨2, 0, true, 0, 0⟩, by unfold Ready; decide +kernel⟩,
    ⟨(fA 2 true .serviceOp), ((fA 2 true .serviceOp).upd.activation.getD ⟨2, 0, true, 0, 0⟩), by unfold Ready; decide +kernel⟩,
    ⟨(fA 6 true .fwPause), ((fA 6 true .fwPause).upd.activation.getD ⟨2, 0, true, 0, 0⟩), by unfold Ready; decide +kernel⟩⟩

theorem witness_QuotesAndKeys :
    (∃ (s : State) (i : Fin 68), Ready s ∧ (s.sec.quotes.any fun q => q.1 == i.val) = false) ∧
    (∃ (s : State) (i : Fin 68), Ready s ∧ (s.sec.quotes.any fun q => q.1 == i.val) = true) ∧
    (∃ (s : State) (i : Fin 68) (m : Nat), Ready s ∧ s.sec.quotes.find? (fun q => q.1 == i.val) = some (i.val, m)) ∧
    (∃ (s : State), Ready s) ∧
    (∃ (s : State) (i : Fin 68) (slot : Fin 32) (kind : Fin 16), Ready s ∧ s.keyRefusal i slot = none ∧ s.keyOutcome i slot 1 kind = none) ∧
    (∃ (s : State) (i : Fin 68) (slot : Fin 32) (kind : Fin 16), Ready s ∧ s.keyRefusal i slot = none ∧ s.keyOutcome i slot 2 kind = none) ∧
    (∃ (s : State) (i : Fin 68) (slot : Fin 32), Ready s ∧ s.keyRefusal i slot = none ∧ s.keyOutcome i slot 3 0 = none) ∧
    (∃ (s : State) (i : Fin 68) (slot : Fin 32), Ready s ∧ s.keyRefusal i slot = none ∧ s.keyOutcome i slot 4 0 = none) ∧
    (∃ (s : State) (i : Fin 68) (slot : Fin 32), Ready s ∧ s.keyRefusal i slot = none) ∧
    (∃ (s : State) (i : Fin 68) (slot : Fin 32), Ready s ∧ (s.keyRefusal i slot).isSome = true) :=
  ⟨⟨State.reset, 64, by unfold Ready; decide +kernel⟩,
    ⟨kS, 64, by unfold Ready; decide +kernel⟩,
    ⟨kS, 64, 3, by unfold Ready; decide +kernel⟩,
    ⟨State.reset, by unfold Ready; decide +kernel⟩,
    ⟨cS, 64, 20, 3, by unfold Ready; decide +kernel⟩,
    ⟨cS, 64, 20, 3, by unfold Ready; decide +kernel⟩,
    ⟨cS, 64, 20, by unfold Ready; decide +kernel⟩,
    ⟨cS, 64, 1, by unfold Ready; decide +kernel⟩,
    ⟨cS, 64, 20, by unfold Ready; decide +kernel⟩,
    ⟨State.reset, 64, 20, by unfold Ready; decide +kernel⟩⟩

theorem witness_TaskLibrary :
    (∃ (s : State) (task : Fin 64) (slot : Fin 16) (j : Job), Ready s ∧ s.callingJob task = some j ∧ s.keyKind (slot + 16) = 0) ∧
(∃ (s : State) (task : Fin 64) (slot : Fin 16) (data : List Byte) (j : Job), Ready s ∧ s.callingJob task = some j ∧ s.keyKind (slot + 16) = 1 ∧
      data.length ≤ 16384) ∧
(∃ (s : State) (task : Fin 64) (slot : Fin 16) (data : List Byte) (j : Job), Ready s ∧ s.callingJob task = some j ∧ s.keyKind (slot + 16) = 3 ∧
      data.length ≤ 16384 ∧ s.rd64 (Obj.key.gcmCount (slot + 16)) + s.gcmUsed task j.release (slot + 16) < 2 ^ 64 - 1) ∧
(∃ (s : State) (task : Fin 64) (slot : Fin 16) (cipher : List Byte) (j : Job), Ready s ∧ s.callingJob task = some j ∧ s.keyKind (slot + 16) = 3 ∧
      cipher.length ≤ 16384) ∧
    (∃ (s : State) (task : Fin 64) (j : Job), Ready s ∧ s.callingJob task = some j) ∧
    (∃ (s : State) (task : Fin 64) (j : Job), Ready s ∧ s.callingJob task = some j ∧ s.lockstepStandby = false) ∧
(∃ (s : State) (task : Fin 64) (j : Job) (x : Nat × List Byte), Ready s ∧ s.callingJob task = some j ∧ s.lockstepStandby = true ∧ s.red.randoms.find?
      (fun r => r.1 == task.val) = some x) :=
  ⟨⟨(jS 0 soloS), 0, 4, jb, by unfold Ready; decide +kernel⟩,
    ⟨(jS 1 soloS), 0, 4, [1,2], jb, by unfold Ready; decide +kernel⟩,
    ⟨(jS 3 soloS), 0, 4, [1,2], jb, by unfold Ready; decide +kernel⟩,
    ⟨(jS 3 soloS), 0, 4, [6], jb, by unfold Ready; decide +kernel⟩,
    ⟨(jS 0 soloS), 0, jb, by unfold Ready; decide +kernel⟩,
    ⟨(jS 0 soloS), 0, jb, by unfold Ready; decide +kernel⟩,
    ⟨jR, 0, jb, (0, [1,2]), by unfold Ready; decide +kernel⟩⟩

end W7

/-! ### Witnesses: recorder and Archive -/

namespace W8

def wCat (s : State) (f : Catalogue → Catalogue) : State := { s with cat := { s.cat with cat := s.cat.cat.map f } }
def ar (n c : Nat) (p : Nat) : ArchiveRec := { nsid := n, port := p, content := c, sizeGb := 10, interval := 100, retention := 1 }
def rr (k cls : Nat) : RingAllocRec := { first := k, count := 4, cls := cls, entry := 8, depth := 2, pin := false }
def aS : State := wCat soloS fun c => { c with archive := [ar 1 2 0, ar 2 3 2], ringAlloc := [rr 10 2, rr 20 3] }
def aM : State := { aS with arc := { aS.arc with
  ports := [(0, { StPort.initial with present := true, capacity := 100, spaces := [(1, true, 10), (2, true, 10), (4, true, 10)] }), (1, { StPort.initial with present := true, capacity := 100, spaces := [(2, true, 10)] })]
  nss := [(1, { NsX.initial with gb := 10, mounted := true }), (2, { NsX.initial with gb := 10, mounted := true })] } }
def en (b t : Nat) : ArcEntry := { time := t, source := 3, block := b, data := [1,2,3] }
def rec0 : EvRecord := { code := 471, powerFail := false, prevLost := false, seqSat := false, unitB := false, untraceable := true, sealed_ := true, repeat_ := 0, inst := 2, lastAt := 5, gen := 0, seq := 0, time := 5, p1 := 10, p2 := 2, p3 := 2, rn := 1 }
def aE : State := ({ aM with rcd := { aM.rcd with buffer := [rec0], archRn := 0, flushing := true, flushDue := true } })
def aW2 : State := aM.modArc fun u => { u with captures := [en 0 10] }
def aW3 : State := (aW2.modArc fun u => { u with writes := [⟨.records, 1, [en 0 5], 7⟩] })
def aQ0 : State := ((((aW2.wr (sessKey 5 Obj.arc.qNsid) 1).wr (sessKey 5 Obj.arc.qRing) 10).wr (sessKey 5 Obj.arc.qTo) 100).wr (sessKey 5 Obj.arc.qSelect) (w32 (2^31+2^30)))
def aQ : State := aQ0.modArc fun u => { u with queries := [(5, ⟨1, 10, none⟩)] }
def aQ2 : State := aQ0.modArc fun u => { u with queries := [(5, ⟨1, 10, some []⟩)] }
def aR : State := aM.setSt 0 fun x => { x with retired := some 4 }
def aT : State := aM.setSt 0 fun x => { x with retired := some 4, testing := true }
def aRs : State := aM.setNs 3 fun x => { x with resilver := some 4, degraded := true }
def bnd (src : Nat) : RingBind := { source := src, items := 2, mode := 0, period := 0 }
def aG (src : Nat) : State := { (wCat aM fun c => { c with archive := c.archive ++ [ar 4 0 0] }) with arc := { aM.arc with nss := aM.arc.nss ++ [(4, { NsX.initial with gb := 10, mounted := true })] } } |>.modNet fun u => { u with rings := [(20, { XRing.initial with bind := some (bnd src), entries := [List.replicate 64 1, List.replicate 64 2] })] }

theorem witness_StorageAndRecorder :
    (∃ (s : State), Ready s) ∧
    (∃ (s : State) (p : Fin 2), Ready s ∧ (s.st p).retired = none) ∧
    (∃ (s : State) (p : Fin 2), Ready s ∧ (s.st p).retired.isSome = true ∧ (s.st p).testing = false) ∧
    (∃ (s : State) (p : Fin 2), Ready s ∧ (s.st p).testing = true) ∧
    (∃ (s : State) (nsid : Byte) (k : Nat), Ready s ∧ (s.ns nsid.toNat).resilver = some k) ∧
    (∃ (s : State) (p : Fin 2), Ready s ∧ (s.st p).testing = false ∧ (s.st p).serves = true) ∧
    (∃ (s : State), Ready s) ∧
    (∃ (s : State), Ready s ∧ s.rcd.flushing = false ∧ s.rcd.page < 256 ∧ 0 < s.rcd.toFlush.length ∧ s.rcd.toFlush.length ≤ 16) ∧
    (∃ (s : State), Ready s ∧ s.rcd.flushing = true) ∧
    (∃ (s : State), Ready s) :=
  ⟨⟨State.reset, by unfold Ready; decide +kernel⟩,
    ⟨State.reset, 0, by unfold Ready; decide +kernel⟩,
    ⟨aR, 0, by unfold Ready; decide +kernel⟩,
    ⟨aT, 0, by unfold Ready; decide +kernel⟩,
    ⟨aRs, 3, 4, by unfold Ready; decide +kernel⟩,
    ⟨aW3, 0, by unfold Ready; decide +kernel⟩,
    ⟨State.reset, by unfold Ready; decide +kernel⟩,
    ⟨{ soloS with rcd := { soloS.rcd with buffer := [rec0] } }, by unfold Ready; decide +kernel⟩,
    ⟨aE, by unfold Ready; decide +kernel⟩,
    ⟨State.reset, by unfold Ready; decide +kernel⟩⟩

theorem witness_ArchiveTraffic :
(∃ (s : State) (r : ArchiveRec), Ready s ∧ s.nsFor 2 = some r ∧ s.rcd.sealedFrom s.rcd.archRn ≠ [] ∧ s.writable r = true ∧ s.arc.writes.any (fun v =>
      v.src == .records) = false ∧ (s.ns r.nsid).segs.length < (s.ns r.nsid).slots) ∧
(∃ (s : State) (r : ArchiveRec) (a : RingAllocRec) (k : BitVec 20) (b : RingBind), Ready s ∧ s.ringAlloc k.toNat = some a ∧ a.cls = 3 ∧ (s.xRing
      k.toNat).bind = some b ∧ (s.xRing k.toNat).entries ≠ [] ∧ s.nsFor (contentOf b.source) = some r ∧ s.writable r = true ∧ s.arc.writes.any (fun v
      => v.src == .ring k) = false ∧ (s.ns r.nsid).segs.length < (s.ns r.nsid).slots) ∧
(∃ (s : State) (a : RingAllocRec) (k : BitVec 20) (b : RingBind), Ready s ∧ s.ringAlloc k.toNat = some a ∧ a.cls = 3 ∧ (s.xRing k.toNat).bind = some b
      ∧ (s.xRing k.toNat).entries ≠ [] ∧ s.nsFor (contentOf b.source) = none) ∧
(∃ (s : State) (r : ArchiveRec), Ready s ∧ s.nsFor 3 = some r ∧ s.arc.captures ≠ [] ∧ s.writable r = true ∧ s.arc.writes.any (fun v => v.src ==
      .captures) = false ∧ (s.ns r.nsid).segs.length < (s.ns r.nsid).slots) ∧
(∃ (s : State) (src : DrainSrc) (r : ArchiveRec) (w : ArcWrite), Ready s ∧ s.arc.writes.find? (fun v => v.src == src) = some w ∧ s.archiveRec w.nsid =
      some r) ∧
(∃ (s : State) (i : Fin 68) (a : RingAllocRec), Ready s ∧ s.bits (sessKey i Obj.arc.qStatus) 1 0 ≠ 1 ∧ s.bits (sessKey i Obj.arc.qStatus) 1 0 ≠ 2 ∧
      (s.archiveRec (s.bits (sessKey i Obj.arc.qNsid) 7 0)).isSome = true ∧ s.ringAlloc (s.bits (sessKey i Obj.arc.qRing) 19 0) = some a ∧ a.cls = 2 ∧
      (s.ns (s.bits (sessKey i Obj.arc.qNsid) 7 0)).mounted = true) ∧
    (∃ (s : State) (i : Fin 68), Ready s ∧ s.bits (sessKey i Obj.arc.qStatus) 1 0 = 1) ∧
(∃ (s : State) (i : Fin 68) (q : QueryX) (a : RingAllocRec), Ready s ∧ s.arc.queries.find? (fun x => x.1 == i.val) = some (i.val, q) ∧ s.ringAlloc
      q.ring = some a ∧ q.left = none) ∧
(∃ (s : State) (i : Fin 68) (q : QueryX) (a : RingAllocRec) (l : List ArcEntry), Ready s ∧ s.arc.queries.find? (fun x => x.1 == i.val) = some (i.val,
      q) ∧ s.ringAlloc q.ring = some a ∧ q.left = some l) ∧
    (∃ (s : State), Ready s) :=
  ⟨⟨aE, ((if aE.arc.queries.isEmpty && (aE.xRing 20).bind.isSome then ar 4 0 0 else ar 1 2 0)), by unfold Ready; decide +kernel⟩,
    ⟨(aG 0x06000000), (ar 4 0 0), (rr 20 3), 20, (bnd 0x06000000), by unfold Ready; decide +kernel⟩,
    ⟨(aG 0x05000000), (if ((aG 0x05000000).xRing 20).bind.isSome then rr 20 3 else rr 10 2), 20, (bnd (if ((aG 0x05000000).ns 4).mounted && (((aG 0x05000000).xRing 20).bind.map (·.source)) == some 0x06000000 then 0x06000000 else 0x05000000)), by unfold Ready; decide +kernel⟩,
    ⟨aW3, (ar 2 3 2), by unfold Ready; decide +kernel⟩,
    ⟨aW3, .records, ((if aW3.arc.queries.isEmpty && (aW3.xRing 20).bind.isSome then ar 4 0 0 else ar 1 2 0)), (aW3.arc.writes.headD ⟨.records, 1, [], 0⟩), by unfold Ready; decide +kernel⟩,
    ⟨aQ0, 5, (if (aQ0.xRing 20).bind.isSome then rr 20 3 else rr 10 2), by unfold Ready; decide +kernel⟩,
    ⟨(aQ0.wrBits (sessKey 5 Obj.arc.qStatus) 1 0 1), 5, by unfold Ready; decide +kernel⟩,
    ⟨aQ, 5, ((aQ.arc.queries.headD (5, ⟨0, 0, none⟩)).2), (if (aQ.xRing 20).bind.isSome then rr 20 3 else rr 10 2), by unfold Ready; decide +kernel⟩,
    ⟨aQ2, 5, ((aQ2.arc.queries.headD (5, ⟨0, 0, none⟩)).2), (if (aQ2.xRing 20).bind.isSome then rr 20 3 else rr 10 2), (((aQ2.arc.queries.headD (5, ⟨0, 0, none⟩)).2).left.getD []), by unfold Ready; decide +kernel⟩,
    ⟨State.reset, by unfold Ready; decide +kernel⟩⟩

end W8

/-! ### Witnesses: CAN -/

namespace W9

/-- The next state. -/
def nf (f : State → Host.Outcome State Fault Refusal) (s : State) : State := match f s with | .next t => t | _ => s
def wCat (s : State) (f : Catalogue → Catalogue) : State := { s with cat := { s.cat with cat := s.cat.cat.map f } }
def cr (m : Nat) : CanRec := { bus := 2, fd := true, brs := true, nominal := 500, data := 2000, sampleNom := 800, sampleData := 750, wakeFilter := 0, wakeMode := m, wakeId := 0x123, wakeMask := 0x1FFFFFFF, wakeData := [], wakeDmask := [], filters := [⟨0x123, 0x7FF⟩, ⟨0x40000200, 0x7FF⟩] }
def f1 : CanFrame := ⟨0x123, 8, false, false, List.replicate 8 0⟩
def f2 : CanFrame := ⟨0x200, 8, false, false, List.replicate 8 0⟩
def f3 : CanFrame := ⟨0x300, 8, false, false, List.replicate 8 0⟩
def kS (m st : Nat) (s : State) : State := (wCat s fun c => { c with can := [cr m] }).wrBits (Obj.bus.busStatus 2) 2 0 st
def k1 : State := kS 0 1 soloS
def tb (st sh : Bool) : TxBuf := ⟨f2, 3, sh, st⟩
def k2 : State := k1.setBusX 2 fun x => { x with bufs := [(4, tb false false)] }
def k3 : State := k1.setBusX 2 fun x => { x with bufs := [(4, tb true false)] }
def k4 : State := k1.setBusX 2 fun x => { x with bufs := (List.range 32).map fun j => (j, tb false false) }
def kOff : State := (k2.wrBits (Obj.bus.busStatus 2) 5 4 2).flag Obj.cans.canSummary 2
def kRec : State := kOff.setBusX 2 fun x => { x with recovering := true }
def kFull : State := k2.setBusX 2 fun x => { x with rx0 := List.replicate 64 ⟨0, f1, 0⟩, rx1 := List.replicate 64 ⟨0, f2, 0⟩ }
def kRet : State := nf (execBusRetire 2) k2
def kTst : State := nf (execBusReinstate 2) kRet
def kDor (m : Nat) : State := kS m 3 (baseS 0 .dormant)

theorem witness_CanFramesAndBuses :
    (∃ (s : State) (b : Fin 16) (r : CanRec) (j : Nat), Ready s ∧ s.canRec b = some r ∧ s.onBus b = true ∧ (s.busX b).freeBuf = some j) ∧
    (∃ (s : State) (b : Fin 16) (r : CanRec), Ready s ∧ s.canRec b = some r ∧ s.onBus b = true ∧ (s.busX b).freeBuf = none) ∧
(∃ (s : State) (b : Fin 16) (k : Fin 32) (x : TxBuf), Ready s ∧ s.onBus b = true ∧ s.bits (Obj.bus.busStatus b) 5 4 ≠ 2 ∧ x.shadow = false ∧ (s.busX
      b).bufs.find? (fun y => y.1 == k.val) = some (k.val, x)) ∧
(∃ (s : State) (b : Fin 16) (e : CanTxError) (x : TxBuf), Ready s ∧ s.onBus b = true ∧ s.bits (Obj.bus.busStatus b) 5 4 ≠ 2 ∧ x.shadow = false ∧
      (s.busX b).bufs.find? (fun y => y.1 == e.buffer.val) = some (e.buffer.val, x) ∧ e.lostArbitration = true ∧ s.busState b = BusSt.normal) ∧
(∃ (s : State) (b : Fin 16) (e : CanTxError) (x : TxBuf), Ready s ∧ s.onBus b = true ∧ s.bits (Obj.bus.busStatus b) 5 4 ≠ 2 ∧ x.shadow = false ∧
      (s.busX b).bufs.find? (fun y => y.1 == e.buffer.val) = some (e.buffer.val, x) ∧ e.lostArbitration = false) ∧
    (∃ (s : State) (b : Fin 16), Ready s ∧ s.onBus b = true) ∧
(∃ (s : State) (b : Fin 16) (f : CanFrame) (r : CanRec) (i : Nat) (second : Bool), Ready s ∧ s.onBus b = true ∧ s.canRec b = some r ∧
      s.lockstepStandby = false ∧ r.place f = some (i, second) ∧ (if second then (s.busX b).rx1 else (s.busX b).rx0).length < 64) ∧
(∃ (s : State) (b : Fin 16) (f : CanFrame) (r : CanRec) (i : Nat) (second : Bool), Ready s ∧ s.onBus b = true ∧ s.canRec b = some r ∧
      s.lockstepStandby = false ∧ r.place f = some (i, second) ∧ 64 ≤ (if second then (s.busX b).rx1 else (s.busX b).rx0).length) ∧
    (∃ (s : State) (b : Fin 16) (f : CanFrame) (r : CanRec), Ready s ∧ s.onBus b = true ∧ s.canRec b = some r ∧ r.place f = none) ∧
(∃ (s : State) (b : Fin 16) (f : CanFrame) (r : CanRec) (i : Nat) (second : Bool), Ready s ∧ s.onBus b = true ∧ s.canRec b = some r ∧
      s.lockstepStandby = true ∧ r.place f = some (i, second)) ∧
(∃ (s : State) (b : Fin 16) (k : Fin 32) (sof : Bool) (x : TxBuf), Ready s ∧ (s.busX b).bufs.find? (fun y => y.1 == k.val) = some (k.val, x) ∧
      x.started = false ∧ sof = false) ∧
(∃ (s : State) (b : Fin 16) (k : Fin 32) (sof : Bool) (x : TxBuf), Ready s ∧ (s.busX b).bufs.find? (fun y => y.1 == k.val) = some (k.val, x) ∧
      (x.started = true ∨ sof = true)) ∧
    (∃ (s : State) (b : Fin 16) (k : Fin 32), Ready s ∧ (s.busX b).bufs.find? (fun y => y.1 == k.val) = none) ∧
    (∃ (s : State) (b : Fin 16), Ready s ∧ s.bits (Obj.bus.busStatus b) 5 4 = 2 ∧ (s.busX b).recovering = false) ∧
    (∃ (s : State) (b : Fin 16), Ready s ∧ s.bits (Obj.bus.busStatus b) 5 4 ≠ 2) ∧
    (∃ (s : State) (b : Fin 16), Ready s ∧ (s.busX b).recovering = true) ∧
    (∃ (s : State) (b : Fin 16), Ready s ∧ s.busRetired b = false) ∧
    (∃ (s : State) (b : Fin 16), Ready s ∧ s.busRetired b = true ∧ (s.busX b).testing = none) ∧
    (∃ (s : State) (b : Fin 16), Ready s ∧ (s.busX b).testing.isSome = true) ∧
    (∃ (s : State), Ready s) ∧
    (∃ (s : State) (b : Fin 16), Ready s ∧ (s.sys.mode = .dormant ∨ s.sys.trans = .park) ∧ s.busRetired b = false ∧ (s.busX b).testing = none) ∧
    (∃ (s : State) (b : Fin 16) (r : CanRec), Ready s ∧ s.canRec b = some r ∧ s.busState b = BusSt.asleep ∧ r.wakeMode = 0) ∧
(∃ (s : State) (b : Fin 16) (r : CanRec) (f : CanFrame), Ready s ∧ s.canRec b = some r ∧ s.busState b = BusSt.asleep ∧ r.wakeMode = 1 ∧ r.wakes f =
      true) :=
  ⟨⟨k1, 2, (cr 0), 0, by unfold Ready; decide +kernel⟩,
    ⟨k4, 2, (cr 0), by unfold Ready; decide +kernel⟩,
    ⟨k2, 2, 4, (tb false false), by unfold Ready; decide +kernel⟩,
    ⟨k3, 2, ⟨4, true, false⟩, (tb true false), by unfold Ready; decide +kernel⟩,
    ⟨k2, 2, ⟨4, false, false⟩, (tb false false), by unfold Ready; decide +kernel⟩,
    ⟨k1, 2, by unfold Ready; decide +kernel⟩,
    ⟨k1, 2, f1, (cr 0), 0, false, by unfold Ready; decide +kernel⟩,
    ⟨kFull, 2, f1, (cr 0), 0, false, by unfold Ready; decide +kernel⟩,
    ⟨k1, 2, f3, (cr 0), by unfold Ready; decide +kernel⟩,
    ⟨(kS 0 2 stbS), 2, f1, (cr 0), 0, false, by unfold Ready; decide +kernel⟩,
    ⟨k2, 2, 4, false, (tb false false), by unfold Ready; decide +kernel⟩,
    ⟨k3, 2, 4, true, (tb true false), by unfold Ready; decide +kernel⟩,
    ⟨State.reset, 2, 4, by unfold Ready; decide +kernel⟩,
    ⟨kOff, 2, by unfold Ready; decide +kernel⟩,
    ⟨State.reset, 2, by unfold Ready; decide +kernel⟩,
    ⟨kRec, 2, by unfold Ready; decide +kernel⟩,
    ⟨State.reset, 2, by unfold Ready; decide +kernel⟩,
    ⟨kRet, 2, by unfold Ready; decide +kernel⟩,
    ⟨kTst, 2, by unfold Ready; decide +kernel⟩,
    ⟨State.reset, by unfold Ready; decide +kernel⟩,
    ⟨(baseS 0 .dormant), 2, by unfold Ready; decide +kernel⟩,
    ⟨(kDor 0), 2, (cr 0), by unfold Ready; decide +kernel⟩,
    ⟨(kDor 1), 2, (cr 1), f1, by unfold Ready; decide +kernel⟩⟩

end W9

/-! ### Witnesses: field channels -/

namespace W10

def wCat (s : State) (f : Catalogue → Catalogue) : State := { s with cat := { s.cat with cat := s.cat.cat.map f } }
def fr0 (cls ch : Nat) : FieldRec := { cls := cls, channel := ch, filterN := 2, parallel := 2, aoMode := 0, stopValue := 1, aoChar := 0, fsk := true, wake := 3, curve := 0 }
def iS (s : State) : State := wCat s fun c => { c with fieldIo := [fr0 0 3, fr0 1 4, fr0 2 5] }
def i1 : State := ((((((iS soloS).wr 0xe010200 7).wr 0xe010209 1).wr 0xe010280 7).wr 0xe010289 1).wr 0xe014280 1).wr 0xe014285 1
def i1b : State := ((i1.wr 0xe010204 1).wr 0xe010205 1).wr (Obj.dout.doCfg 4) 1
def i2 : State := i1b.setDoX 4 fun x => { x with cut := 1 }
def i3 : State := i1b.setDoX 4 fun x => { x with cut := 2 }
def iR (ch : IoChannel) : State := match ch with
  | .di _ => i1b.wr 0xe008180 0x5000004
  | .dout _ => (i1b.wrBits (Obj.dout.doStatus 4) 3 3 1).wrBits (Obj.dout.doStatus 4) 31 24 5
  | .ao _ => (i1b.wrBits (Obj.ao.aoStatus 5) 2 2 1).wrBits (Obj.ao.aoStatus 5) 31 24 5
def iB : State := iS stbS
def iSt : State := (iS { stbS with sys := { stbS.sys with lockstep := false } }).driveOutputs
def i4 : State := i1b.flag (Obj.ao.aoStatus 5) 4
def i5 : State := i1b.setAoX 5 fun x => { x with rx := List.replicate 256 (1, false), tx := List.replicate 254 1 }

theorem witness_FieldChannels :
    (∃ (s : State), Ready s) ∧
    (∃ (s : State) (ch : IoChannel), Ready s ∧ s.ioRetired ch = false) ∧
    (∃ (s : State) (ch : IoChannel), Ready s ∧ s.ioRetired ch = true ∧ hasKey (ioChan ch).inst s.io.tests = false) ∧
    (∃ (s : State) (ch : IoChannel), Ready s ∧ hasKey (ioChan ch).inst s.io.tests = true) ∧
    (∃ (s : State), Ready s) ∧
    (∃ (s : State) (f : Fin 4), Ready s ∧ s.supplyOk f = true) ∧
    (∃ (s : State) (f : Fin 4), Ready s ∧ s.supplyOk f = false) :=
  ⟨⟨State.reset, by unfold Ready; decide +kernel⟩,
    ⟨State.reset, (.di 3), by unfold Ready; decide +kernel⟩,
    ⟨(iR (.di 3)), (.di 3), by unfold Ready; decide +kernel⟩,
    ⟨{ i1b with io := { i1b.io with tests := [((ioChan (.di 3)).inst, 0)] } }, (.di 3), by unfold Ready; decide +kernel⟩,
    ⟨State.reset, by unfold Ready; decide +kernel⟩,
    ⟨stopS, 0, by unfold Ready; decide +kernel⟩,
    ⟨State.reset, 0, by unfold Ready; decide +kernel⟩⟩

theorem witness_DigitalIo :
    (∃ (s : State), Ready s ∧ s.sys.mode ≠ .boot) ∧
    (∃ (s : State) (c : Fin 128), Ready s ∧ s.gangHead c = c.val) ∧
    (∃ (s : State) (c : Fin 128), Ready s ∧ s.gangHead c ≠ c.val) ∧
    (∃ (s : State) (c : Fin 128), Ready s ∧ s.bit (Obj.dout.doStatus c) 3 = false) ∧
    (∃ (s : State) (c : Fin 128), Ready s ∧ (s.doX c).cut = 1) ∧
    (∃ (s : State) (c : Fin 128), Ready s ∧ (s.doX c).cut = 2) ∧
    (∃ (s : State) (c : Fin 128), Ready s ∧ s.bit (Obj.dout.doCfg c) 0 = true ∧ s.bit (Obj.dout.doStatus c) 1 = true) ∧
    (∃ (s : State) (c : Fin 128), Ready s ∧ s.bit (Obj.dout.doStatus c) 3 = false) ∧
    (∃ (s : State), Ready s ∧ s.testsStages = true) :=
  ⟨⟨stopS, by unfold Ready; decide +kernel⟩,
    ⟨State.reset, 4, by unfold Ready; decide +kernel⟩,
    ⟨(iS soloS), 5, by unfold Ready; decide +kernel⟩,
    ⟨State.reset, 4, by unfold Ready; decide +kernel⟩,
    ⟨i2, 4, by unfold Ready; decide +kernel⟩,
    ⟨i3, 4, by unfold Ready; decide +kernel⟩,
    ⟨i1b, 4, by unfold Ready; decide +kernel⟩,
    ⟨State.reset, 4, by unfold Ready; decide +kernel⟩,
    ⟨stbS, by unfold Ready; decide +kernel⟩⟩

theorem witness_AnalogOutputs :
    (∃ (s : State) (c : Fin 64), Ready s ∧ s.aoUsed c = true) ∧
    (∃ (s : State) (c : Fin 64), Ready s ∧ s.aoUsed c = false) ∧
    (∃ (s : State), Ready s) ∧
    (∃ (s : State) (c : Fin 64), Ready s ∧ s.bit (Obj.ao.aoStatus c) 3 = false) ∧
    (∃ (s : State), Ready s) ∧
    (∃ (s : State) (c : Fin 64), Ready s ∧ s.bit (Obj.ao.aoStatus c) 4 = false) ∧
    (∃ (s : State) (c : Fin 64), Ready s ∧ s.bit (Obj.ao.aoStatus c) 4 = true) ∧
(∃ (s : State) (c : Fin 64) (readback : Word), Ready s ∧ s.testsStages = true ∧ s.bits (Obj.ao.aoStatus c) 1 0 = 2 ∧ (s.rd (Obj.ao.aoTarget c)).toNat
      + 100 < readback.toNat) ∧
    (∃ (s : State) (c : Fin 64), Ready s ∧ s.fskOn c = true ∧ s.lockstepStandby = false ∧ (s.aoX c).rx.length < 256) ∧
    (∃ (s : State) (c : Fin 64), Ready s ∧ s.fskOn c = true ∧ s.lockstepStandby = false ∧ 256 ≤ (s.aoX c).rx.length) ∧
    (∃ (s : State) (c : Fin 64), Ready s ∧ s.fskOn c = true ∧ s.lockstepStandby = true) ∧
(∃ (s : State) (c : Fin 64) (bytes : List Byte), Ready s ∧ s.fskOn c = true ∧ s.bits (Obj.ao.aoStatus c) 1 0 = 1 ∧ bytes.take (256 - (s.aoX
      c).tx.length) ≠ []) ∧
    (∃ (s : State) (c : Fin 64), Ready s ∧ s.fskOn c = true ∧ s.bits (Obj.ao.aoStatus c) 1 0 ≠ 1) ∧
    (∃ (s : State) (c : Fin 64), Ready s ∧ s.fskOn c = true) ∧
    (∃ (s : State), Ready s) :=
  ⟨⟨(iS soloS), 5, by unfold Ready; decide +kernel⟩,
    ⟨State.reset, 5, by unfold Ready; decide +kernel⟩,
    ⟨State.reset, by unfold Ready; decide +kernel⟩,
    ⟨State.reset, 5, by unfold Ready; decide +kernel⟩,
    ⟨State.reset, by unfold Ready; decide +kernel⟩,
    ⟨State.reset, 5, by unfold Ready; decide +kernel⟩,
    ⟨i4, 5, by unfold Ready; decide +kernel⟩,
    ⟨iSt, 5, 60000, by unfold Ready; decide +kernel⟩,
    ⟨(iS soloS), 5, by unfold Ready; decide +kernel⟩,
    ⟨i5, 5, by unfold Ready; decide +kernel⟩,
    ⟨iB, 5, by unfold Ready; decide +kernel⟩,
    ⟨i1b, 5, [1,2,3], by unfold Ready; decide +kernel⟩,
    ⟨(iS soloS), 5, by unfold Ready; decide +kernel⟩,
    ⟨(iS soloS), 5, by unfold Ready; decide +kernel⟩,
    ⟨State.reset, by unfold Ready; decide +kernel⟩⟩

end W10

/-! ### Witnesses: estimation, learning, strings -/

namespace W11

/-- The next state. -/
def nf (f : State → Host.Outcome State Fault Refusal) (s : State) : State := match f s with | .next t => t | _ => s
def chem0 : ChemRec := { profile := 0, qSoc := 0x322BCC77, qRc := 0x358637BD, rMeas := 0x358637BD, p0Soc := 0x3C23D70A, p0Rc := 0x38D1B717, socOcv := [0, 10000], temp := [-2000, 6000], ocv := [30000, 34000, 30000, 34000], socRc := [0, 10000], rsTab := [1000, 1000, 1000, 1000], raTab := [1000, 1000, 1000, 1000], caTab := [10000, 10000, 10000, 10000], rbTab := [1000, 1000, 1000, 1000], cbTab := [10000, 10000, 10000, 10000] }
def wC (f : Catalogue → Catalogue) (s : State) : State := { s with cat := { s.cat with cat := s.cat.cat.map f } }
def tnr : NodeRec := { string := 3, p := 1, kind := 0, firstCell := 0, cells := 4, temps := 2, auxType := 0, serial := 11 }
def wE (s : State) : State := wC (fun c => { c with chems := [chem0], nodes := [tnr, { tnr with p := 2, kind := 1, cells := 0 }], strings := c.strings.map fun r => { r with balance := true } }) s
def es (st : Nat) (s : State) : State := (List.range 4).foldl (fun t k => t.setCell (3 * 512 + k) fun x => { x with state := st, cap := 280000, temp := 2500, z := 2 ^ 29, sRs := 4096, sCt := 4096 }) (wE s)
def e11a := (es 1 soloS).wr Obj.imp.arrayStatus 0xFFFF
def rS11 : State := (((e11a.wrBits (Obj.port.portStatus 3) 3 0 3).wrBits (Obj.port.ring 3) 3 0 2).wrBits (Obj.port.ring 3) 13 8 2).wrBits (Obj.port.ring 3) 21 16 3
def r11 : CapRecord := { first := 100, stepMa := 1000, stepNo := 110 }
def e11f := e11a.setStrX 3 fun x => { x with record := some r11 }
def bt : Batch := { sxx := 0x3F800000, sxy := 0x3F800000, syy := 0x3F800000, count := 3, firstAt := 5 }
def e11g := e11a.setCellLearn (3*512+1) fun x => { x with rs := bt, ct := bt, anchor := some ⟨0, 5, 6⟩ }
def f11 : NodeFrame := ⟨3, 0x82, 1, 2, 0, BitVec.ofNat 32 (soloS.now / 1000000), List.replicate 32 0x11⟩
def ci : Fin 131072 := ⟨3*512+1, by decide⟩
def bOn (s : State) : State := ((s.wr (Obj.bal.balCfg 3) 0x320A1410).wr (Obj.bal.balCfg2 3) 0x00210F53)
def elg (s : State) : State := ((List.range 4).foldl (fun t k => (t.wr (Obj.cell.soc (3*512+k)) (w32 ((5000 + 100 * k) * 65536))).wr (Obj.cell.socSigma (3*512+k)) 5) s) |>.setStrX 3 fun x => { x with lastClosed := some (5, 5) }
def e12b := elg (bOn e11a)
def e12c := nf (execBalRound 3) e12b
def e12d := e12c.setCellBal (3*512+1) fun x => { x with holdoff := some 7 }

theorem witness_EstimatorEvents :
    (∃ (s : State) (n : Fin 256), Ready s ∧ s.hasString n = true ∧ s.bit (Obj.str.estStatus n) 4 = false) ∧
(∃ (s : State) (node : NodeId) (r : NodeRec), Ready s ∧ s.nodeRec node.string node.p = some r ∧ r.kind = 0 ∧ (∃ i ∈ r.cellIdx, (s.cell i).state = 1 ∨
      (s.cell i).state = 2)) ∧
    (∃ (s : State) (lane : Fin 16), Ready s ∧ s.bit Obj.imp.arrayStatus lane = true) ∧
    (∃ (s : State) (n : Fin 256) (c : ChemRec) (h : ThreshRec), Ready s ∧ s.chemOf n = some c ∧ s.threshOf n = some h) ∧
    (∃ (s : State), Ready s) :=
  ⟨⟨stopS, 3, by unfold Ready; decide +kernel⟩,
    ⟨e11a, ⟨3, 1⟩, tnr, by unfold Ready; decide +kernel⟩,
    ⟨State.reset, 2, by unfold Ready; decide +kernel⟩,
    ⟨e11a, 3, chem0, ((cat0 0).thresholds.headD ⟨0,0,0,0,0,0,0,0,0,0,0,0,0,0⟩), by unfold Ready; decide +kernel⟩,
    ⟨State.reset, by unfold Ready; decide +kernel⟩⟩

theorem witness_CellCommands :
    (∃ (s : State), Ready s) ∧
    (∃ (s : State) (i : Fin 131072), Ready s ∧ s.cellExists i = true) ∧
    (∃ (s : State) (i : Fin 131072), Ready s ∧ s.cellExists i = true ∧ (s.sys.mode = .stop ∨ s.sys.mode = .service)) :=
  ⟨⟨State.reset, by unfold Ready; decide +kernel⟩,
    ⟨stopS, ci, by unfold Ready; decide +kernel⟩,
    ⟨stopS, ci, by unfold Ready; decide +kernel⟩⟩

theorem witness_LearningEvents :
(∃ (s : State) (f : NodeFrame), Ready s ∧ s.link f.port = Link.up ∧ s.hasString (f.port % 256) = true ∧ s.frameLocated f = true ∧ (s.ringX (f.port %
      256)).eff ≠ Rs.miswired ∧ (s.nodeRec (f.port % 256) (senderOf (s.ringN (f.port % 256)) f)).isSome = true ∧ s.copiesNeeded (f.port % 256)
      (senderOf (s.ringN (f.port % 256)) f) ≠ 1 ∧ ((s.strX (f.port % 256)).frames.any fun x => x.p == senderOf (s.ringN (f.port % 256)) f && x.first
      == f.seq.toNat) = false ∧ signedOf 32 (s.now / 1000000 % 2 ^ 32 + 2 ^ 32 - f.seq.toNat) ≤ 650) ∧
    (∃ (s : State) (n : Fin 256) (r : CapRecord), Ready s ∧ (s.strX n).record = some r ∧ s.recordComplete n r = false) ∧
    (∃ (s : State) (i : Fin 131072) (ct : Bool), Ready s ∧ (if ct then (s.cellLearn i).ct else (s.cellLearn i).rs).count ≠ 0) ∧
    (∃ (s : State) (i : Fin 131072), Ready s ∧ (s.cellLearn i).anchor.isSome = true) ∧
    (∃ (s : State) (n : Fin 256), Ready s ∧ ((s.cellIdxOf n).any fun k => (s.cellLearn k).anchor.isSome) = true) :=
  ⟨⟨rS11, f11, by unfold Ready; decide +kernel⟩,
    ⟨e11f, 3, r11, by unfold Ready; decide +kernel⟩,
    ⟨e11g, ci, true, by unfold Ready; decide +kernel⟩,
    ⟨e11g, ci, by unfold Ready; decide +kernel⟩,
    ⟨e11g, 3, by unfold Ready; decide +kernel⟩⟩

theorem witness_StringCommands :
    (∃ (s : State) (n : Fin 256), Ready s ∧ s.hasString n = true ∧ s.balanced n = false) ∧
    (∃ (s : State) (n : Fin 256), Ready s ∧ s.balanced n = true) ∧
    (∃ (s : State) (i : Fin 131072), Ready s ∧ (s.cellBal i).holdoff.isSome = true) ∧
    (∃ (s : State) (n : Fin 256), Ready s ∧ s.hasString n = true) ∧
    (∃ (s : State) (n : Fin 256), Ready s ∧ s.bits (Obj.str.strStatus n) 12 8 = 0) :=
  ⟨⟨stopS, 3, by unfold Ready; decide +kernel⟩,
    ⟨e11a, 3, by unfold Ready; decide +kernel⟩,
    ⟨e12d, ci, by unfold Ready; decide +kernel⟩,
    ⟨stopS, 3, by unfold Ready; decide +kernel⟩,
    ⟨State.reset, 3, by unfold Ready; decide +kernel⟩⟩

theorem witness_AbsentCellsAddressNothing :
    ∃ (s : State) (n : Fin 256) (k : Fin 512) (i : Fin 131072), Ready s ∧ i.val = n.val * 512 + k.val ∧ s.cellsOf n ≤ k.val :=
  ⟨soloS, 3, 511, ⟨3 * 512 + 511, by decide⟩, by unfold Ready; decide +kernel⟩

end W11

/-! ### Witnesses: loops and tasks -/

namespace W12

/-- What a boundary finds outside a pair. -/
def seen : CycleSeen := ⟨true, true, false, false, [], []⟩
def wC (f : Catalogue → Catalogue) (s : State) : State := { s with cat := { s.cat with cat := s.cat.cat.map f } }
def lr (k : Nat) : LoopRec := { slot := k, task := 0, reverse := false, dOnMeas := false, cascade := 0, period := 10000, outer := 0, cascadeN := 1, kp := 0x3F800000, ti := 0x3F800000, td := 0, outMin := 0, outMax := 0x42C80000, ramp := 0, pvSrc := 0, outDst := 0 }
def wL (s : State) : State := wC (fun c => { c with loops := [lr 5, { lr 6 with cascade := 1, outer := 7 }, { lr 7 with cascade := 2 }] }) s
def jb : Job := { release := 10000, commitAt := 20000, startedAt := 5, moved := false, finished := false, exec := 0, writes := [], reads := [] }
def l0 := wL soloS
def l1 : State := (wL soloS).setTaskX 0 fun x => { x with job := some jb }
def due (s : State) := (s.setLoopX 5 fun x => { x with due := some 10000 }).setLoopX 6 fun x => { x with due := some 10000 }
def l2 := due l1
def l2p := l2.setLoopX 5 fun x => { x with jobPv := some 0x41200000 }
def tuneOk (s : State) := (s.wr (Obj.loop.out 5) 0x41A00000).wr (Obj.loop.tuneD 5) 0x40000000
def l3 := tuneOk l1
def l4 : State :=
  (((l3.wr (Obj.loop.loopStatus 5) 0x100004).wr (Obj.loop.loopStatus 6) 0x40003).wr (Obj.loop.loopStatus 7) 0x80003).setLoopX 5 fun x =>
    { x with core := { x.core with tune := some { bias := 0x41a00000, out := 0x41a00000, relay := 0, cycleAt := none, switchAt := 1000, pvMax := 0x41a00000, pvMin := 0x41a00000, cycles := [], first := false, former := 3 } } }
def l4p := due (l4.setLoopX 5 fun x => { x with jobPv := some 0x41200000 })
def l5 := l2p.wrBits (Obj.loop.loopStatus 5) 21 20 2 |>.wrList (Obj.loop.propKp 5) [1, 2, 3]
def tr : TaskRec := { task := 0, cls := 1, kind := 0, priority := 0, period := 10000, wcet := 100, eventSrc := 0, codeIndex := 0, core := 0 }
def jr : JobResult := { exec := 50, writes := [.var 3 0 [1, 2], .object (BitVec.ofNat 32 (Obj.loop.sp 5)) 0x3F800000], reads := [(3, 5, 1)] }
def t3 := l2p.modSched fun u => { u with resync := true }

theorem witness_LoopCalls :
    (∃ (s : State) (k : Fin 512) (r : LoopRec) (j : Job), Ready s ∧ s.loopRec k = some r ∧ s.loopJob r = some j) ∧
(∃ (s : State) (k : Fin 512) (r : LoopRec) (j : Job), Ready s ∧ s.loopRec k = some r ∧ s.loopJob r = some j ∧ (s.loopX k).due.isSome = true ∧ (s.loopX
      k).staged = none ∧ (s.loopMode r = Lm.auto ∨ s.loopMode r = Lm.manual ∨ s.loopMode r = Lm.tune)) ∧
    (∃ (s : State) (k : Fin 512), Ready s ∧ (s.loopX k).core.tune.isSome = true) :=
  ⟨⟨l1, 5, (lr 5), jb, by unfold Ready; decide +kernel⟩,
    ⟨l2, 5, (lr 5), jb, by unfold Ready; decide +kernel⟩,
    ⟨l4p, 5, by unfold Ready; decide +kernel⟩⟩

theorem witness_LoopCommands :
    (∃ (s : State), Ready s) ∧
    (∃ (s : State) (k : Fin 512) (r : LoopRec), Ready s ∧ s.loopRec k = some r) ∧
(∃ (s : State) (k : Fin 512) (item : Fin 3) (w : BitVec 32) (r : LoopRec), Ready s ∧ s.loopRec k = some r ∧ (s.loopX k).core.tune = none ∧ gainOk item
      w = true) ∧
(∃ (s : State) (k : Fin 512) (r : LoopRec), Ready s ∧ s.loopRec k = some r ∧ (s.loopMode r = Lm.auto ∨ s.loopMode r = Lm.manual) ∧ (s.innerOf k).map
      LoopRec.slot ≠ some k.val ∧ (r.cascade = 1 → ((s.loopRec r.outer).all fun q => s.loopMode q != Lm.auto && s.loopMode q != Lm.tune) = true) ∧
      B32.lt r.outMax (B32.add (s.rd (Obj.loop.out k)) (s.rd (Obj.loop.tuneD k))) = false ∧ B32.lt (B32.sub (s.rd (Obj.loop.out k)) (s.rd
      (Obj.loop.tuneD k))) r.outMin = false) ∧
    (∃ (s : State) (k : Fin 512) (r : LoopRec), Ready s ∧ s.loopRec k = some r ∧ s.bits (Obj.loop.loopStatus k) 21 20 = Tn.proposed) ∧
    (∃ (s : State) (k : Fin 512) (r : LoopRec), Ready s ∧ s.loopRec k = some r ∧ s.bits (Obj.loop.loopStatus k) 21 20 ≠ Tn.proposed) :=
  ⟨⟨State.reset, by unfold Ready; decide +kernel⟩,
    ⟨l0, 5, (lr 5), by unfold Ready; decide +kernel⟩,
    ⟨l0, 5, 1, 0x3F800000, (lr 5), by unfold Ready; decide +kernel⟩,
    ⟨l0, 5, (lr 5), by unfold Ready; decide +kernel⟩,
    ⟨l5, 5, (lr 5), by unfold Ready; decide +kernel⟩,
    ⟨l0, 5, (lr 5), by unfold Ready; decide +kernel⟩⟩

theorem witness_Tasks :
    (∃ (s : State), Ready s) ∧
    (∃ (s : State) (k : Fin 64) (r : TaskRec), Ready s ∧ s.taskRec k = some r) ∧
(∃ (s : State) (k : Fin 64) (x : JobResult) (r : TaskRec) (j : Job), Ready s ∧ s.taskRec k = some r ∧ (s.taskX k).job = some j ∧ j.finished = false ∧
      (x.writes.any fun w => match w with | .object a _ => !taskWritable a.toNat | _ => false) = false ∧ (x.reads.all fun q =>
      !s.sched.withdrawn.contains ⟨q.1, q.2.1.toNat, q.2.2⟩) = true) ∧
    (∃ (s : State) (k : Fin 64) (j : Job), Ready s ∧ (s.taskX k).job = some j ∧ j.finished = false) ∧
    (∃ (s : State), Ready s ∧ s.sched.resync = true) :=
  ⟨⟨State.reset, by unfold Ready; decide +kernel⟩,
    ⟨stopS, 0, tr, by unfold Ready; decide +kernel⟩,
    ⟨l1, 0, jr, tr, jb, by unfold Ready; decide +kernel⟩,
    ⟨l1, 0, jb, by unfold Ready; decide +kernel⟩,
    ⟨t3, by unfold Ready; decide +kernel⟩⟩

theorem witness_BoundaryBeginsCycle :
(∃ (s : State) (x : CycleSeen), Ready s ∧ s.red.commitDue = false ∧ x.builtInDone = true ∧ s.sched.hostStaged = [] ∧ s.red.due = [] ∧ s.sys.modeCmds =
      []) ∧
    (∃ (s : State) (x : CycleSeen), Ready s ∧ s.red.commitDue = false ∧ x.builtInDone = false) :=
  ⟨⟨State.reset, seen, by unfold Ready; decide +kernel⟩,
    ⟨State.reset, { seen with builtInDone := false }, by unfold Ready; decide +kernel⟩⟩

end W12

/-! ### Witnesses: pairs and hierarchies -/

namespace W13

/-- The next state. -/
def nf (f : State → Host.Outcome State Fault Refusal) (s : State) : State := match f s with | .next t => t | _ => s
def wC (f : Catalogue → Catalogue) (s : State) : State := { s with cat := { s.cat with cat := s.cat.cat.map f } }
def nq (s : State) : BitVec 64 := BitVec.ofNat 64 (s.red.rxNext.getD 0)
def bt0 : PartnerBeat := actS.heartbeat
def cutA (s : State) : State := nf (execPathSilent true) s
def ua (s : State) : State := { s with sys := { s.sys with unitB := true } }
def p3 := cutA (ua actS)
def sB : State := { stbS with red := { stbS.red with commitDue := false } }
def sBd : State := { stbS with red := { stbS.red with commitDue := true } }
def hr : HostReq := { id := 3, dest := .session 2, client := 7, no := 9, type := 3, at_ := 0, addr := 0, multi := false, pairAgreed := true, committed := true, discarded := false, left := 0, accepted := 1, refused := 0, first := none, ready := some (0, [1]), waiters := [] }
def sq9 : ReqHead := { client := 7, no := 9 }
def wHr (s : State) : State := { s with net := { s.net with reqs := [hr], nextReq := 9, sessions := [(2, { port := 0, identity := false, granted := 15, anchors := [], client := 7, lastAt := 0 })] } }
def jn (g : Bool) (s : State) : State := { s with red := { s.red with join := some ⟨1, 0, g, []⟩ } }
def tr0 : TaskRec := { task := 0, cls := 1, kind := 0, priority := 0, period := 10000, wcet := 100, eventSrc := 0, codeIndex := 0, core := 0 }
def fr0 (cls ch : Nat) : FieldRec := { cls := cls, channel := ch, filterN := 2, parallel := 2, aoMode := 0, stopValue := 1, aoChar := 0, fsk := true, wake := 3, curve := 0 }
def sn0 : Snap := ⟨77, 1000, false, []⟩
def wH (s : State) : State := wC (fun c => { c with fieldIo := [fr0 0 3, fr0 1 4] }) { s with scan := { s.scan with held := [⟨3, sn0⟩] } }
def wO (s : State) : State := s.setStrX 3 fun x => { x with snaps := [sn0] }
def ac0 (s : State) : AgreeCommit := { cycle := s.rd Obj.prot.cycleNo, outcomes := [], dos := [], aos := [], objs := [], canFree := [], prpIdentity := 0, cmdDigest := 0, mode := none, switch := none }
def sDet : State := { wH sB with red := { sB.red with detached := true, ilAt := some sB.up } }
def wW (r : Nat) (s : State) : State := wC (fun c => { c with redundancy := { c.redundancy with role := r, workers := 4 } }) s
def oS (s : State) : State := { s with net := { s.net with sessions := [(2, { port := 0, identity := false, granted := 15, anchors := [], client := 7, lastAt := 0 })] } }.wrBits (Obj.sess.sessStatus 2) 3 0 2 |>.wrBits (Obj.sess.sessStatus 2) 12 8 31
def own (s : State) : State := { s with sys := { s.sys with own := true } }
def w3 := own (oS (wW 3 soloS))
def w2 := own (oS (wW 2 soloS))
def w3b := w3.wrBits Obj.hier.hierStatus 3 0 1

theorem witness_PairPaths :
    (∃ (s : State) (second : Bool), Ready s ∧ s.bit Obj.red.redStatus (15 + second.toNat) = false) ∧
    (∃ (s : State) (second : Bool), Ready s ∧ s.bit Obj.red.redStatus (15 + second.toNat) = true) ∧
(∃ (s : State) (own : Bool), Ready s ∧ s.sys.cable = true ∧ (s.ilHeard = true ∨ s.pairRole = false ∨ s.sys.own = false ∨ own = false ∨ s.sys.unitB =
      false)) ∧
    (∃ (s : State), Ready s ∧ s.sys.cable = true ∧ s.ilHeard = false ∧ s.pairRole = true ∧ s.sys.own = true ∧ s.sys.unitB = true) ∧
    (∃ (s : State) (interlock : Bool), Ready s ∧ (if interlock then s.ilHeard else s.xHeard) = true ∧ s.pairRole = true) ∧
    (∃ (s : State), Ready s ∧ s.pairRole = true ∧ s.sys.mode ≠ .boot) ∧
(∃ (s : State) (seq : BitVec 64) (b : PartnerBeat), Ready s ∧ s.takesMessage seq.toNat = true ∧ (s.xHeard = true ∨ s.sys.own = false ∨ bitAt 15 b.mode
      = false ∨ s.sys.unitB = false)) :=
  ⟨⟨State.reset, false, by unfold Ready; decide +kernel⟩,
    ⟨actS, false, by unfold Ready; decide +kernel⟩,
    ⟨(baseS 1 .stop), true, by unfold Ready; decide +kernel⟩,
    ⟨p3, by unfold Ready; decide +kernel⟩,
    ⟨actS, false, by unfold Ready; decide +kernel⟩,
    ⟨(baseS 1 .stop), by unfold Ready; decide +kernel⟩,
    ⟨(baseS 1 .stop), (nq (baseS 1 .stop)), bt0, by unfold Ready; decide +kernel⟩⟩

theorem witness_PairMessages :
    (∃ (s : State) (seq : BitVec 64), Ready s ∧ s.takesMessage seq.toNat = true) ∧
(∃ (s : State) (seq : BitVec 64) (q : ReqHead) (x : HostReq) (i : Nat) (st : Nat) (payload : List Byte), Ready s ∧ s.takesMessage seq.toNat = true ∧
      s.net.reqs.find? (fun y => y.client == q.client.toNat && y.no == q.no.toNat && y.ready.isSome) = some x ∧ s.net.reqs.find? (fun y => y.id ==
      x.id) = some x ∧ x.ready = some (st, payload) ∧ x.dest = .session i ∧ (s.sessX i).isSome = true) ∧
    (∃ (s : State) (seq : BitVec 64), Ready s ∧ s.takesMessage seq.toNat = true ∧ s.sys.mode = .active) ∧
    (∃ (s : State) (seq : BitVec 64) (j : JoinX), Ready s ∧ s.takesMessage seq.toNat = true ∧ s.red.join = some j) ∧
    (∃ (s : State) (seq : BitVec 64) (j : JoinX), Ready s ∧ s.takesMessage seq.toNat = true ∧ s.red.join = some j ∧ j.gotModule = true) ∧
    (∃ (s : State) (seq : BitVec 64), Ready s ∧ s.takesMessage seq.toNat = true ∧ s.lockstepStandby = true) :=
  ⟨⟨(baseS 1 .stop), (nq (baseS 1 .stop)), by unfold Ready; decide +kernel⟩,
    ⟨(wHr actS), (nq (wHr actS)), sq9, hr, 2, 0, [1], by unfold Ready; decide +kernel⟩,
    ⟨actS, (nq actS), by unfold Ready; decide +kernel⟩,
    ⟨(jn false sB), (nq (jn false sB)), ⟨1, 0, false, []⟩, by unfold Ready; decide +kernel⟩,
    ⟨(jn true sB), (nq (jn true sB)), ⟨1, 0, true, []⟩, by unfold Ready; decide +kernel⟩,
    ⟨stbS, (nq stbS), by unfold Ready; decide +kernel⟩⟩

theorem witness_Agreement :
    (∃ (s : State) (seq : BitVec 64), Ready s ∧ s.takesMessage seq.toNat = true ∧ s.lockstepStandby = true) ∧
(∃ (s : State) (seq : BitVec 64) (words : List (BitVec 32)), Ready s ∧ s.takesMessage seq.toNat = true ∧ s.lockstepStandby = true ∧ words.length = 32) ∧
(∃ (s : State) (seq : BitVec 64) (k : Fin 64) (r : TaskRec), Ready s ∧ s.takesMessage seq.toNat = true ∧ s.lockstepStandby = true ∧ s.taskRec k = some
      r) ∧
    (∃ (s : State) (seq : BitVec 64), Ready s ∧ s.takesMessage seq.toNat = true ∧ s.lockstepStandby = true) ∧
(∃ (s : State) (seq : BitVec 64) (ch : Fin 256), Ready s ∧ s.takesMessage seq.toNat = true ∧ s.lockstepStandby = true ∧ (s.fieldRec 0 ch).isSome =
      true) ∧
(∃ (s : State) (seq : BitVec 64) (n : Fin 256) (no : BitVec 32) (h : HeldSnap), Ready s ∧ s.takesMessage seq.toNat = true ∧ s.lockstepStandby = true ∧
      s.scan.held.find? (fun x => x.string == n.val && x.snap.no == no.toNat) = some h ∧ ((s.strX n).snaps.any fun x => x.no == no.toNat) = false) ∧
    (∃ (s : State) (seq : BitVec 64), Ready s ∧ s.takesMessage seq.toNat = true ∧ s.lockstepStandby = true) ∧
(∃ (s : State) (seq : BitVec 64) (c : AgreeCommit), Ready s ∧ s.takesMessage seq.toNat = true ∧ s.red.rxNext.getD seq.toNat = seq.toNat ∧
      s.red.rxMissing = [] ∧ s.red.commitDue = true ∧ s.rd Obj.prot.cycleNo = c.cycle ∧ (s.red.detached = false ∨ s.red.join.isSome = true)) ∧
    (∃ (s : State), Ready s ∧ s.red.commitDue = true ∧ s.sys.mode = .standby ∧ s.sys.modeCmds = []) ∧
    (∃ (s : State), Ready s ∧ s.sys.mode = .standby ∧ s.red.detached = true ∧ (s.red.ilAt.any fun t => decide (s.up ≤ t + 100000)) = true) ∧
    (∃ (s : State) (n : Fin 256) (no : BitVec 32) (q : Snap), Ready s ∧ (s.strX n).snaps.find? (fun x => x.no == no.toNat) = some q) :=
  ⟨⟨stbS, (nq stbS), by unfold Ready; decide +kernel⟩,
    ⟨stbS, (nq stbS), (List.replicate 32 5), by unfold Ready; decide +kernel⟩,
    ⟨stbS, (nq stbS), 0, tr0, by unfold Ready; decide +kernel⟩,
    ⟨stbS, (nq stbS), by unfold Ready; decide +kernel⟩,
    ⟨(wH sB), (nq (wH sB)), 3, by unfold Ready; decide +kernel⟩,
    ⟨(wH sB), (nq (wH sB)), 3, 77, ⟨3, sn0⟩, by unfold Ready; decide +kernel⟩,
    ⟨stbS, (nq stbS), by unfold Ready; decide +kernel⟩,
    ⟨sBd, (nq sBd), (ac0 sBd), by unfold Ready; decide +kernel⟩,
    ⟨sBd, by unfold Ready; decide +kernel⟩,
    ⟨sDet, by unfold Ready; decide +kernel⟩,
    ⟨(wO sB), 3, 77, sn0, by unfold Ready; decide +kernel⟩⟩

theorem witness_PairCommands :
    (∃ (s : State), Ready s) ∧
    (∃ (s : State) (k : Fin 64), Ready s ∧ s.manager = true ∧ s.owner = true ∧ s.sys.mode ≠ .boot ∧ 1 ≤ k.val ∧ k.val ≤ s.redRec.workers) ∧
(∃ (s : State) (i : Fin 68) (seq : BitVec 32) (words : List (BitVec 32)), Ready s ∧ OpenSession s i ∧ s.hasRight i Rt.w = true ∧ words.length = 32 ∧
      s.role = 3 ∧ s.owner = true ∧ s.red.due = [] ∧ (s.red.dispSeq.all fun no => noAbove seq.toNat no) = true) ∧
    (∃ (s : State), Ready s ∧ s.role = 3 ∧ s.dispState = 1) ∧
    (∃ (s : State), Ready s ∧ s.role = 3 ∧ (s.dispState = 1 ∨ s.dispState = 2)) :=
  ⟨⟨State.reset, by unfold Ready; decide +kernel⟩,
    ⟨w2, 2, by unfold Ready; decide +kernel⟩,
    ⟨w3, 2, 7, (List.replicate 32 5), by unfold Ready OpenSession; decide +kernel⟩,
    ⟨w3b, by unfold Ready; decide +kernel⟩,
    ⟨w3b, by unfold Ready; decide +kernel⟩⟩

end W13

end Sys2Proof.Tests
end

/-! ### Commands to the cells that a string does not have (R4, R9) -/

namespace Sys2Proof.Machine

/-- On a module that runs its firmware, a command whose meaning leaves the state alone completes in the very same state. -/
theorem Completes.unchanged_of_live {c : Instr} {s : State} {f : State → State} (hc : exec c s = s.live f) (h : Ready s)
    (hf : f s = s) : Completes c s fun t => t = s :=
  Completes.of_live hc h (by rw [hf, State.dark_of_powered h.1])

/-- The global cell index splits back into string and position (R4), so its cell exists when the string has the position. -/
theorem State.cellExists_mul_add (s : State) (n : Nat) {k : Nat} (hk : k < 512) :
    s.cellExists (n * 512 + k) = decide (k < s.cellsOf n) := by
  have hpos : (n * 512 + k) % 512 = k := by omega
  have hstr : (n * 512 + k) / 512 = n := by omega
  rw [State.cellExists, hpos, hstr]

/-! What each command to a cell does where the index addresses none: nothing. -/

section Absent
variable {s : State} {i : Nat} (h : s.cellExists i = false)
include h

theorem resetCov_of_absent : resetCov i s = s := by simp [resetCov, h]

theorem setSoc_of_absent (soc : Nat) : setSoc i soc s = s := by simp [setSoc, h]

theorem cellClearCounters_of_absent : cellClearCounters i s = s := by simp [cellClearCounters, h]

/-- LEARN_CMD looks for the cell before the mode and before the command's own effect. -/
theorem learnCmd_of_absent (code : Nat) (f : State → State) : learnCmd i code f s = s := by simp [learnCmd, h]

theorem clearLearning_of_absent : clearLearning i s = s := by simp [clearLearning, h]

end Absent

/-- Settles O58: the index splits back into its string and position, the position is beyond the string's cells, and every command to a
cell looks first whether the cell exists. -/
theorem absentCellsAddressNothing : Obligations.AbsentCellsAddressNothing := by
  intro s n k i soc cap hready hidx hbeyond
  have habsent : s.cellExists i = false := by
    rw [hidx, State.cellExists_mul_add s n k.isLt]
    exact decide_eq_false (Nat.not_lt.mpr hbeyond)
  exact ⟨habsent,
    .unchanged_of_live rfl hready (resetCov_of_absent habsent),
    .unchanged_of_live rfl hready (setSoc_of_absent habsent soc.toNat),
    .unchanged_of_live rfl hready (cellClearCounters_of_absent habsent),
    .unchanged_of_live rfl hready (learnCmd_of_absent habsent LearnCmd.resetScales _),
    .unchanged_of_live rfl hready (learnCmd_of_absent habsent LearnCmd.resetCapacity _),
    .unchanged_of_live rfl hready (learnCmd_of_absent habsent LearnCmd.setCapacity _),
    .unchanged_of_live rfl hready (clearLearning_of_absent habsent)⟩

end Sys2Proof.Machine

/-! ### Silence of a ring port and its events (R86) -/

namespace Sys2Proof.Machine

/-! What the recorder's buffer lists, under the operations on its records (R554, R556). -/

/-- A record of the event with this code, source instance and time. -/
def EvRecord.isEvent (code inst time : Nat) (r : EvRecord) : Bool := r.code == code && r.inst == inst && r.time == time

/-- Records of equal TIME exchange their record numbers only, so an insertion lists what stood and the new record. -/
theorem any_isEvent_appendRec (code inst time flushed : Nat) (r : EvRecord) (l : List EvRecord) :
    (appendRec flushed r l).any (EvRecord.isEvent code inst time) =
      (r.isEvent code inst time || l.any (EvRecord.isEvent code inst time)) := by
  induction l generalizing r with
  | nil => simp [appendRec]
  | cons h t ih =>
    rw [appendRec]
    split
    · rw [List.any_cons, List.any_cons, ih]
      exact Bool.or_left_comm ..
    · simp only [List.any_cons]

theorem length_appendRec (flushed : Nat) (r : EvRecord) (l : List EvRecord) : (appendRec flushed r l).length = l.length + 1 := by
  induction l generalizing r with
  | nil => rfl
  | cons h t ih =>
    rw [appendRec]
    split
    · simp only [List.length_cons, ih]
    · simp only [List.length_cons]

theorem any_isEvent_updateNewest (code inst time cls src : Nat) {f : EvRecord → EvRecord}
    (hf : ∀ r, (f r).isEvent code inst time = r.isEvent code inst time) (l : List EvRecord) :
    (updateNewest cls src f l).any (EvRecord.isEvent code inst time) = l.any (EvRecord.isEvent code inst time) := by
  induction l with
  | nil => rfl
  | cons r t ih =>
    rw [updateNewest]
    split
    · simp only [List.any_cons, hf]
    · simp only [List.any_cons, ih]

theorem length_updateNewest (cls src : Nat) (f : EvRecord → EvRecord) (l : List EvRecord) :
    (updateNewest cls src f l).length = l.length := by
  induction l with
  | nil => rfl
  | cons r t ih =>
    rw [updateNewest]
    split
    · simp only [List.length_cons]
    · simp only [List.length_cons, ih]

/-! An event that a buffer holds stays there as long as the buffer has room for what is appended after it. -/

/-- The buffer lists the event, and `room` more records push none out of its 65,536 entries (R558). -/
structure HoldsEvent (code inst time room : Nat) (l : List EvRecord) : Prop where
  fits : l.length + room ≤ 65536
  listed : l.any (EvRecord.isEvent code inst time) = true

theorem HoldsEvent.mono {code inst time room room' : Nat} {l : List EvRecord} (h : HoldsEvent code inst time room l)
    (hle : room' ≤ room) : HoldsEvent code inst time room' l :=
  ⟨Nat.le_trans (Nat.add_le_add_left hle _) h.fits, h.listed⟩

theorem HoldsEvent.updateNewest {code inst time room : Nat} {l : List EvRecord} (h : HoldsEvent code inst time room l) (cls src : Nat)
    {f : EvRecord → EvRecord} (hf : ∀ r, (f r).isEvent code inst time = r.isEvent code inst time) :
    HoldsEvent code inst time room (updateNewest cls src f l) :=
  ⟨by rw [length_updateNewest]; exact h.fits, by rw [any_isEvent_updateNewest _ _ _ _ _ hf]; exact h.listed⟩

/-- A buffer into which a record was put, cut at its 65,536 entries, holds an event that it listed before or that the record is of. -/
theorem HoldsEvent.appendRec {code inst time room : Nat} {r : EvRecord} {l : List EvRecord} (hfits : l.length + (room + 1) ≤ 65536)
    (h : (r.isEvent code inst time || l.any (EvRecord.isEvent code inst time)) = true) (flushed : Nat) :
    HoldsEvent code inst time room ((appendRec flushed r l).take 65536) := by
  have hlen : (Machine.appendRec flushed r l).length + room ≤ 65536 := by rw [length_appendRec]; omega
  rw [List.take_of_length_le (Nat.le_of_add_right_le hlen)]
  exact ⟨hlen, by rw [any_isEvent_appendRec]; exact h⟩

/-! The recorder under writes of objects and of port records. -/

@[simp] theorem State.wr_rcd (a : Nat) (v : Word) (s : State) : (s.wr a v).rcd = s.rcd := rfl
@[simp] theorem State.wrBit_rcd (a i : Nat) (b : Bool) (s : State) : (s.wrBit a i b).rcd = s.rcd := rfl
@[simp] theorem State.flag_rcd (a i : Nat) (s : State) : (s.flag a i).rcd = s.rcd := rfl
@[simp] theorem State.calStale_rcd (n : Nat) (s : State) : (s.calStale n).rcd = s.rcd := by
  rw [State.calStale, State.flag_rcd, State.flag_rcd]
@[simp] theorem State.setPortX_rcd (i : Nat) (f : PortX → PortX) (s : State) : (s.setPortX i f).rcd = s.rcd := rfl
@[simp] theorem State.rd_setPortX (i : Nat) (f : PortX → PortX) (s : State) (a : Nat) : (s.setPortX i f).rd a = s.rd a := rfl

@[simp] theorem State.dark_rcd (s : State) : s.dark.rcd = s.rcd := by
  unfold State.dark
  split <;> rfl

/-- What an append does to the buffer: nothing where no entry is open to the event's class (R558), else a record of the event goes in and
the newest of its source is sealed. -/
theorem State.appendEvent_buffer (code inst : Nat) (p1 p2 p3 : Word) (s : State) :
    (64512 ≤ s.rcd.unflushed ∧ (s.appendEvent code inst p1 p2 p3).rcd.buffer = s.rcd.buffer) ∨
    ∃ e : EvRecord, e.isEvent code inst s.now = true ∧ (s.appendEvent code inst p1 p2 p3).rcd.buffer =
      (Machine.appendRec s.rcd.flushedRn e
        (Machine.updateNewest (classOf code) inst (fun x => { x with sealed_ := true }) s.rcd.buffer)).take 65536 := by
  unfold State.appendEvent
  by_cases hfull : (if reservedClass code = true then 65536 else 64512) ≤ s.rcd.unflushed
  · simp only [hfull, if_true]
    refine .inl ⟨Nat.le_trans ?_ hfull, rfl⟩
    split <;> decide
  · simp only [hfull, if_false]
    exact .inr ⟨_, by simp [EvRecord.isEvent], rfl⟩

section Kept
variable {code inst time room : Nat} {s : State}

theorem HoldsEvent.appendEvent (h : HoldsEvent code inst time (room + 1) s.rcd.buffer) (code' inst' : Nat) (p1 p2 p3 : Word) :
    HoldsEvent code inst time room (s.appendEvent code' inst' p1 p2 p3).rcd.buffer := by
  rcases State.appendEvent_buffer code' inst' p1 p2 p3 s with ⟨-, hbuf⟩ | ⟨e, -, hbuf⟩
  · rw [hbuf]
    exact h.mono (Nat.le_succ room)
  · rw [hbuf]
    have hsealed := h.updateNewest (classOf code') inst' (f := fun x => { x with sealed_ := true }) fun _ => rfl
    exact .appendRec hsealed.fits (by rw [hsealed.listed, Bool.or_true]) _

/-- An event for which an entry is open is held once it is appended. -/
theorem HoldsEvent.of_appendEvent (hopen : s.rcd.unflushed < 64512) (hfits : s.rcd.buffer.length + (room + 1) ≤ 65536) (p1 p2 p3 : Word) :
    HoldsEvent code inst s.now room (s.appendEvent code inst p1 p2 p3).rcd.buffer := by
  rcases State.appendEvent_buffer code inst p1 p2 p3 s with ⟨hfull, -⟩ | ⟨e, hevent, hbuf⟩
  · omega
  · rw [hbuf]
    exact .appendRec (by rw [length_updateNewest]; exact hfits) (by rw [hevent, Bool.true_or]) _

/-- The events of the append itself are at most two: records lost, and a counter at its end (R555, R558). -/
theorem HoldsEvent.raise_after {t : State} (h : HoldsEvent code inst time (room + 2) t.rcd.buffer) (code' inst' : Nat) :
    HoldsEvent code inst time room (State.raise.after code' inst' s t).rcd.buffer := by
  unfold State.raise.after
  dsimp only
  split
  · have hlost := h.appendEvent 0x1D0 0 (w32 s.rcd.lostRun) (w32 (t.rcd.unflushed * 100 / 65536)) 0
    split
    · exact hlost.appendEvent ..
    · exact hlost.mono (Nat.le_succ room)
  · split
    · exact (h.mono (Nat.le_succ _)).appendEvent ..
    · exact h.mono (Nat.le_add_right room 2)

/-- Raising an event puts at most three records into the buffer and changes no record's code, source or time. -/
theorem HoldsEvent.raise (h : HoldsEvent code inst time (room + 3) s.rcd.buffer) (code' inst' p1 p2 p3 : Nat) :
    HoldsEvent code inst time room (s.raise code' inst' p1 p2 p3).rcd.buffer := by
  have happended : HoldsEvent code inst time room
      (State.raise.after code' inst' s (s.appendEvent code' inst' (w32 p1) (w32 p2) (w32 p3))).rcd.buffer :=
    (h.appendEvent ..).raise_after ..
  have hroom : room ≤ room + 3 := Nat.le_add_right room 3
  unfold State.raise
  split
  · dsimp only
    split
    · split
      · exact (h.mono hroom).updateNewest _ _ fun _ => rfl
      · exact happended
    · exact happended
  · exact h.mono hroom

end Kept

/-- At this time the module records events, and its buffer has nothing in it and nothing to flush. -/
structure EmptyRecorder (time : Nat) (s : State) : Prop where
  recording : s.recording = true
  unflushed : s.rcd.unflushed = 0
  empty : s.rcd.buffer = []
  now : s.now = time

namespace EmptyRecorder
variable {time : Nat} {s t : State}

theorem of_ready (h : Ready s) (hunflushed : s.rcd.unflushed = 0) (hempty : s.rcd.buffer = []) : EmptyRecorder s.now s :=
  ⟨by simp [State.recording, h.1, h.2], hunflushed, hempty, rfl⟩

theorem congr (h : EmptyRecorder time s) (hsys : t.sys = s.sys) (hrcd : t.rcd = s.rcd) (hnow : t.now = s.now) : EmptyRecorder time t :=
  ⟨by rw [State.recording, hsys]; exact h.recording, by rw [hrcd]; exact h.unflushed, by rw [hrcd]; exact h.empty,
    by rw [hnow]; exact h.now⟩

theorem wr (h : EmptyRecorder time s) (a : Nat) (v : Word) : EmptyRecorder time (s.wr a v) :=
  h.congr (State.wr_sys a v s) (State.wr_rcd a v s) (State.wr_now a v s)

theorem wrBit (h : EmptyRecorder time s) (a k : Nat) (b : Bool) : EmptyRecorder time (s.wrBit a k b) := h.wr ..

theorem flag (h : EmptyRecorder time s) (a k : Nat) : EmptyRecorder time (s.flag a k) := h.wrBit ..

theorem setPortX (h : EmptyRecorder time s) (i : Nat) (f : PortX → PortX) : EmptyRecorder time (s.setPortX i f) := h.congr rfl rfl rfl

/-- An event raised into the empty buffer is held there. -/
theorem holdsEvent_raise (h : EmptyRecorder time s) (code inst p1 p2 p3 : Nat) :
    HoldsEvent code inst time 65533 (s.raise code inst p1 p2 p3).rcd.buffer := by
  have hraise : s.raise code inst p1 p2 p3 =
      State.raise.after code inst s (s.appendEvent code inst (w32 p1) (w32 p2) (w32 p3)) := by
    simp only [State.raise, h.recording, h.empty, newestOf, List.find?_nil, if_true]
  rw [hraise, ← h.now]
  have hopen : s.rcd.unflushed < 64512 := by rw [h.unflushed]; decide
  have hfits : s.rcd.buffer.length + (65533 + 2 + 1) ≤ 65536 := by rw [h.empty]; decide
  exact (HoldsEvent.of_appendEvent hopen hfits ..).raise_after ..

end EmptyRecorder

/-! The state of a ring: what its declaration leaves alone (R94 to R98). -/

section Ring
variable {code inst time room : Nat} {s : State}

/-- Declaring a ring's state changes nothing, or writes RING and raises event 0x045, marks the calibration stale or not, and raises event
0x046 with its flags or not (R96 to R98). -/
theorem State.declareRing_cases (n port st rw re : Nat) (s : State) :
    s.declareRing n port st rw re = s ∨
    ∃ (w : Word) (old p : Nat) (t : State),
      (t = (s.wr (Obj.port.ring n) w).raise 0x045 n old st p ∨ t = ((s.wr (Obj.port.ring n) w).raise 0x045 n old st p).calStale n) ∧
      (s.declareRing n port st rw re = t ∨ ∃ p1 p2, s.declareRing n port st rw re =
        ((t.raise 0x046 n p1 p2 port).flag (Obj.port.portFlags n) 7).flag (Obj.port.portFlags (256 + n)) 7) := by
  unfold State.declareRing
  extract_lets old
  split
  case isTrue => exact .inl rfl
  case isFalse _ w _ t _ =>
    refine .inr ⟨w, old, rw + 256 * re, t, ?_, ?_⟩
    · by_cases hleft : old = Rs.closed ∧ st ≠ Rs.closed
      · exact .inr (if_pos hleft)
      · exact .inl (if_neg hleft)
    · split
      · exact .inr ⟨_, _, rfl⟩
      · exact .inl rfl

/-- Declaring a ring's state raises at most two events. -/
theorem HoldsEvent.declareRing (h : HoldsEvent code inst time (room + 6) s.rcd.buffer) (n port st rw re : Nat) :
    HoldsEvent code inst time room (s.declareRing n port st rw re).rcd.buffer := by
  rcases State.declareRing_cases n port st rw re s with hsame | ⟨w, old, p, t, ht, hend⟩
  · rw [hsame]
    exact h.mono (Nat.le_add_right room 6)
  · have hdeclared : HoldsEvent code inst time (room + 3) t.rcd.buffer := by
      have hraised := HoldsEvent.raise (s := s.wr (Obj.port.ring n) w) (room := room + 3) h 0x045 n old st p
      rcases ht with rfl | rfl
      · exact hraised
      · rw [State.calStale_rcd]
        exact hraised
    rcases hend with hend | ⟨p1, p2, hend⟩
    · rw [hend]
      exact hdeclared.mono (Nat.le_add_right room 3)
    · rw [hend, State.flag_rcd, State.flag_rcd]
      exact hdeclared.raise ..

theorem HoldsEvent.deriveRing (h : HoldsEvent code inst time (room + 6) s.rcd.buffer) (n port : Nat) :
    HoldsEvent code inst time room (s.deriveRing n port).rcd.buffer := by
  unfold State.deriveRing
  split
  · exact h.declareRing ..
  · exact h.mono (Nat.le_add_right room 6)

theorem HoldsEvent.takeReach (h : HoldsEvent code inst time (room + 6) s.rcd.buffer) (i : Nat) (x : Option HbSeen) :
    HoldsEvent code inst time room (s.takeReach i x).rcd.buffer := by
  unfold State.takeReach
  split
  · exact h.mono (Nat.le_add_right room 6)
  · refine HoldsEvent.deriveRing ?_ ..
    rw [State.wrBit_rcd, State.setPortX_rcd]
    exact h

/-- Items of different numbers are different objects, whatever their instances (R6). -/
theorem obj_ne_of_item {space i j item item' : Nat} (h : item % 2 ^ 7 ≠ item' % 2 ^ 7) : obj space i item ≠ obj space j item' := by
  unfold obj
  omega

/-- Items of different address spaces are different objects (R6). -/
theorem obj_ne_of_space {space space' i j item item' : Nat} (h : space ≠ space') : obj space i item ≠ obj space' j item' := by
  unfold obj
  omega

theorem recorderItem_portStatus (i : Nat) : recorderItem (Obj.port.portStatus i) = false := by
  simp only [recorderItem, Bool.or_eq_false_iff, beq_eq_false_iff_ne]
  exact ⟨⟨⟨obj_ne_of_space (by decide), obj_ne_of_space (by decide)⟩, obj_ne_of_space (by decide)⟩, obj_ne_of_space (by decide)⟩

/-- Events and flags of a port leave PORT_STATUS alone. -/
theorem rd_portStatus_raise (i code inst p1 p2 p3 : Nat) (s : State) :
    (s.raise code inst p1 p2 p3).rd (Obj.port.portStatus i) = s.rd (Obj.port.portStatus i) :=
  State.rd_raise code inst p1 p2 p3 s (recorderItem_portStatus i)

theorem rd_portStatus_flag_portFlags (i k b : Nat) (s : State) :
    (s.flag (Obj.port.portFlags k) b).rd (Obj.port.portStatus i) = s.rd (Obj.port.portStatus i) :=
  State.rd_flag_ne (obj_ne_of_item (by decide)) b s

theorem rd_portStatus_calStale (i n : Nat) (s : State) :
    (s.calStale n).rd (Obj.port.portStatus i) = s.rd (Obj.port.portStatus i) := by
  rw [State.calStale, State.rd_flag_ne (obj_ne_of_space (by decide)), State.rd_flag_ne (obj_ne_of_item (by decide))]

theorem rd_portStatus_declareRing (i n port st rw re : Nat) (s : State) :
    (s.declareRing n port st rw re).rd (Obj.port.portStatus i) = s.rd (Obj.port.portStatus i) := by
  rcases State.declareRing_cases n port st rw re s with hsame | ⟨w, old, p, t, ht, hend⟩
  · rw [hsame]
  · have hdeclared : t.rd (Obj.port.portStatus i) = s.rd (Obj.port.portStatus i) := by
      have hring := State.rd_wr_ne (obj_ne_of_item (by decide) : Obj.port.portStatus i ≠ Obj.port.ring n) w s
      rcases ht with rfl | rfl
      · rw [rd_portStatus_raise, hring]
      · rw [rd_portStatus_calStale, rd_portStatus_raise, hring]
    rcases hend with hend | ⟨p1, p2, hend⟩
    · rw [hend, hdeclared]
    · rw [hend, rd_portStatus_flag_portFlags, rd_portStatus_flag_portFlags, rd_portStatus_raise, hdeclared]

theorem rd_portStatus_deriveRing (i n port : Nat) (s : State) :
    (s.deriveRing n port).rd (Obj.port.portStatus i) = s.rd (Obj.port.portStatus i) := by
  unfold State.deriveRing
  split
  · exact rd_portStatus_declareRing ..
  · rfl

/-- Taking up a reach writes ORIGIN of PORT_STATUS and leaves SILENT as it is (R94). -/
theorem silent_takeReach (i : Nat) (x : Option HbSeen) (s : State) :
    (s.takeReach i x).bit (Obj.port.portStatus i) 7 = s.bit (Obj.port.portStatus i) 7 := by
  unfold State.takeReach
  split
  · rfl
  · rw [State.bit, rd_portStatus_deriveRing, ← State.bit, State.bit_wrBit_ne (by decide) (by decide)]
    rfl

end Ring

/-! The two meanings of R86. -/

/-- The first HEARTBEAT at a silent port that is UP clears SILENT and raises event 0x044; then it may set the port's reach (R86, R94). -/
theorem heartbeatReceive_of_silent {i : Nat} {s : State} (hup : s.link i = Link.up) (hsilent : s.bit (Obj.port.portStatus i) 7 = true)
    (node : Bool) (hops : Nat) :
    ∃ (w : Word) (p1 p2 : Nat) (f : PortX → PortX) (woken : State),
      woken = (((s.wr (Obj.port.hbLast i) w).wrBit (Obj.port.portStatus i) 7 false).raise 0x044 i p1 p2 0).setPortX i f ∧
      (heartbeatReceive i node hops s = woken ∨ heartbeatReceive i node hops s = woken.takeReach i (some ⟨node, hops⟩)) := by
  have hstill (w : Word) : (s.wr (Obj.port.hbLast i) w).bit (Obj.port.portStatus i) 7 = true := by
    rw [State.bit_wr_ne (obj_ne_of_item (by decide)), hsilent]
  unfold heartbeatReceive
  simp only [hup, hstill, if_true]
  split
  · exact ⟨_, _, _, _, _, rfl, .inr rfl⟩
  · exact ⟨_, _, _, _, _, rfl, .inl rfl⟩

/-- Silence at a port that was heard sets SILENT and its flag and raises event 0x043 (R86). -/
theorem portSilent_of_heard {i : Nat} {s : State} (h : s.bit (Obj.port.portStatus i) 7 = false) :
    ∃ (p : Nat) (f : PortX → PortX), portSilent i s =
      (((s.flag (Obj.port.portStatus i) 7).flag (Obj.port.portFlags i) 4).setPortX i f).raise 0x043 i p 0 0 := by
  unfold portSilent
  simp only [h, Bool.false_eq_true, if_false]
  exact ⟨_, _, rfl⟩

section Silence
variable {s : State} {i time : Nat} (hrec : EmptyRecorder time s)
include hrec

theorem portSilent_silence (hheard : s.bit (Obj.port.portStatus i) 7 = false) :
    (portSilent i s).bit (Obj.port.portStatus i) 7 = true ∧ HoldsEvent 0x043 i time 65533 (portSilent i s).rcd.buffer := by
  obtain ⟨p, f, heq⟩ := portSilent_of_heard hheard
  rw [heq]
  constructor
  · rw [State.bit, rd_portStatus_raise, State.rd_setPortX, rd_portStatus_flag_portFlags, ← State.bit]
    exact State.bit_flag_self (by decide) ..
  · exact (((hrec.flag ..).flag ..).setPortX ..).holdsEvent_raise ..

theorem heartbeatReceive_endsSilence (hup : s.link i = Link.up) (hsilent : s.bit (Obj.port.portStatus i) 7 = true) (node : Bool)
    (hops : Nat) : (heartbeatReceive i node hops s).bit (Obj.port.portStatus i) 7 = false ∧
      HoldsEvent 0x044 i time 65527 (heartbeatReceive i node hops s).rcd.buffer := by
  obtain ⟨w, p1, p2, f, woken, hwoken, hend⟩ := heartbeatReceive_of_silent hup hsilent node hops
  have hbit : woken.bit (Obj.port.portStatus i) 7 = false := by
    rw [hwoken, State.bit, State.rd_setPortX, rd_portStatus_raise, ← State.bit]
    exact State.bit_wrBit_self (by decide) ..
  have hevent : HoldsEvent 0x044 i time 65533 woken.rcd.buffer := by
    rw [hwoken, State.setPortX_rcd]
    exact ((hrec.wr ..).wrBit ..).holdsEvent_raise ..
  rcases hend with hend | hend
  · rw [hend]
    exact ⟨hbit, hevent.mono (by decide)⟩
  · rw [hend, silent_takeReach]
    exact ⟨hbit, hevent.takeReach ..⟩

end Silence

/-- Settles O18: each of the two events is raised into an empty buffer, so it is listed there, and what a HEARTBEAT raises after it for
the ring's state (R94 to R98) neither fills the buffer nor touches SILENT. -/
theorem silencePortEvents : Obligations.SilencePortEvents := by
  intro s i node hops hready hunflushed hempty
  have hrec := EmptyRecorder.of_ready hready hunflushed hempty
  constructor
  · intro hheard
    obtain ⟨hbit, hevent⟩ := portSilent_silence hrec hheard
    refine .of_live rfl hready ⟨?_, ?_⟩
    · rw [State.bit, State.rd_dark]
      exact hbit
    · rw [State.dark_rcd]
      exact hevent.listed
  · intro hup hsilent
    obtain ⟨hbit, hevent⟩ := heartbeatReceive_endsSilence hrec hup hsilent node hops
    refine .of_live rfl hready ⟨?_, ?_⟩
    · rw [State.bit, State.rd_dark]
      exact hbit
    · rw [State.dark_rcd]
      exact hevent.listed

end Sys2Proof.Machine

/-! ### Short Time within one period (R164) -/

namespace Sys2Proof.Machine

/-- Short Time is a residue of the tick count (R164). -/
theorem shortOf_eq_mod (t : Nat) : shortOf t = t / 4 % 2 ^ 32 := rfl

/-- Equal Short Times are tick counts congruent modulo the period. -/
theorem shortOf_eq_shortOf_iff {a b : Nat} : shortOf a = shortOf b ↔ a / 4 ≡ b / 4 [MOD 2 ^ 32] := by
  rw [shortOf_eq_mod, shortOf_eq_mod, Nat.ModEq]

/-- Settles O11: congruent tick counts that lie less than one period apart are equal. -/
theorem shortTimeNamesOneInstant : Obligations.ShortTimeNamesOneInstant := by
  intro a b
  refine ⟨shortOf_eq_mod a, fun hab hba hshort => ?_⟩
  have hcongr : a / 4 ≡ b / 4 [MOD 2 ^ 32] := shortOf_eq_shortOf_iff.mp hshort
  have hnear : |((b / 4 : Nat) : Int) - (a / 4 : Nat)| < (2 ^ 32 : Nat) := by
    rw [abs_lt]
    omega
  exact hcongr.eq_of_abs_lt hnear

end Sys2Proof.Machine
